-- ==== Sys2Proof/Word.lean ====
section
/-! DEFINITION. The numbers of the part: number spaces, blocks, days and octets are plain counts (0.4, 0.5). -/

namespace Sys2Proof

/-- An octet as it crosses the line or the kiosk port: a number 0 to 255 (12.1). -/
abbrev Octet := Nat

/-- Numbers of the three number spaces lie below this (0.4: 0 to 16,777,215). -/
def numberLimit : Nat := 16777216

/-- A block holds this many consecutive numbers (0.4). -/
def blockSize : Nat := 65536

/-- The largest day number (0.5). -/
def lastDay : Nat := 65535

/-- A day number limited to 65,535, as the rules on due, expiry and pickup-by days give it. -/
def capDay (d : Nat) : Nat := min d lastDay

end Sys2Proof
end

