-- ==== Sys2Proof/Config.lean ====
section
/-! DEFINITION. What the manual fixes for every CZ-24 (capacities and limits), and the free values:
constants with no body, for what the manual leaves open. -/

namespace Sys2Proof

/-- Table 9-1: places of the item pool. -/
def Config.itemPool : Nat := 6144
/-- Table 9-1: places of the title pool. -/
def Config.titlePool : Nat := 3072
/-- Table 9-1: places of the patron pool. -/
def Config.patronPool : Nat := 4096
/-- Table 9-1: places of the copy reference pool. -/
def Config.copyPool : Nat := 8192
/-- Table 9-1: places of the hold entry pool. -/
def Config.holdPool : Nat := 2048
/-- R28: copy references of one title. -/
def Config.copiesPerTitle : Nat := 16
/-- R29: hold entries of one title. -/
def Config.holdsPerTitle : Nat := 32
/-- R120, R121: places of the dispatch queue. -/
def Config.queuePlaces : Nat := 96
/-- R132: places of the send queue. -/
def Config.sendPlaces : Nat := 24
/-- R132: places that frames other than ANS and CLEAR may take. -/
def Config.sendShare : Nat := 20
/-- R91: transaction contexts. -/
def Config.contexts : Nat := 8
/-- R105: deferrals that end a step. -/
def Config.deferralLimit : Nat := 40
/-- R106: redirects that lead to a census. -/
def Config.redirectLimit : Nat := 2
/-- R143: attempts of a frame. -/
def Config.attempts : Nat := 4
/-- R126: failures of an entry that lead to a census or a removal. -/
def Config.failures : Nat := 4
/-- R135: lost contentions that promote a frame. -/
def Config.losses : Nat := 3
/-- R158: places of the census table. -/
def Config.censusPlaces : Nat := 16
/-- R192: places of the notice queue. -/
def Config.notices : Nat := 32
/-- R59, R155: records of one sweep burst or one freeing grant. -/
def Config.burst : Nat := 64
/-- Table 11-1, R204: closed days of one calendar. -/
def Config.closedDays : Nat := 64
/-- Table 11-1, R204: standing tests of one category row. -/
def Config.testsPerRow : Nat := 4
/-- R67: the balance limit in cents. -/
def Config.balanceLimit : Nat := 500000
/-- R68: the limit of a loan or hold count. -/
def Config.countLimit : Nat := 255

/-- Free value: a number stored in a record whose contents the manual does not give (R168: a
quarantined-record marker is written "with the quarantine mark set and no other field trusted").
The argument is the count of free values drawn before. See log entry 5. -/
opaque Config.freeNumber : Nat → BitVec 24

/-- Free value: a small code stored in such a record. See log entry 5. -/
opaque Config.freeCode : Nat → BitVec 8

/-- Free value: the 16-bit check word of a part, from the fields it covers in their order (R180). The manual gives the
word's width and coverage and no function. See log entry 2. -/
opaque Config.checkWord : List Nat → BitVec 16

end Sys2Proof
end

