-- ==== Sys2Proof/Syntax.lean ====
section
/-! DEFINITION. The commands of the part: one constructor of `Instr` per row of spec/opcode_table.json.
A command is one step of the part, whole and indivisible (95_what_each_step_holds.md). -/

namespace Sys2Proof

/-- The three number spaces (0.4). -/
inductive Space where
  | item | title | patron
  deriving DecidableEq, Repr, Inhabited

/-- A block is named by its space and its number (0.4). -/
structure Block where
  space : Space
  num : Nat
  deriving DecidableEq, Repr, Inhabited

/-- The five commands of the kiosk port (R188, Table 12-5). -/
inductive PortCommand where
  | submit | readAnswer | readNotice | readStatus | setMasks
  deriving DecidableEq, Repr, Inhabited

/-- What names nothing of its table: a command octet (R188), or the kind octet of a submitted
request record (R189, check 1) with the record's tag. -/
inductive UnknownOctet where
  | command (octet : Octet)
  | requestKind (octet : Octet) (tag : Nat)
  deriving DecidableEq, Repr

/-- A read exchange as the port sees it: its command octet taken, its last octet clocked out, or
both with nothing between (R188, R191, R193). -/
inductive ReadPart where
  | begins | completes | whole
  deriving DecidableEq, Repr

/-- Whether a submitted request record has the length and the count and presence octets its kind
requires (R189, R204). -/
inductive Framing where
  | whole | misshapen
  deriving DecidableEq, Repr

/-- Where a start reset falls (R179, R187): between grants, within the grant now held after some of
its commit units are complete, or within the store erase of a JOIN after some of its stages. -/
inductive ResetMoment where
  | quiet
  | inGrant (units : Nat)
  | inErase (stages : Nat)
  deriving DecidableEq, Repr

/-- A row of the class table (Table 11-1, Table 4-5). -/
structure ClassRow where
  rate : Nat
  grace : Nat
  cap : Nat
  period : Nat
  renewMax : Nat
  lostAfter : Nat
  replacement : Nat
  deriving DecidableEq, Repr, Inhabited

/-- A standing test as a configuration piece carries it, in code values (Table 12-7, Table 12-8). -/
structure RawTest where
  purposes : Nat
  quantity : Nat
  relation : Nat
  value : Nat
  deriving DecidableEq, Repr, Inhabited

/-- A configuration piece as the kiosk processor sends it (Table 11-1, Table 12-7). -/
inductive Piece where
  | stationNumber (station : Nat)
  | lineRate (code : Nat)
  | calendar (weekday0 closedMask : Nat) (days : List Nat)
  | classTable (rows : List ClassRow)
  | categoryTable (rows : List (List RawTest))
  | holdLife (days : Nat)
  | pickupWindow (days : Nat)
  | startDay (day : Nat)
  | initialMap (space : Space) (views : List Nat)
  | eraseFlag (mark : Nat)
  deriving DecidableEq, Repr

/-- The kind of a claim in a census (R154). -/
inductive ClaimKind where
  | firm | probing
  deriving DecidableEq, Repr, Inhabited

/-- A lane of a census window read as driven: the station and the half it drove (R154). -/
structure Claim where
  station : Nat
  kind : ClaimKind
  deriving DecidableEq, Repr, Inhabited

/-- Why an attempt of a frame ended undelivered (R138). -/
inductive SendResult where
  | noListener | refused | cleared
  deriving DecidableEq, Repr, Inhabited

/-- The commands (spec/opcode_table.json, in its order). -/
inductive Instr where
  | startReset (moment : ResetMoment)
  | unknownCommand (u : UnknownOctet)
  | exchangeCutShort (command : PortCommand)
  | readAnswer (part : ReadPart)
  | readNotice (part : ReadPart)
  | readStatus
  | setMasks (masks : BitVec 8)
  | lend (tag : Nat) (f : Framing) (patron item : Nat)
  | renew (tag : Nat) (f : Framing) (patron item : Nat)
  | checkIn (tag : Nat) (f : Framing) (item : Nat)
  | reserve (tag : Nat) (f : Framing) (patron title pickup : Nat)
  | cancel (tag : Nat) (f : Framing) (patron title : Nat)
  | payRequest (tag : Nat) (f : Framing) (patron amount : Nat)
  | account (tag : Nat) (f : Framing) (patron : Nat)
  | itemStatus (tag : Nat) (f : Framing) (item : Nat)
  | titleStatus (tag : Nat) (f : Framing) (title : Nat) (patron : Option Nat)
  | enrolTitle (tag : Nat) (f : Framing) (title holdable : Nat)
  | enrolPatron (tag : Nat) (f : Framing) (patron category cardExpiry : Nat)
  | updatePatron (tag : Nat) (f : Framing) (patron : Nat) (category cardExpiry : Option Nat)
  | enrolItem (tag : Nat) (f : Framing) (item title cls : Nat)
  | withdrawItem (tag : Nat) (f : Framing) (item : Nat)
  | withdrawTitle (tag : Nat) (f : Framing) (title : Nat)
  | withdrawPatron (tag : Nat) (f : Framing) (patron : Nat)
  | handOver (tag : Nat) (f : Framing) (space block receiver : Nat)
  | advanceDay (tag : Nat) (f : Framing) (day : Nat)
  | status (tag : Nat) (f : Framing)
  | faultRead (tag : Nat) (f : Framing)
  | configure (tag : Nat) (f : Framing) (piece : Piece)
  | join (tag : Nat) (f : Framing)
  | itemCreate
  | itemDelete
  | lendItem
  | extend
  | takeReturn
  | itemRead
  | titleCreate
  | titleDelete
  | copyAdd
  | holdAdd
  | holdDrop
  | titleRead
  | patronCreate
  | patronSet
  | patronDelete
  | standing
  | loanOpen
  | holdOpen
  | pay
  | accountRead
  | charge
  | credit
  | loanClose
  | holdEnded
  | copyState
  | copyFree
  | holdFilled
  | pickupLapsed
  | copyRemove
  | trap
  | untrap
  | allocate
  | redirect
  | release
  | sweepBurst
  | dayFrame
  | dayRequeueWait
  | contention (rivals : List Nat)
  | frameAcceptance (octets : List Octet) (refusedByOther : Bool)
  | frameCommit
  | clear (station : Nat)
  | holdLimit
  | clearGuard
  | frameDelivered
  | frameUndelivered (result : SendResult)
  | sendPlaceFreed
  | reqProcessing
  | ansProcessing
  | lateAnsRetry
  | answerLimit (ctx : Nat)
  | deferralWait (ctx : Nat)
  | movedFrame
  | movedRequeueWait (b : Block)
  | censusLane
  | censusWindowEnd (claims : List Claim)
  | probeRetryWait
  | retryTick
  | dispatchPlacesFreed
  | handoverFreeze
  | drainLimit
  | streamUnitRead
  | decisionLimit
  | blockQueryRetry
  | lastDecision
  | offer
  | streamUnitWrite
  | streamLast
  | idleLimit
  | confirmationCensusWait
  | blockQuery
  | recordFreeing
  deriving DecidableEq, Repr

end Sys2Proof
end

