-- ==== Sys2Proof/Machine/State.lean ====
section
/-! DEFINITION. The state of one CZ-24: every piece of state the manual gives the part, as plain data.
Tables keyed by a number are lists of (number, value) in rising order of the number. -/

namespace Sys2Proof.Machine

/-! ## Why a step can stop -/

/-- Reasons a command stops with a fault. No command of this part raises one: check failures and
discarded dispatches go into the fault capture and the part goes on (R181, R185). -/
inductive Fault where
  /-- Raised by nobody (safe: the model never stops with a fault). -/
  | none
  deriving DecidableEq, Repr

/-- Reasons a command has no meaning. -/
inductive Refusal where
  /-- Raised by `exec`'s arm of a row without a meaning (safe: no claim is made about the row). -/
  | notModelled (mnemonic : String)
  deriving DecidableEq, Repr

/-! ## Records (chapters 1, 2, 4, 9) -/

/-- The stored 16-bit check word of a part (R180, R168), held as its difference (exclusive or) from the word that is
computed over the part: R180 gives what the word covers and no function. `storedWord` of Machine/CheckWords.lean is the
word itself (log entry 2). -/
inductive CheckWord where
  /-- a word is stored, this far from the one computed over the part -/
  | off (difference : BitVec 16)
  /-- a quarantined-record marker is written without a check word (R180) -/
  | absent
  deriving DecidableEq, Repr, Inhabited

/-- The check word agrees with its part: the stored word is the one computed over the part. -/
abbrev CheckWord.agrees : CheckWord := .off 0#16

/-- The hold target of an item (Table 1-1). -/
structure HoldTarget where
  patron : Nat
  pickup : Nat
  deriving DecidableEq, Repr, Inhabited

/-- Item states with the fields Table 1-1 shows as present in each (R1). -/
inductive ItemState where
  | onShelf
  | onLoan (borrower due renewals : Nat) (trapped : Bool)
  | awaitRoute
  | pull (target : HoldTarget)
  | inTransit (target : Option HoldTarget) (destination : Nat)
  | held (target : HoldTarget) (ready pickupBy : Nat) (lapsed : Bool)
  | lost (borrower due lossFine replacement : Nat)
  deriving DecidableEq, Repr, Inhabited

/-- The seven state names (Table 12-8). -/
inductive ItemStateCode where
  | onShelf | onLoan | awaitRoute | pull | inTransit | held | lost
  deriving DecidableEq, Repr, Inhabited

/-- The item record (Table 1-1). Its number is its key in the pool. -/
structure Item where
  title : Nat
  cls : Nat
  shelf : Nat
  state : ItemState
  at_ : Nat
  currentTo : Nat
  quarantined : Bool
  check : CheckWord
  deriving DecidableEq, Repr, Inhabited

/-- The view state of a copy reference with the fields present in it (Table 2-2, R28). -/
inductive CopyView where
  | shelf
  | loan (due : Nat) (trapped : Bool)
  | away (allocated : Option Nat)
  | lost
  deriving DecidableEq, Repr, Inhabited

/-- A copy reference (Table 2-2). -/
structure CopyRef where
  item : Nat
  view : CopyView
  check : CheckWord
  deriving DecidableEq, Repr, Inhabited

/-- The state of a hold entry (Table 2-3). -/
inductive HoldState where
  | waiting
  | allocated (item : Nat)
  deriving DecidableEq, Repr, Inhabited

/-- A hold entry (Table 2-3). -/
structure HoldEntry where
  patron : Nat
  pickup : Nat
  placed : Nat
  expiry : Nat
  state : HoldState
  check : CheckWord
  deriving DecidableEq, Repr, Inhabited

/-- The title record (Table 2-1). -/
structure Title where
  holdable : Bool
  copies : List CopyRef
  holds : List HoldEntry
  currentTo : Nat
  quarantined : Bool
  check : CheckWord
  deriving DecidableEq, Repr, Inhabited

/-- The patron record (Table 4-1). -/
structure Patron where
  category : Nat
  cardExpiry : Nat
  balance : Nat
  saturated : Bool
  loans : Nat
  holds : Nat
  quarantined : Bool
  check : CheckWord
  deriving DecidableEq, Repr, Inhabited

/-! ## Configuration (chapter 11) -/

/-- The line rate in kbit/s (Table 11-1). -/
inductive LineRate where
  | r125 | r250 | r500 | r1000
  deriving DecidableEq, Repr, Inhabited

/-- The calendar piece (3.2): weekday of day 0, closed weekdays (bit 0 Monday), closed days. -/
structure Calendar where
  weekday0 : Nat
  closedMask : Nat
  closedDays : List Nat
  deriving DecidableEq, Repr, Inhabited

/-- The purposes of a standing decision (R75). -/
inductive Purpose where
  | lend | renew | reserve
  deriving DecidableEq, Repr, Inhabited

/-- The quantities of a standing test (Table 4-3). -/
inductive Quantity where
  | balance | loans | holds
  deriving DecidableEq, Repr, Inhabited

/-- The relations of a standing test (Table 4-3). -/
inductive Relation where
  | eq | ne | lt | le | gt | ge
  deriving DecidableEq, Repr, Inhabited

/-- A standing test (R75). -/
structure StandingTest where
  lend : Bool
  renew : Bool
  reserve : Bool
  quantity : Quantity
  relation : Relation
  value : Nat
  deriving DecidableEq, Repr, Inhabited

/-- A view of the initial map (Table 11-1). -/
inductive InitialView where
  | home
  | foreign (station : Nat)
  | unknown
  deriving DecidableEq, Repr, Inhabited

/-- The configuration record: each of the twelve pieces taken, or nothing (R197). -/
structure Configuration where
  stationNumber : Option Nat := none
  lineRate : Option LineRate := none
  calendar : Option Calendar := none
  classTable : Option (List ClassRow) := none
  categoryTable : Option (List (List StandingTest)) := none
  holdLife : Option Nat := none
  pickupWindow : Option Nat := none
  startDay : Option Nat := none
  mapItem : Option (List InitialView) := none
  mapTitle : Option (List InitialView) := none
  mapPatron : Option (List InitialView) := none
  eraseFlag : Option Bool := none
  deriving DecidableEq, Repr

/-- Station states (Table 11-2). -/
inductive StationState where
  | unconfigured | configured | joining | online
  deriving DecidableEq, Repr, Inhabited

/-! ## Codes (Table 12-8) -/

/-- Outcomes (Table 12-8). -/
inductive OutcomeCode where
  | done | refused | deferred | movedTo | notOwner | timedOut | unreachable | deferredOut | noOwner
  | busy | notOnline | badRequest | taken | none | unknownCommand | home | notHome | badCount
  deriving DecidableEq, Repr, Inhabited

/-- Reasons (Table 12-8), code 0 being no reason. -/
inductive Reason where
  | exists_ | poolFull | notFound | wrongState | heldForOther | holdLapsed | notBorrower | trapped
  | renewLimit | noGain | notEnrolled | copiesFull | notHoldable | noCopies | duplicateHold
  | queueFull | notEmpty | damaged | cardExpired | blocked | staleDay | busyHandover | noRoom
  | alreadyHome | notHome | notQuiet | badValue | incomplete | badCount | streamUndelivered
  deriving DecidableEq, Repr, Inhabited

/-- Operations (Table 12-8). -/
inductive OpCode where
  | itemCreate | itemDelete | lendItem | extend | takeReturn | itemRead | titleCreate | titleDelete
  | copyAdd | holdAdd | holdDrop | titleRead | patronCreate | patronSet | patronDelete | standing
  | loanOpen | holdOpen | pay | accountRead | offer | blockQuery | lastDecision
  deriving DecidableEq, Repr, Inhabited

/-- Routes (Table 1-4). -/
inductive Route where
  | shelve
  | send (station : Nat)
  | holdShelf
  | setAside
  | pull (station : Nat)
  deriving DecidableEq, Repr, Inhabited

/-! ## Owner operations and their answers (chapters 1, 2, 4, 5) -/

/-- An owner operation with the arguments of Table 5-3. -/
inductive OwnerOp where
  | itemCreate (item title cls shelf : Nat)
  | itemDelete (item : Nat)
  | lendItem (item patron cardExpiry lending : Nat)
  | extend (item patron cardExpiry : Nat)
  | takeReturn (item scanning : Nat)
  | itemRead (item : Nat)
  | titleCreate (title : Nat) (holdable : Bool)
  | titleDelete (title : Nat)
  | copyAdd (title item : Nat)
  | holdAdd (title patron pickup : Nat)
  | holdDrop (title patron : Nat)
  | titleRead (title : Nat) (patron : Option Nat)
  | patronCreate (patron category cardExpiry : Nat)
  | patronSet (patron : Nat) (category cardExpiry : Option Nat)
  | patronDelete (patron : Nat)
  | standing (patron : Nat)
  | loanOpen (patron : Nat)
  | holdOpen (patron : Nat)
  | pay (patron amount : Nat)
  | accountRead (patron : Nat)
  deriving DecidableEq, Repr, Inhabited

/-- The patron's entry in a TITLE_READ answer (R43). -/
structure EntrySummary where
  position : Nat
  allocated : Bool
  pickup : Nat
  expiry : Nat
  deriving DecidableEq, Repr, Inhabited

/-- The counts of a TITLE_READ answer (R43). -/
structure TitleSummary where
  holdable : Bool
  currentTo : Nat
  entries : Nat
  waiting : Nat
  allocated : Nat
  shelf : Nat
  loan : Nat
  away : Nat
  lost : Nat
  trapped : Nat
  entry : Option EntrySummary
  deriving DecidableEq, Repr, Inhabited

/-- The summary of an ITEM_READ answer (R20). -/
structure ItemSummary where
  title : Nat
  cls : Nat
  shelf : Nat
  state : ItemState
  at_ : Nat
  currentTo : Nat
  quarantined : Bool
  deriving DecidableEq, Repr, Inhabited

/-- The values an owner's rule attaches to an answer. -/
inductive Values where
  | nothing
  /-- R7 -/
  | itemCreated (item title : Nat)
  /-- R8 -/
  | itemDeleted (item title : Nat) (state : ItemStateCode)
  /-- R9 -/
  | lent (due : Nat) (shortened : Bool) (title : Nat)
  /-- R12 -/
  | extended (due : Nat) (shortened : Bool) (fine renewals : Nat)
  /-- R13 -/
  | returned (before after : ItemStateCode) (route : Route) (fine : Nat) (patron : Option Nat)
      (noChange : Bool)
  /-- R20 -/
  | itemSummary (r : ItemSummary)
  /-- R37 -/
  | titleCreated (title : Nat)
  /-- R38 -/
  | titleDeleted (title copies holds : Nat)
  /-- R39 -/
  | copyAdded (count : Nat)
  /-- R41 -/
  | holdAdded (position : Nat) (allocated : Bool)
  /-- R42: the item is present when the entry was ALLOCATED -/
  | holdDropped (item : Option Nat)
  /-- R43 -/
  | titleSummary (r : TitleSummary)
  /-- R71 -/
  | patronCreated (patron cardExpiry : Nat)
  /-- R72 -/
  | patronSet (category cardExpiry : Nat)
  /-- R73 -/
  | patronDeleted (patron : Nat)
  /-- R76 -/
  | standing (cardExpiry balance : Nat)
  /-- R77 -/
  | loanOpened (cardExpiry balance loans : Nat)
  /-- R78 -/
  | holdOpened (cardExpiry balance holds : Nat)
  /-- R80 -/
  | paid (taken balance : Nat) (saturated : Bool)
  /-- R81 -/
  | account (balance : Nat) (saturated : Bool) (loans holds cardExpiry category : Nat)
  /-- R74 -/
  | cardExpired (cardExpiry : Nat)
  /-- R75 -/
  | blocked (index : Nat) (quantity : Quantity) (value : Nat)
  /-- R73, refused NOT_EMPTY -/
  | notEmpty (loans holds balance : Nat)
  /-- R160, R161: the station that refused a handover -/
  | refusedBy (station : Nat)
  /-- R99: the receiving station's acceptance -/
  | acceptedBy (station : Nat)
  /-- R164, R169: the values of a handover exchange's answer -/
  | exchange (b : Block) (serial : Nat)
  deriving DecidableEq, Repr, Inhabited

/-- The answer to a step, or to a handover exchange (5.4, R164, R171). -/
inductive StepAnswer where
  | done (v : Values)
  | refused (r : Reason) (v : Values)
  | deferred
  | movedTo (station : Nat)
  | notOwner
  /-- answers of a handover exchange, which carry its block and serial -/
  | exchange (o : OutcomeCode) (b : Block) (serial : Nat)
  /-- a received ANS whose outcome and reason lie in Table 12-8 but that no owner answers with: R204 does
  not call it malformed, and no rule says what a context does with it (log entry 26) -/
  | other (o : OutcomeCode) (why : Option Reason)
  deriving DecidableEq, Repr, Inhabited

/-! ## Dispatches (chapter 6) -/

/-- Why a CHARGE was made (Table 4-4). -/
inductive ChargeReason where
  | overdue | lost
  deriving DecidableEq, Repr, Inhabited

/-- Why a hold ended (Table 4-4). -/
inductive HoldEnd where
  | cancelled | expired | lapsed | filled | notPlaced
  deriving DecidableEq, Repr, Inhabited

/-- The view state a COPY_STATE reports, with its due day when LOAN (R2). -/
inductive CopyReport where
  | shelf
  | loan (due : Nat)
  | away
  | lost
  deriving DecidableEq, Repr, Inhabited

/-- A dispatch with its target and body (Table 6-1, chapters 1, 2, 4, 8). -/
inductive Dispatch where
  | charge (patron cents item : Nat) (reason : ChargeReason)
  | credit (patron cents item : Nat)
  | loanClose (patron : Nat)
  | holdEnded (patron title : Nat) (reason : HoldEnd)
  | copyState (title item : Nat) (report : CopyReport) (refused : Bool)
  | copyFree (title item at_ : Nat)
  | holdFilled (title patron item : Nat)
  | pickupLapsed (title patron item : Nat)
  | copyRemove (title item : Nat)
  | trap (item : Nat)
  | untrap (item : Nat)
  | allocate (item title patron pickup : Nat)
  | redirect (item patron pickup : Nat)
  | release (item : Nat)
  | kioskNote (station item : Nat) (route : Route) (patron : Option Nat)
  | abandon (station : Nat) (b : Block) (serial : Nat)
  deriving DecidableEq, Repr, Inhabited

/-- OUTBOUND or INBOUND (Table 6-1). -/
inductive Direction where
  | outbound | inbound
  deriving DecidableEq, Repr, Inhabited

/-- The phase of an entry (Table 6-1). `applying` is an entry that has asked the store for its
application (INBOUND from its taking; a local OUTBOUND entry from its resolution). `awaitRoom` is Table 6-1's QUEUED
of a local OUTBOUND entry that waits for its 2 places (R128): a walk resolves it anew once its block is no longer
viewed HOME (log entry 38). -/
inductive EntryPhase where
  | queued
  | applying
  | awaitRoom
  | inFlight (destination : Nat)
  | waitTick
  | census
  deriving DecidableEq, Repr, Inhabited

/-- A dispatch queue entry (Table 6-1). `id` names it to the other blocks (the model's own). -/
structure Entry where
  id : Nat
  dir : Direction
  disp : Dispatch
  failures : Nat
  phase : EntryPhase
  deriving DecidableEq, Repr, Inhabited

/-- The dispatch queue, oldest entry first (R120). -/
structure DispatchQueue where
  entries : List Entry
  nextId : Nat
  deriving DecidableEq, Repr, Inhabited

/-! ## Transactions (chapter 5) -/

/-- A kiosk request that takes a context (Table 5-2). -/
inductive Request where
  | lend (patron item : Nat)
  | renew (patron item : Nat)
  | checkIn (item : Nat)
  | reserve (patron title pickup : Nat)
  | cancel (patron title : Nat)
  | pay (patron amount : Nat)
  | account (patron : Nat)
  | itemStatus (item : Nat)
  | titleStatus (title : Nat) (patron : Option Nat)
  | enrolTitle (title : Nat) (holdable : Bool)
  | enrolPatron (patron category cardExpiry : Nat)
  | updatePatron (patron : Nat) (category cardExpiry : Option Nat)
  | enrolItem (item title cls : Nat)
  | withdrawItem (item : Nat)
  | withdrawTitle (title : Nat)
  | withdrawPatron (patron : Nat)
  | handOver (b : Block) (receiver : Nat)
  deriving DecidableEq, Repr, Inhabited

/-- The phase of a RUNNING context (R93). The answer limit runs exactly in AWAITING, the deferral
wait exactly in DEFERRING. -/
inductive Phase where
  | local_ | sending | awaiting | deferring | census
  deriving DecidableEq, Repr, Inhabited

/-- The fields of a RUNNING context (Table 5-1). -/
structure Run where
  tag : Nat
  request : Request
  step : Nat
  phase : Phase
  attempts : Nat
  deferrals : Nat
  redirects : Nat
  gathered : Values
  /-- the compensation entry is reserved (R97) -/
  comp : Bool
  deriving DecidableEq, Repr, Inhabited

/-- The answer an ANSWERED context holds (R98, Table 12-6). -/
structure Answer where
  tag : Nat
  request : Request
  outcome : OutcomeCode
  reason : Option Reason
  step : Nat
  deferrals : Nat
  redirects : Nat
  attempts : Nat
  gathered : Values
  values : Values
  deriving DecidableEq, Repr, Inhabited

/-- The state of a context with the fields present in it (R91). -/
inductive CtxState where
  | free
  | running (r : Run)
  | answered (a : Answer)
  deriving DecidableEq, Repr, Inhabited

/-- A transaction context (Table 5-1). -/
structure Ctx where
  gen : Nat
  st : CtxState
  deriving DecidableEq, Repr, Inhabited

/-- The context reference a REQ carries and its ANS repeats (R102, R111). -/
structure CtxRef where
  ctx : Nat
  gen : Nat
  step : Nat
  deriving DecidableEq, Repr, Inhabited

/-! ## Frames (chapters 7, 8, 12) -/

/-- Records, copy references and hold entries, counted together (R161, Table 8-2). -/
structure Counts where
  records : Nat
  copies : Nat
  holds : Nat
  deriving DecidableEq, Repr, Inhabited

/-- A unit of a handed-over block (R162, Table 12-4). -/
inductive StreamUnit where
  | item (number : Nat) (r : Item)
  | patron (number : Nat) (r : Patron)
  | titleHeader (title : Nat) (holdable : Bool) (currentTo : Nat)
  | copyRef (c : CopyRef)
  | holdEntry (h : HoldEntry)
  | marker (space : Space) (number : Nat)
  deriving DecidableEq, Repr, Inhabited

/-- What a REQ asks (Table 12-3). -/
inductive Query where
  | op (o : OwnerOp)
  | offer (b : Block) (serial : Nat) (counts : Counts)
  | blockQuery (b : Block) (serial : Nat)
  deriving DecidableEq, Repr, Inhabited

/-- What an ANS carries (R111, Table 12-3). -/
structure Ans where
  ref : CtxRef
  op : OpCode
  patron : Nat
  item : Nat
  title : Nat
  answer : StepAnswer
  deriving DecidableEq, Repr, Inhabited

/-- The kind and body of a frame (Table 7-2, Table 12-3). -/
inductive Body where
  | clear (station : Nat)
  | ans (a : Ans)
  | req (r : CtxRef) (q : Query)
  | dispatch (d : Dispatch)
  | day (d : Nat)
  | census (b : Block)
  | moved (b : Block) (station : Nat)
  | stream (b : Block) (serial : Nat) (last : Option Nat) (u : Option StreamUnit)
  deriving DecidableEq, Repr, Inhabited

/-- The destination of a frame (7.2). -/
inductive Dest where
  | station (n : Nat)
  | all
  deriving DecidableEq, Repr, Inhabited

/-- A frame (Table 12-2). -/
structure Frame where
  src : Nat
  dest : Dest
  body : Body
  deriving DecidableEq, Repr, Inhabited

/-- The block that queued a frame (Table 7-2). -/
inductive Owner where
  | context (c : Nat)
  | entry (id : Nat)
  | ownerEngine
  | dayUnit
  | census (b : Block)
  | announcement (id : Nat) (b : Block) (station : Nat)
  | handover
  | lineEngine
  deriving DecidableEq, Repr, Inhabited

/-- A place of the send queue (R132). The list holds them by age, oldest first. -/
structure SendItem where
  id : Nat
  frame : Frame
  cls : Nat
  attempts : Nat
  losses : Nat
  owner : Owner
  deriving DecidableEq, Repr, Inhabited

/-- A block that waits for a send place (R133). A context's REQ keeps the destination its resolution
named (R102). -/
inductive Waiter where
  | context (c dest : Nat)
  | dispatch
  | day
  | census (b : Block)
  | announcement (id : Nat) (b : Block) (station : Nat)
  | reqSlot (k : Nat)
  | handover
  deriving DecidableEq, Repr, Inhabited

/-- A receive slot (R145). `age` orders commitments; `ansPlace` says that a send place is reserved
for the frame's ANS (R133, R147). -/
inductive Slot where
  | free
  | reserved
  | full (age : Nat) (f : Frame)
  | processing (age : Nat) (f : Frame) (ansPlace : Bool)
  deriving DecidableEq, Repr, Inhabited

/-- The turn: the send queue item this station is sending, and whether its CLEAR has begun (R130,
R140). The hold-limit timer runs while the CLEAR has not begun. -/
structure Turn where
  id : Nat
  clearing : Bool
  deriving DecidableEq, Repr, Inhabited

/-- A frame in acceptance at this station (R136). The hold line is asserted here while no slot is
reserved, and the clear guard runs while the acceptance lasts (R142). -/
structure Acceptance where
  frame : Frame
  slot : Option Nat
  /-- 3 places of the dispatch queue are reserved for the frame (R127) -/
  room : Bool
  deriving DecidableEq, Repr, Inhabited

/-- A census window at this station (R149). `lane` is absent before this station's own lane, and
then says what it drove. -/
structure Window where
  b : Block
  sender : Bool
  lane : Option (Option ClaimKind)
  slot : Option Nat
  deriving DecidableEq, Repr, Inhabited

/-- The line engine (chapter 7). -/
structure LineEngine where
  sendq : List SendItem
  nextId : Nat
  waiters : List Waiter
  slots : List Slot
  nextAge : Nat
  turn : Option Turn
  acc : Option Acceptance
  /-- the refuse line as this station last drove it (R137) -/
  refuse : Bool
  window : Option Window
  deriving DecidableEq, Repr, Inhabited

/-! ## Ownership and handover (chapter 8) -/

/-- A view of a block (Table 8-1). -/
inductive View where
  | home
  | lending (receiver : Nat)
  | receiving (giver : Nat)
  | probing
  | foreign (station : Nat)
  | unknown
  deriving DecidableEq, Repr, Inhabited

/-- A requester of a census (R158). -/
inductive Asker where
  | context (c : Nat)
  | entry (id : Nat)
  | probe
  | confirming
  deriving DecidableEq, Repr, Inhabited

/-- The phase of a census place (R158). -/
inductive CensusPhase where
  | queued | running | followUp
  deriving DecidableEq, Repr, Inhabited

/-- A place of the census table (R158). `later` holds the requesters of the second census. -/
structure CensusPlace where
  b : Block
  phase : CensusPhase
  askers : List Asker
  later : List Asker
  deriving DecidableEq, Repr, Inhabited

/-- A MOVED announcement kept until delivered or dropped (R157); `waiting` while its 250 ms run. `id` tells apart
the announcements of successive completions (the model's own, log entry 6). -/
structure Announcement where
  id : Nat
  b : Block
  station : Nat
  waiting : Bool
  deriving DecidableEq, Repr, Inhabited

/-- The join probe in progress; `waiting` while its 250 ms run (R174, R175). -/
structure Probe where
  b : Block
  waiting : Bool
  deriving DecidableEq, Repr, Inhabited

/-- The ownership map. `views` lists blocks by key (space * 256 + number) in rising order; a block
not listed is viewed UNKNOWN, and no entry says UNKNOWN. -/
structure OwnershipMap where
  views : List (Nat × View)
  serial : Nat
  census : List CensusPlace
  censusWait : List (Block × Asker)
  moved : List Announcement
  /-- the `id` of the next announcement (the model's own, log entry 6) -/
  nextMoved : Nat
  probe : Option Probe
  deriving DecidableEq, Repr, Inhabited

/-- Where a giver's querying stands (R164). -/
inductive QueryState where
  /-- the BLOCK_QUERY waits to be placed or delivered -/
  | sending
  /-- delivered, the 400 ms limit runs -/
  | awaiting
  /-- returned undelivered, the 400 ms wait runs -/
  | retryWait
  deriving DecidableEq, Repr, Inhabited

/-- The giver's phase (Table 8-2). FREEING is the end of a completed handover, until the last
record is freed (R165). -/
inductive GivePhase where
  /-- waits for the INBOUND entries of the block; `limit` says that the 400 ms drain limit runs (R160) -/
  | draining (limit : Bool)
  | offering
  | streaming
  | deciding
  | querying (q : QueryState)
  | freeing
  deriving DecidableEq, Repr, Inhabited

/-- The giver's state (Table 8-2). `cursor` is the least record number not yet read, `ready` the
units read and not yet placed (R162). -/
structure Giving where
  phase : GivePhase
  receiver : Nat
  b : Block
  serial : Nat
  counts : Counts
  units : Nat
  ctx : Nat
  cursor : Nat
  ready : List StreamUnit
  deriving DecidableEq, Repr, Inhabited

/-- The receiver's phase (Table 8-2). In CONFIRMING, whether the 2 s census wait runs (R170). -/
inductive ReceivePhase where
  | receiving
  | confirming (timer : Bool)
  deriving DecidableEq, Repr, Inhabited

/-- The receiver's state (Table 8-2). `reserved` are the pool places reserved and not yet used. -/
structure Receiving where
  phase : ReceivePhase
  giver : Nat
  b : Block
  serial : Nat
  reserved : Counts
  units : Nat
  /-- the title whose copy references and hold entries follow (R168) -/
  title : Nat
  deriving DecidableEq, Repr, Inhabited

/-- The handover engine (Table 8-2). -/
inductive Handover where
  | idle
  | giving (g : Giving)
  | receiving (r : Receiving)
  deriving DecidableEq, Repr, Inhabited

/-! ## The record store (chapter 9) -/

/-- Requesters of the store arbiter (Table 9-3). -/
inductive Requester where
  | kiosk | line | sweep | stream
  deriving DecidableEq, Repr, Inhabited

/-- Line-side work (Table 9-3). -/
inductive LineWork where
  | req (slot : Nat)
  | entry (id : Nat)
  deriving DecidableEq, Repr, Inhabited

/-- Stream work (Table 9-3). -/
inductive StreamWork where
  | freeze
  | read
  | write (slot : Nat)
  | free (b : Block)
  deriving DecidableEq, Repr, Inhabited

/-- Work that asks for the store. -/
inductive Work where
  | kiosk (c : Nat)
  | line (w : LineWork)
  | sweep
  | stream (w : StreamWork)
  deriving DecidableEq, Repr, Inhabited

/-- A grant: its work and the county day at the grant (R52, R182). -/
structure Grant where
  work : Work
  day : Nat
  deriving DecidableEq, Repr, Inhabited

/-- The store arbiter (R182, R183). -/
structure Arbiter where
  held : Option Grant
  last : Requester
  kiosk : List Nat
  line : List LineWork
  sweep : Bool
  stream : List StreamWork
  deriving DecidableEq, Repr, Inhabited

/-- The record store: its tables with their index, and the format stamp (R177, R178). -/
structure Store where
  items : List (Nat × Item)
  titles : List (Nat × Title)
  patrons : List (Nat × Patron)
  stamp : Bool
  deriving DecidableEq, Repr, Inhabited

/-- The cause of a fault (Table 9-4). -/
inductive FaultCause where
  | checkFailed
  | dispatchDiscarded
  deriving DecidableEq, Repr, Inhabited

/-- A captured fault (Table 9-4). -/
structure CapturedFault where
  cause : FaultCause
  space : Space
  number : Nat
  requester : Requester
  day : Nat
  dispatch : Option Dispatch
  deriving DecidableEq, Repr, Inhabited

/-- The fault capture: EMPTY (`none`) or LOCKED, and the further-faults mark (R185). -/
structure FaultCapture where
  captured : Option CapturedFault
  further : Bool
  deriving DecidableEq, Repr, Inhabited

/-! ## The day unit (chapter 3) -/

/-- The sweep's state (R58). -/
inductive SweepState where
  | idle | running | paused
  deriving DecidableEq, Repr, Inhabited

/-- The sweep position: the next record not yet examined is the first at or after it (R59). -/
inductive SweepPos where
  | item (number : Nat)
  | title (number : Nat)
  deriving DecidableEq, Repr, Inhabited

/-- The day unit (Table 3-1). -/
structure DayUnit where
  county : Nat
  sweep : SweepState
  pos : Option SweepPos
  /-- a start was taken while a burst held the grant (R58) -/
  restart : Bool
  /-- the 250 ms wait to queue the DAY frame again (R55) -/
  requeueWait : Bool
  /-- an occasion to queue the DAY frame arose while the own one was being sent (R55) -/
  again : Bool
  deriving DecidableEq, Repr, Inhabited

/-! ## The kiosk port (chapter 10) -/

/-- The result of a handover (Table 12-8). -/
inductive HandoverResult where
  | done | failed | received | discarded
  deriving DecidableEq, Repr, Inhabited

/-- A notice (Table 10-3). -/
inductive Notice where
  | route (item : Nat) (route : Route) (patron : Option Nat)
  | pull (item : Nat) (route : Route) (patron : Option Nat)
  | late (op : OpCode) (outcome : OutcomeCode) (reason : Option Reason) (patron item title : Nat)
      (station : Nat) (compensated : Bool)
  | conflict (b : Block) (view : View) (claimants : List Claim)
  | fault (cause : FaultCause) (space : Space) (number : Nat)
  | day (adopted previous : Nat)
  | handover (b : Block) (station : Nat) (result : HandoverResult) (reason : Option Reason)
      (units : Nat)
  deriving DecidableEq, Repr, Inhabited

/-- The pieces of the configuration record, named as R198's and R199's answers name them. -/
inductive PieceName where
  | stationNumber | lineRate | calendar | classTable | categoryTable | holdLife | pickupWindow
  | startDay | mapItem | mapTitle | mapPatron | eraseFlag
  deriving DecidableEq, Repr, Inhabited

/-- The first field of a piece found at fault (R198). -/
inductive BadField where
  | stationNumber
  | lineRate
  | weekday0
  | closedDay (index : Nat)
  | quantity (row test : Nat)
  | relation (row test : Nat)
  | view (index : Nat)
  deriving DecidableEq, Repr, Inhabited

/-- The values of an answer the port gives in its reply. -/
inductive PortValues where
  | nothing
  /-- ADVANCE_DAY: the county day (R53) -/
  | day (d : Nat)
  /-- FAULT_READ (R186) -/
  | capture (c : FaultCapture)
  /-- CONFIGURE taken: the clamped mark, the pieces still empty (R198) -/
  | configured (clamped : Bool) (empty : List PieceName)
  /-- CONFIGURE refused BAD_VALUE: the field at fault, the pieces still empty (R198) -/
  | badValue (field : BadField) (empty : List PieceName)
  /-- JOIN refused INCOMPLETE (R199, R200), CONFIGURE refused WRONG_STATE (R198) -/
  | pieces (empty : List PieceName)
  /-- JOIN taken: the erased mark and the county day (R200) -/
  | joined (erased : Bool) (day : Nat)
  deriving DecidableEq, Repr, Inhabited

/-- The status record (R196). -/
structure StatusRecord where
  station : StationState
  number : Option Nat
  contexts : Nat
  answers : Nat
  notices : Nat
  queueDepth : Nat
  day : Nat
  overflow : Bool
  locked : Bool
  deriving DecidableEq, Repr, Inhabited

/-- What the port clocks out in an exchange (R188 to R196, Table 12-5). -/
inductive Reply where
  | unknownCommand
  /-- a SET_MASKS outside ONLINE (R190) -/
  | notOnline
  | taken (ctx gen : Nat)
  /-- an answer given by the port itself (context 255, generation 0); `kind` is the kind octet -/
  | answer (tag kind : Nat) (outcome : OutcomeCode) (reason : Option Reason) (values : PortValues)
  | transaction (ctx gen : Nat) (a : Answer)
  | notice (n : Notice)
  | none
  | status (r : StatusRecord)
  | masks (m : BitVec 8)
  deriving DecidableEq, Repr, Inhabited

/-- A read exchange in progress with what is held for it (Table 10-1). -/
inductive Exchange where
  | answer (ctx : Option Nat)
  | notice (n : Option Notice)
  deriving DecidableEq, Repr, Inhabited

/-- The kiosk port (Table 10-1). `reply` is the model's own: what the last complete exchange clocked
out. A set bit of `masks` means masked (Table 12-6). -/
structure KioskPort where
  answers : List Nat
  notices : List Notice
  masks : BitVec 8
  overflow : Bool
  attention : Bool
  exchange : Option Exchange
  reply : Option Reply
  deriving DecidableEq, Repr, Inhabited

/-! ## The whole part -/

/-- The state of one CZ-24. -/
structure State where
  station : StationState
  conf : Configuration
  store : Store
  capture : FaultCapture
  arb : Arbiter
  day : DayUnit
  ctxs : List Ctx
  queue : DispatchQueue
  line : LineEngine
  map : OwnershipMap
  hand : Handover
  port : KioskPort
  /-- free values drawn so far (the model's own) -/
  free : Nat
  /-- commands that wait, first in first out -/
  pending : List Instr
  deriving DecidableEq, Repr

/-- The arbiter after a start reset (Table 9-2). -/
def Arbiter.atReset : Arbiter :=
  { held := none, last := .stream, kiosk := [], line := [], sweep := false, stream := [] }

/-- The line engine after a start reset (R151). -/
def LineEngine.atReset : LineEngine :=
  { sendq := [], nextId := 0, waiters := [], slots := [.free, .free], nextAge := 0, turn := none,
    acc := none, refuse := false, window := none }

/-- The kiosk port after a start reset (Table 10-1). -/
def KioskPort.atReset : KioskPort :=
  { answers := [], notices := [], masks := 0#8, overflow := false, attention := false,
    exchange := none, reply := none }

/-- The contexts after a start reset (R91). -/
def Ctx.atReset : List Ctx :=
  List.replicate Config.contexts { gen := 0, st := .free }

/-- The part right after reset: every volatile state as the chapters give it. The nonvolatile state
is that of a part never configured with a map: its store is uninitialised (R187), which the manual
does not describe further. DESIGN CHOICE, unsafe: no record, every view UNKNOWN, serial 0, county
day 0, an empty dispatch queue (log entry 1). -/
def State.reset : State :=
  { station := .unconfigured
    conf := {}
    store := { items := [], titles := [], patrons := [], stamp := false }
    capture := { captured := none, further := false }
    arb := Arbiter.atReset
    day := { county := 0, sweep := .idle, pos := none, restart := false, requeueWait := false,
             again := false }
    ctxs := Ctx.atReset
    queue := { entries := [], nextId := 0 }
    line := LineEngine.atReset
    map :=
      { views := [], serial := 0, census := [], censusWait := [], moved := [], nextMoved := 0,
        probe := none }
    hand := .idle
    port := KioskPort.atReset
    free := 0
    pending := [] }

end Sys2Proof.Machine
end

