-- ==== Sys2Proof/Machine/Flags.lean ====
section
/-! DEFINITION. The marks and outputs the part computes from its state: attention (R195), the rooms of
the queues (R121, R132), the pools' free places (R177). -/

namespace Sys2Proof.Machine

/-- The mask bit of a notice's kind (Table 12-6). -/
def Notice.maskBit : Notice → Nat
  | .route .. => 0
  | .pull .. => 1
  | .late .. => 2
  | .conflict .. => 3
  | .fault .. => 4
  | .day .. => 5
  | .handover .. => 6

/-- The mask bit of the notice overflow mark (Table 12-6). -/
def overflowBit : Nat := 7

/-- R195: the attention output follows three conditions. -/
def KioskPort.wantsAttention (p : KioskPort) : Bool :=
  !p.answers.isEmpty || p.notices.any (fun n => !p.masks.getLsbD n.maskBit) ||
    (p.overflow && !p.masks.getLsbD overflowBit)

/-- The attention output follows its conditions (R195). -/
def refreshAttention (s : State) : State :=
  { s with port := { s.port with attention := s.port.wantsAttention } }

/-- A context that is not FREE is live (R91). -/
def Ctx.live (c : Ctx) : Bool :=
  match c.st with
  | .free => false
  | _ => true

/-- Whether a context holds its compensation entry (R97). -/
def Ctx.holdsComp (c : Ctx) : Bool :=
  match c.st with
  | .running r => r.comp
  | _ => false

/-- The ABANDON entry a giver holds reserved, from the taking of the request to the handover's end
(R160, R165, R166). -/
def Handover.reservedEntries : Handover → Nat
  | .giving g => match g.phase with
    | .freeing => 0
    | _ => 1
  | _ => 0

/-- The places an INBOUND entry keeps reserved for its application (R121, R127). -/
def Entry.reservedPlaces (e : Entry) : Nat :=
  match e.dir, e.phase with
  | .inbound, .applying => 2
  | _, _ => 0

/-- The places of the dispatch queue reserved at this moment (R121). -/
def reservations (s : State) : Nat :=
  (s.queue.entries.map Entry.reservedPlaces).sum
    + (match s.line.acc with | some a => if a.room then 3 else 0 | none => 0)
    + s.ctxs.countP Ctx.holdsComp + s.hand.reservedEntries

/-- The free places of the dispatch queue (R121). -/
def freePlaces (s : State) : Nat :=
  Config.queuePlaces - (s.queue.entries.length + reservations s)

/-- The base class of a frame's kind (Table 7-2). -/
def Body.baseClass : Body → Nat
  | .clear _ => 0
  | .ans _ => 1
  | .req .. | .dispatch _ | .day _ | .census _ | .moved .. => 2
  | .stream .. => 3

/-- CLEAR frames (R132). -/
def SendItem.isClear (i : SendItem) : Bool :=
  match i.frame.body with
  | .clear _ => true
  | _ => false

/-- ANS frames (R132). -/
def SendItem.isAns (i : SendItem) : Bool :=
  match i.frame.body with
  | .ans _ => true
  | _ => false

/-- A slot that keeps a send place for its ANS (R133). -/
def Slot.keepsAnsPlace : Slot → Bool
  | .processing _ _ b => b
  | _ => false

/-- Places of the send queue taken by frames other than CLEAR, or reserved for an ANS (R132, R133).
The last place is left for a CLEAR. -/
def LineEngine.taken (l : LineEngine) : Nat :=
  l.sendq.countP (fun i => !i.isClear) + l.slots.countP Slot.keepsAnsPlace

/-- Room for an ANS: any place but the last (R132). -/
def LineEngine.roomForAns (l : LineEngine) : Bool :=
  decide (l.taken + 1 < Config.sendPlaces)

/-- Room for a frame other than ANS and CLEAR: within the share of 20 (R132). -/
def LineEngine.roomForOther (l : LineEngine) : Bool :=
  decide (l.sendq.countP (fun i => !i.isClear && !i.isAns) < Config.sendShare) && l.roomForAns

/-- Pool places reserved for a handover this station is receiving (R177). -/
def Handover.reservedPools : Handover → Counts
  | .receiving r => r.reserved
  | _ => ⟨0, 0, 0⟩

/-- The space whose record pool a received handover has reserved (R167). -/
def Handover.reservedIn (h : Handover) (sp : Space) : Nat :=
  match h with
  | .receiving r => if r.b.space = sp then r.reserved.records else 0
  | _ => 0

/-- Copy references in use (R177). -/
def Store.copiesInUse (st : Store) : Nat := (st.titles.map fun t => t.2.copies.length).sum

/-- Hold entries in use (R177). -/
def Store.holdsInUse (st : Store) : Nat := (st.titles.map fun t => t.2.holds.length).sum

/-- Free item places (R177). -/
def freeItems (s : State) : Nat :=
  Config.itemPool - (s.store.items.length + s.hand.reservedIn .item)

/-- Free title places (R177). -/
def freeTitles (s : State) : Nat :=
  Config.titlePool - (s.store.titles.length + s.hand.reservedIn .title)

/-- Free patron places (R177). -/
def freePatrons (s : State) : Nat :=
  Config.patronPool - (s.store.patrons.length + s.hand.reservedIn .patron)

/-- Free copy references (R177). -/
def freeCopies (s : State) : Nat :=
  Config.copyPool - (s.store.copiesInUse + s.hand.reservedPools.copies)

/-- Free hold entries (R177). -/
def freeHolds (s : State) : Nat :=
  Config.holdPool - (s.store.holdsInUse + s.hand.reservedPools.holds)

end Sys2Proof.Machine
end

