-- ==== Sys2Proof/Machine/Ops.lean ====
section
/-! DEFINITION. The named operations over the record tables, the views, the dispatch queue, the notice
queue, the fault capture, the store arbiter, the send queue and the receive slots. -/

namespace Sys2Proof

/-- Space codes (Table 12-1). -/
def Space.code : Space → Nat
  | .item => 0
  | .title => 1
  | .patron => 2

/-- The key of a block in the view table. -/
def Block.key (b : Block) : Nat := b.space.code * 256 + b.num

end Sys2Proof

namespace Sys2Proof.Machine

/-! ## Tables keyed by a number (R178) -/

/-- The value at a key. -/
def tblGet {α : Type} : List (Nat × α) → Nat → Option α
  | [], _ => none
  | (k, v) :: rest, n => if k = n then some v else tblGet rest n

/-- Write a value at a key, keeping the keys rising. -/
def tblSet {α : Type} : List (Nat × α) → Nat → α → List (Nat × α)
  | [], n, v => [(n, v)]
  | (k, w) :: rest, n, v =>
    if n < k then (n, v) :: (k, w) :: rest
    else if k = n then (n, v) :: rest
    else (k, w) :: tblSet rest n v

/-- Remove a key. -/
def tblDel {α : Type} (l : List (Nat × α)) (n : Nat) : List (Nat × α) :=
  l.filter fun p => p.1 != n

/-- The first entry at or after a key. -/
def tblFrom {α : Type} (l : List (Nat × α)) (n : Nat) : Option (Nat × α) :=
  l.find? fun p => decide (n ≤ p.1)

/-- The canonical form of a table: keys strictly rising. -/
def tblRising {α : Type} : List (Nat × α) → Bool
  | [] => true
  | [_] => true
  | a :: b :: rest => decide (a.1 < b.1) && tblRising (b :: rest)

/-! ## Blocks and views (0.4, R153) -/

/-- The block of a number in a space (0.4: the number divided by 65,536, rounded down). -/
def blockOf (sp : Space) (n : Nat) : Block := ⟨sp, n / blockSize⟩

/-- The block of a key. -/
def blockOfKey (k : Nat) : Block :=
  ⟨if k < 256 then .item else if k < 512 then .title else .patron, k % 256⟩

/-- This station's view of a block (R153): UNKNOWN where the table lists nothing. -/
def viewOf (b : Block) (s : State) : View := (tblGet s.map.views b.key).getD .unknown

/-- Write a view in the table's canonical form. -/
def putView (views : List (Nat × View)) (k : Nat) (v : View) : List (Nat × View) :=
  if v = .unknown then tblDel views k else tblSet views k v

/-- Write a view (R153: each view is written whole). -/
def setView (b : Block) (v : View) (s : State) : State :=
  { s with map := { s.map with views := putView s.map.views b.key v } }

/-- This station's number; a station that takes part in anything has one (R197). -/
def stationNo (s : State) : Nat := s.conf.stationNumber.getD 0

/-! ## Records -/

/-- Write an item record and its check word (R180). -/
def putItem (n : Nat) (r : Item) (s : State) : State :=
  { s with store := { s.store with items := tblSet s.store.items n { r with check := .agrees } } }

/-- Write an item record as it stands, check word included. -/
def putItemRaw (n : Nat) (r : Item) (s : State) : State :=
  { s with store := { s.store with items := tblSet s.store.items n r } }

/-- Remove an item record (R177: its place is free again). -/
def dropItem (n : Nat) (s : State) : State :=
  { s with store := { s.store with items := tblDel s.store.items n } }

/-- A title with every part's check word computed anew (R180). -/
def Title.sealed (t : Title) : Title :=
  { t with
    check := .agrees
    copies := t.copies.map fun c => { c with check := .agrees }
    holds := t.holds.map fun h => { h with check := .agrees } }

/-- Write a title record and its check words (R180). -/
def putTitle (n : Nat) (t : Title) (s : State) : State :=
  { s with store := { s.store with titles := tblSet s.store.titles n t.sealed } }

/-- Write a title record as it stands, check words included. -/
def putTitleRaw (n : Nat) (t : Title) (s : State) : State :=
  { s with store := { s.store with titles := tblSet s.store.titles n t } }

/-- Remove a title record with its copy references and hold entries (R27). -/
def dropTitle (n : Nat) (s : State) : State :=
  { s with store := { s.store with titles := tblDel s.store.titles n } }

/-- Write a patron record and its check word (R180). -/
def putPatron (n : Nat) (p : Patron) (s : State) : State :=
  { s with
    store := { s.store with patrons := tblSet s.store.patrons n { p with check := .agrees } } }

/-- Write a patron record as it stands, check word included. -/
def putPatronRaw (n : Nat) (p : Patron) (s : State) : State :=
  { s with store := { s.store with patrons := tblSet s.store.patrons n p } }

/-- Remove a patron record. -/
def dropPatron (n : Nat) (s : State) : State :=
  { s with store := { s.store with patrons := tblDel s.store.patrons n } }

/-- The item record of a number. -/
def getItem (n : Nat) (s : State) : Option Item := tblGet s.store.items n

/-- The title record of a number. -/
def getTitle (n : Nat) (s : State) : Option Title := tblGet s.store.titles n

/-- The patron record of a number. -/
def getPatron (n : Nat) (s : State) : Option Patron := tblGet s.store.patrons n

/-- The record numbers of a block, rising. -/
def recordsOf (b : Block) (s : State) : List Nat :=
  match b.space with
  | .item => (s.store.items.map Prod.fst).filter fun n => n / blockSize == b.num
  | .title => (s.store.titles.map Prod.fst).filter fun n => n / blockSize == b.num
  | .patron => (s.store.patrons.map Prod.fst).filter fun n => n / blockSize == b.num

/-- Remove the record of a number in a space. -/
def dropRecord (sp : Space) (n : Nat) (s : State) : State :=
  match sp with
  | .item => dropItem n s
  | .title => dropTitle n s
  | .patron => dropPatron n s

/-! ## Notices and faults (R185, R192) -/

/-- Post a notice: at the tail, or dropped with the overflow mark set when 32 wait (R192). -/
def postNotice (n : Notice) (s : State) : State :=
  if s.port.notices.length < Config.notices then
    { s with port := { s.port with notices := s.port.notices ++ [n] } }
  else
    { s with port := { s.port with overflow := true } }

/-- Enter a fault (R185): the first fills and locks the capture and posts a FAULT notice, a later one
sets the further-faults mark. -/
def recordFault (f : CapturedFault) (s : State) : State :=
  match s.capture.captured with
  | none =>
    postNotice (.fault f.cause f.space f.number) { s with capture := { s.capture with captured := some f } }
  | some _ => { s with capture := { s.capture with further := true } }

/-! ## The dispatch queue (R122) -/

/-- Enter an OUTBOUND entry at the tail with failure count 0 and phase QUEUED (R122). -/
def enqueue (d : Dispatch) (s : State) : State :=
  { s with
    queue :=
      { entries := s.queue.entries ++
          [{ id := s.queue.nextId, dir := .outbound, disp := d, failures := 0, phase := .queued }]
        nextId := s.queue.nextId + 1 } }

/-- Enter several dispatches in order. -/
def enqueueAll (ds : List Dispatch) (s : State) : State := ds.foldl (fun s d => enqueue d s) s

/-- Remove an entry. -/
def dropEntry (id : Nat) (s : State) : State :=
  { s with queue := { s.queue with entries := s.queue.entries.filter fun e => e.id != id } }

/-- Change an entry. -/
def mapEntry (id : Nat) (f : Entry → Entry) (s : State) : State :=
  { s with
    queue := { s.queue with entries := s.queue.entries.map fun e => if e.id = id then f e else e } }

/-- Set an entry's phase. -/
def setEntryPhase (id : Nat) (p : EntryPhase) (s : State) : State :=
  mapEntry id (fun e => { e with phase := p }) s

/-- The entry of an id. -/
def findEntry (id : Nat) (s : State) : Option Entry := s.queue.entries.find? fun e => e.id == id

/-- What an operation or a dispatch application causes: a dispatch to queue, or a routing notice to
the at station (R6). -/
inductive Effect where
  | send (d : Dispatch)
  | notice (at_ item : Nat) (route : Route) (patron : Option Nat)
  deriving DecidableEq, Repr

/-- The notice of a route: PULL for the route PULL(s), ROUTE for every other (R6). -/
def routeNotice (item : Nat) (r : Route) (patron : Option Nat) : Notice :=
  match r with
  | .pull _ => .pull item r patron
  | _ => .route item r patron

/-- Carry out one effect: a routing notice is posted here when the at station is this station, and
leaves as a KIOSK_NOTE otherwise (R6, R122). -/
def emit (e : Effect) (s : State) : State :=
  match e with
  | .send d => enqueue d s
  | .notice at_ item r patron =>
    if at_ = stationNo s then postNotice (routeNotice item r patron) s
    else enqueue (.kioskNote at_ item r patron) s

/-- Carry out effects in order. -/
def emitAll (es : List Effect) (s : State) : State := es.foldl (fun s e => emit e s) s

/-- The block a dispatch's target lies in, or nothing for an explicit station (Table 6-1). -/
def Dispatch.block : Dispatch → Option Block
  | .charge p _ _ _ | .credit p _ _ | .loanClose p | .holdEnded p _ _ => some (blockOf .patron p)
  | .copyState t _ _ _ | .copyFree t _ _ | .holdFilled t _ _ | .pickupLapsed t _ _
  | .copyRemove t _ => some (blockOf .title t)
  | .trap i | .untrap i | .allocate i _ _ _ | .redirect i _ _ | .release i => some (blockOf .item i)
  | .kioskNote .. | .abandon .. => none

/-- The explicit station of a KIOSK_NOTE or an ABANDON (Table 6-1). -/
def Dispatch.station : Dispatch → Option Nat
  | .kioskNote st _ _ _ | .abandon st _ _ => some st
  | _ => none

/-- The target of a dispatch as a space and a number (Table 6-1). -/
def Dispatch.target : Dispatch → Option (Space × Nat)
  | .charge p _ _ _ | .credit p _ _ | .loanClose p | .holdEnded p _ _ => some (.patron, p)
  | .copyState t _ _ _ | .copyFree t _ _ | .holdFilled t _ _ | .pickupLapsed t _ _
  | .copyRemove t _ => some (.title, t)
  | .trap i | .untrap i | .allocate i _ _ _ | .redirect i _ _ | .release i => some (.item, i)
  | .kioskNote .. | .abandon .. => none

/-- The ordering key of an entry: its block, or its explicit station (6.1). -/
inductive OrderKey where
  | block (b : Block)
  | station (n : Nat)
  deriving DecidableEq, Repr

/-- The ordering key of a dispatch (6.1). -/
def Dispatch.orderKey (d : Dispatch) : OrderKey :=
  match d.block with
  | some b => .block b
  | none => .station (d.station.getD 0)

/-! ## The store arbiter (R182, R183) -/

/-- The requester of a piece of work (Table 9-3). -/
def Work.requester : Work → Requester
  | .kiosk _ => .kiosk
  | .line _ => .line
  | .sweep => .sweep
  | .stream _ => .stream

/-- The cycle of requesters beginning after the one last granted (R183). -/
def Requester.cycleAfter : Requester → List Requester
  | .kiosk => [.line, .sweep, .stream, .kiosk]
  | .line => [.sweep, .stream, .kiosk, .line]
  | .sweep => [.stream, .kiosk, .line, .sweep]
  | .stream => [.kiosk, .line, .sweep, .stream]

/-- The oldest waiting work of a requester and the arbiter without it. -/
def Arbiter.oldest (a : Arbiter) : Requester → Option (Work × Arbiter)
  | .kiosk => match a.kiosk with
    | [] => none
    | c :: rest => some (.kiosk c, { a with kiosk := rest })
  | .line => match a.line with
    | [] => none
    | w :: rest => some (.line w, { a with line := rest })
  | .sweep => if a.sweep then some (.sweep, { a with sweep := false }) else none
  | .stream => match a.stream with
    | [] => none
    | w :: rest => some (.stream w, { a with stream := rest })

/-- R183: with no grant held, grant the oldest waiting work of the first ready requester in the cycle
after the one last granted. The grant takes the county day with it (R52). -/
def Arbiter.arbitrate (a : Arbiter) (day : Nat) : Arbiter :=
  match a.held with
  | some _ => a
  | none =>
    match a.last.cycleAfter.findSome? a.oldest with
    | none => a
    | some (w, a') => { a' with held := some ⟨w, day⟩, last := w.requester }

/-- Let the arbiter grant, if no grant is held. -/
def arbitrate (s : State) : State := { s with arb := s.arb.arbitrate s.day.county }

/-- The grant ends and the arbiter makes the next (R183). -/
def endGrant (s : State) : State := arbitrate { s with arb := { s.arb with held := none } }

/-- A kiosk-side step asks for the store (R101). -/
def askKiosk (c : Nat) (s : State) : State :=
  arbitrate { s with arb := { s.arb with kiosk := s.arb.kiosk ++ [c] } }

/-- Line-side work asks for the store. -/
def askLine (w : LineWork) (s : State) : State :=
  arbitrate { s with arb := { s.arb with line := s.arb.line ++ [w] } }

/-- Whether a burst of the sweep holds the grant. -/
def burstHeld (s : State) : Bool :=
  match s.arb.held with
  | some g => g.work == .sweep
  | none => false

/-- The sweep asks for a grant; at most one burst waits (R182). -/
def askSweep (s : State) : State :=
  if burstHeld s then s else arbitrate { s with arb := { s.arb with sweep := true } }

/-- Whether stream work waits or holds the grant. -/
def streamAsked (w : StreamWork) (s : State) : Bool :=
  s.arb.stream.contains w ||
    (match s.arb.held with
     | some g => g.work == .stream w
     | none => false)

/-- Stream work asks for the store, behind the work already waiting (R182). -/
def askStream (w : StreamWork) (s : State) : State :=
  arbitrate { s with arb := { s.arb with stream := s.arb.stream ++ [w] } }

/-- Ask for stream work once. -/
def askStreamOnce (w : StreamWork) (s : State) : State :=
  if streamAsked w s then s else askStream w s

/-! ## The send queue (R132, R133) -/

/-- Put a frame into a place of the send queue, youngest last (R132). -/
def pushFrame (f : Frame) (o : Owner) (s : State) : State :=
  { s with
    line :=
      { s.line with
        sendq := s.line.sendq ++
          [{ id := s.line.nextId, frame := f, cls := f.body.baseClass, attempts := 0, losses := 0,
             owner := o }]
        nextId := s.line.nextId + 1 } }

/-- Remove a send queue item. -/
def dropSend (id : Nat) (s : State) : State :=
  { s with line := { s.line with sendq := s.line.sendq.filter fun i => i.id != id } }

/-- Change a send queue item. -/
def mapSend (id : Nat) (f : SendItem → SendItem) (s : State) : State :=
  { s with line := { s.line with sendq := s.line.sendq.map fun i => if i.id = id then f i else i } }

/-- A block begins to wait for a send place; it keeps its turn if it waits already (R133). -/
def waitForPlace (w : Waiter) (s : State) : State :=
  if s.line.waiters.contains w then s
  else { s with line := { s.line with waiters := s.line.waiters ++ [w] } }

/-- A block no longer waits for a send place. -/
def stopWaiting (w : Waiter) (s : State) : State :=
  { s with line := { s.line with waiters := s.line.waiters.filter fun v => v != w } }

/-- Whether there is room for what a waiting block places: the ANS place of a REQ or of a LAST frame in its slot, or a
frame other than ANS and CLEAR (R132). -/
def Waiter.hasRoom (l : LineEngine) : Waiter → Bool
  | .reqSlot _ => l.roomForAns
  | _ => l.roomForOther

/-- Whether a block may take a place now: there is room for what it places (R132), and no block that began to wait
before it could use the place (R133, log entry 18). -/
def mayPlace (w : Waiter) (s : State) : Bool :=
  w.hasRoom s.line && (s.line.waiters.takeWhile fun v => v != w).all fun v => !v.hasRoom s.line

/-- Place a frame other than ANS and CLEAR, or begin to wait for a place (R132, R133). -/
def placeOrWait (f : Frame) (o : Owner) (w : Waiter) (s : State) : State :=
  if mayPlace w s then stopWaiting w (pushFrame f o s) else waitForPlace w s

/-- The head of the send queue: the oldest frame of the lowest present class (R132). -/
def sendHead (q : List SendItem) : Option SendItem :=
  q.foldl (fun best i =>
    match best with
    | none => some i
    | some b => if i.cls < b.cls then some i else some b) none

/-! ## The receive slots (R145) -/

/-- Write a slot. -/
def setSlot (k : Nat) (sl : Slot) (s : State) : State :=
  { s with line := { s.line with slots := s.line.slots.set k sl } }

/-- The slot of a number. -/
def getSlot (k : Nat) (s : State) : Slot := s.line.slots.getD k .free

/-- Age and frame of a FULL slot. -/
def Slot.fullFrame : Slot → Option (Nat × Frame)
  | .full a f => some (a, f)
  | _ => none

/-- A slot whose frame is being processed, a CENSUS in its window apart (R146: a CENSUS is processed
at commitment and only keeps its slot). -/
def Slot.busy : Slot → Bool
  | .processing _ f _ => match f.body with
    | .census _ => false
    | _ => true
  | _ => false

/-- R145: the oldest FULL slot, when no older frame is still being processed. -/
def headSlot (s : State) : Option (Nat × Nat × Frame) :=
  if s.line.slots.any Slot.busy then none
  else
    (List.range s.line.slots.length).foldl (fun best k =>
      match (getSlot k s).fullFrame with
      | none => best
      | some (a, f) =>
        match best with
        | some (k', a', f') => if a < a' then some (k, a, f) else some (k', a', f')
        | none => some (k, a, f)) none

/-- The first FREE slot. -/
def freeSlotNo (s : State) : Option Nat := s.line.slots.findIdx? fun sl => sl == .free

/-- A STREAM that reaches the head of the slots is processed at once: it asks the store to write its
unit (R146, R168). The frame with the LAST mark also needs a send place for the decision ANS (R169). -/
def beginStream (s : State) : State :=
  match headSlot s with
  | some (k, a, f) =>
    match f.body with
    | .stream _ _ last _ =>
      match last with
      | none => askStream (.write k) (setSlot k (.processing a f false) s)
      | some _ =>
        if mayPlace (.reqSlot k) s then
          askStream (.write k) (setSlot k (.processing a f true) (stopWaiting (.reqSlot k) s))
        else waitForPlace (.reqSlot k) s
    | _ => s
  | none => s

/-- R145: a slot becomes FREE at the end of its processing, and a station that holds for a waiting
frame reserves it at that moment and releases the hold line (R136). -/
def releaseSlot (k : Nat) (s : State) : State :=
  match s.line.acc with
  | some a =>
    if a.slot.isNone then
      { setSlot k .reserved s with
        line := { (setSlot k .reserved s).line with acc := some { a with slot := some k } } }
    else setSlot k .free s
  | none => setSlot k .free s

/-- A slot is freed and the slots behind it move on. -/
def freeSlot (k : Nat) (s : State) : State := beginStream (releaseSlot k s)

/-- Place an ANS into its reserved place, from this station's slot `k`, and free the slot (R147). -/
def placeAns (k : Nat) (dest : Nat) (a : Ans) (o : Owner) (s : State) : State :=
  freeSlot k (pushFrame ⟨stationNo s, .station dest, .ans a⟩ o s)

/-! ## Contexts (R91) -/

/-- Write a context. -/
def setCtx (c : Nat) (x : Ctx) (s : State) : State := { s with ctxs := s.ctxs.set c x }

/-- The context of a number. -/
def getCtx (c : Nat) (s : State) : Option Ctx := s.ctxs[c]?

/-- The run of a RUNNING context. -/
def getRun (c : Nat) (s : State) : Option Run :=
  match getCtx c s with
  | some { st := .running r, .. } => some r
  | _ => none

/-- Write the run of a context, its generation kept. -/
def setRun (c : Nat) (r : Run) (s : State) : State :=
  match getCtx c s with
  | some x => setCtx c { x with st := .running r } s
  | none => s

/-- The reference a context's REQ carries (R102). -/
def ctxRef (c : Nat) (r : Run) (s : State) : CtxRef :=
  ⟨c, ((getCtx c s).map Ctx.gen).getD 0, r.step⟩

/-! ## The end of a command -/

/-- The outcome type of a command. -/
abbrev Outcome := Host.Outcome State Fault Refusal

/-- A command is carried out: the attention output follows the state (R195). -/
def finish (s : State) : Outcome := .next (refreshAttention s)

/-- The command names an event that has no cause in the state (a timer that does not run, a grant
held by other work). Such an event does not occur in the part, so nothing changes. DESIGN CHOICE,
safe (log entry 7). -/
def turnedAway (s : State) : Outcome := .next s

/-- A free value of three octets: the `k`-th after those drawn so far (log entry 5). -/
def freeNumberAt (k : Nat) (s : State) : Nat := (Config.freeNumber (s.free + k)).toNat

/-- The state that has drawn `k` more free values (log entry 5). -/
def drew (k : Nat) (s : State) : State := { s with free := s.free + k }

/-- A free value of one octet: the `k`-th after those drawn so far (log entry 5). -/
def freeCodeAt (k : Nat) (s : State) : Nat := (Config.freeCode (s.free + k)).toNat

end Sys2Proof.Machine
end

