-- ==== Sys2Proof/Machine/Arithmetic.lean ====
section
/-! DEFINITION. The calendar, the fine, the due day and the balance arithmetic (chapters 3 and 4). -/

namespace Sys2Proof.Machine

/-- The calendar in force. A station that takes owner operations has one (R57). -/
def calendarOf (s : State) : Calendar := s.conf.calendar.getD ⟨0, 0, []⟩

/-- The class row of an item's class (1.1). -/
def classRow (s : State) (cls : Nat) : ClassRow := (s.conf.classTable.getD []).getD cls default

/-- The pickup window in force (R17). -/
def pickupWindow (s : State) : Nat := s.conf.pickupWindow.getD 0

/-- The hold life in force (R41). -/
def holdLife (s : State) : Nat := s.conf.holdLife.getD 0

/-- R57: a day is open unless its weekday is closed or it is in the closed-day list. -/
def isOpen (cal : Calendar) (d : Nat) : Bool :=
  !cal.closedMask.testBit ((cal.weekday0 + d) % 7) && !cal.closedDays.contains d

/-- The open days among the `n` days after `start`. -/
def countOpen (cal : Calendar) (start : Nat) : Nat → Nat
  | 0 => 0
  | n + 1 => countOpen cal start n + if isOpen cal (start + n + 1) then 1 else 0

/-- R86: the open count of an overdue span from a due day to an event day. -/
def openCount (cal : Calendar) (due event : Nat) : Nat := countOpen cal due (event - due)

/-- R87: the overdue fine. -/
def overdueFine (row : ClassRow) (cal : Calendar) (due event : Nat) : Nat :=
  if openCount cal due event ≤ row.grace then 0
  else min (row.rate * openCount cal due event) row.cap

/-- The first open day at or after a candidate, among the given number of days. -/
def firstOpen (cal : Calendar) (d : Nat) : Nat → Option Nat
  | 0 => none
  | n + 1 => if isOpen cal d then some d else firstOpen cal (d + 1) n

/-- R89, steps 1 to 3: the candidate due day. -/
def dueCandidate (cal : Calendar) (base period : Nat) : Nat :=
  if lastDay < base + period then lastDay
  else capDay ((firstOpen cal (base + period) 15).getD (base + period + 14))

/-- R89: the due day and the "shortened by card" mark. -/
def dueDay (cal : Calendar) (base period cardExpiry : Nat) : Nat × Bool :=
  (min (dueCandidate cal base period) cardExpiry, decide (cardExpiry < dueCandidate cal base period))

/-- R67: a charge raises the balance, clamped at 500,000; what exceeds it sets the saturated mark. -/
def chargeBalance (c : Nat) (p : Patron) : Patron :=
  if Config.balanceLimit < p.balance + c then
    { p with balance := Config.balanceLimit, saturated := true }
  else { p with balance := p.balance + c }

/-- R67: a credit lowers the balance, floored at 0, and leaves the saturated mark. -/
def creditBalance (c : Nat) (p : Patron) : Patron := { p with balance := p.balance - c }

/-- R67: the amount a payment takes. -/
def amountTaken (a : Nat) (p : Patron) : Nat := min a p.balance

/-- R67: a payment that takes money clears the saturated mark. -/
def payBalance (a : Nat) (p : Patron) : Patron :=
  { p with
    balance := p.balance - amountTaken a p
    saturated := if 0 < amountTaken a p then false else p.saturated }

/-- R68: a count raised by 1 stays at 255. -/
def raiseCount (n : Nat) : Nat := if n < Config.countLimit then n + 1 else n

/-- R68: a count lowered by 1 stays at 0. -/
def lowerCount (n : Nat) : Nat := n - 1

end Sys2Proof.Machine
end

