-- ==== Sys2Proof/Machine/PatronRules.lean ====
section
/-! DEFINITION. What a patron operation or a patron dispatch does to a patron record, and the standing
decision (chapter 4). The grants, checks and reservations around these are in OwnerEngine.lean. -/

namespace Sys2Proof.Machine

/-- The category row of a patron (R75). -/
def categoryRow (s : State) (category : Nat) : List StandingTest :=
  (s.conf.categoryTable.getD []).getD category []

/-- Table 4-3: the quantity a test reads. -/
def Quantity.read (q : Quantity) (p : Patron) : Nat :=
  match q with
  | .balance => p.balance
  | .loans => p.loans
  | .holds => p.holds

/-- Table 4-3: the relation of a test. -/
def Relation.holds (r : Relation) (quantity value : Nat) : Bool :=
  match r with
  | .eq => quantity == value
  | .ne => quantity != value
  | .lt => decide (quantity < value)
  | .le => decide (quantity ≤ value)
  | .gt => decide (value < quantity)
  | .ge => decide (value ≤ quantity)

/-- Whether a test's purpose set includes a purpose (R75). -/
def StandingTest.covers (t : StandingTest) : Purpose → Bool
  | .lend => t.lend
  | .renew => t.renew
  | .reserve => t.reserve

/-- Whether a test blocks a purpose (R75). -/
def StandingTest.blocks (t : StandingTest) (purpose : Purpose) (p : Patron) : Bool :=
  t.covers purpose && t.relation.holds (t.quantity.read p) t.value

/-- R75: the first test that blocks, with its index. -/
def firstBlock (purpose : Purpose) (p : Patron) : Nat → List StandingTest → Option (Nat × StandingTest)
  | _, [] => none
  | i, t :: rest => if t.blocks purpose p then some (i, t) else firstBlock purpose p (i + 1) rest

/-- R74, R75: the standing decision: the refusal, or nothing when standing holds. -/
def standingRefusal (tests : List StandingTest) (E : Nat) (purpose : Purpose) (p : Patron) :
    Option StepAnswer :=
  if p.cardExpiry ≤ E then some (.refused .cardExpired (.cardExpired p.cardExpiry))
  else
    match firstBlock purpose p 0 tests with
    | some (i, t) => some (.refused .blocked (.blocked i t.quantity (t.quantity.read p)))
    | none => none

/-- The change of a record and the answer. -/
abbrev PatronResult := Patron × StepAnswer

/-- R76: STANDING. -/
def standingRule (tests : List StandingTest) (E : Nat) (p : Patron) : PatronResult :=
  match standingRefusal tests E .renew p with
  | some a => (p, a)
  | none => (p, .done (.standing p.cardExpiry p.balance))

/-- R77: LOAN_OPEN. -/
def loanOpenRule (tests : List StandingTest) (E : Nat) (p : Patron) : PatronResult :=
  match standingRefusal tests E .lend p with
  | some a => (p, a)
  | none =>
    ({ p with loans := raiseCount p.loans },
      .done (.loanOpened p.cardExpiry p.balance (raiseCount p.loans)))

/-- R78: HOLD_OPEN. -/
def holdOpenRule (tests : List StandingTest) (E : Nat) (p : Patron) : PatronResult :=
  match standingRefusal tests E .reserve p with
  | some a => (p, a)
  | none =>
    ({ p with holds := raiseCount p.holds },
      .done (.holdOpened p.cardExpiry p.balance (raiseCount p.holds)))

/-- R72: PATRON_SET. -/
def patronSetRule (category cardExpiry : Option Nat) (p : Patron) : PatronResult :=
  let p' := { p with
    category := category.getD p.category, cardExpiry := cardExpiry.getD p.cardExpiry }
  (p', .done (.patronSet p'.category p'.cardExpiry))

/-- R80: PAY. -/
def payRule (amount : Nat) (p : Patron) : PatronResult :=
  let p' := payBalance amount p
  (p', .done (.paid (amountTaken amount p) p'.balance p'.saturated))

/-- R81: ACCOUNT_READ. -/
def accountReadRule (p : Patron) : PatronResult :=
  (p, .done (.account p.balance p.saturated p.loans p.holds p.cardExpiry p.category))

/-- R71: the record PATRON_CREATE makes. -/
def newPatron (category cardExpiry : Nat) : Patron :=
  { category := category, cardExpiry := cardExpiry, balance := 0, saturated := false, loans := 0,
    holds := 0, quarantined := false, check := .agrees }

/-- R73: whether a patron record may be deleted. -/
def Patron.settled (p : Patron) : Bool := p.loans == 0 && p.holds == 0 && p.balance == 0

end Sys2Proof.Machine
end

