-- ==== Sys2Proof/Machine/ItemRules.lean ====
section
/-! DEFINITION. What an item operation or an item dispatch does to an item record: its new record, the
dispatches and routing notices it causes, and its answer (chapter 1, R61, R62). The grants, checks and
reservations around these are in OwnerEngine.lean. -/

namespace Sys2Proof.Machine

/-- The name of an item's state. -/
def ItemState.code : ItemState → ItemStateCode
  | .onShelf => .onShelf
  | .onLoan .. => .onLoan
  | .awaitRoute => .awaitRoute
  | .pull _ => .pull
  | .inTransit .. => .inTransit
  | .held .. => .held
  | .lost .. => .lost

/-- R2, Table 1-2: the view state reported for an item state. -/
def ItemState.report : ItemState → CopyReport
  | .onShelf => .shelf
  | .onLoan _ due _ _ => .loan due
  | .awaitRoute | .pull _ | .inTransit .. | .held .. => .away
  | .lost .. => .lost

/-- The hold target of an item, when present (Table 1-1). -/
def ItemState.target : ItemState → Option HoldTarget
  | .pull t => some t
  | .inTransit t _ => t
  | .held t _ _ _ => some t
  | _ => none

/-- The destination of an item, when present (Table 1-1). -/
def ItemState.destination : ItemState → Option Nat
  | .inTransit _ d => some d
  | _ => none

/-- The borrower of an item, when present: exactly ON_LOAN and LOST (R1). -/
def ItemState.borrower : ItemState → Option Nat
  | .onLoan b _ _ _ => some b
  | .lost b _ _ _ => some b
  | _ => none

/-- The trapped mark, set only in ON_LOAN (Table 1-1). -/
def ItemState.trappedMark : ItemState → Bool
  | .onLoan _ _ _ t => t
  | _ => false

/-- R2: the COPY_STATE that reports an item's state to its title home. -/
def reportCopy (n : Nat) (r : Item) (refused : Bool) : Effect :=
  .send (.copyState r.title n r.state.report refused)

/-! ## Day transitions (R61, R62) -/

/-- R61: a loan falls LOST when the day reaches its due day plus the class lost-after period. -/
def lossDue (row : ClassRow) (day : Nat) : ItemState → Bool
  | .onLoan _ due _ _ => decide (due + row.lostAfter ≤ day)
  | _ => false

/-- R62: a HELD item lapses when its pickup-by day is earlier than the day and it has no lapsed mark. -/
def lapseDue (day : Nat) : ItemState → Bool
  | .held _ _ by_ lapsed => decide (by_ < day) && !lapsed
  | _ => false

/-- Whether an item needs a day transition (R60). -/
def transitionDue (row : ClassRow) (day : Nat) (st : ItemState) : Bool :=
  lossDue row day st || lapseDue day st

/-- R61, R62, R4: an item record brought up to a day, with the dispatches it causes in order. -/
def bringUp (row : ClassRow) (cal : Calendar) (day n : Nat) (r : Item) : Item × List Effect :=
  match r.state with
  | .onLoan b due ren tr =>
    if lossDue row day (.onLoan b due ren tr) then
      let fine := overdueFine row cal due day
      ({ r with state := .lost b due fine row.replacement, currentTo := day },
        (if 0 < fine + row.replacement then
          [.send (.charge b (fine + row.replacement) n .lost)] else []) ++
          [.send (.copyState r.title n .lost false)])
    else ({ r with currentTo := day }, [])
  | .held t ready by_ lapsed =>
    if lapseDue day (.held t ready by_ lapsed) then
      ({ r with state := .held t ready by_ true, currentTo := day },
        [.send (.pickupLapsed r.title t.patron n)])
    else ({ r with currentTo := day }, [])
  | _ => ({ r with currentTo := day }, [])

/-! ## Operations -/

/-- A record's change, what it causes and the answer. -/
abbrev ItemResult := Item × List Effect × StepAnswer

/-- A refused operation changes no record and queues nothing (R5). -/
def ItemResult.refuse (r : Item) (why : Reason) : ItemResult := (r, [], .refused why .nothing)

/-- R9: the item is lent from base E. -/
def lend (row : ClassRow) (cal : Calendar) (E n patron cardExpiry lending : Nat) (r : Item)
    (before : List Effect) : ItemResult :=
  let d := dueDay cal E row.period cardExpiry
  ({ r with state := .onLoan patron d.1 0 false, at_ := lending },
    before ++ [.send (.copyState r.title n (.loan d.1) false)],
    .done (.lent d.1 d.2 r.title))

/-- R9, R10: LEND_ITEM. -/
def lendItemRule (row : ClassRow) (cal : Calendar) (E n patron cardExpiry lending : Nat) (r : Item) :
    ItemResult :=
  match r.state with
  | .onShelf => lend row cal E n patron cardExpiry lending r []
  | .held t _ _ lapsed =>
    if t.patron ≠ patron then .refuse r .heldForOther
    else if lapsed then .refuse r .holdLapsed
    else if t.pickup ≠ lending then .refuse r .wrongState
    else lend row cal E n patron cardExpiry lending r [.send (.holdFilled r.title patron n)]
  | _ => .refuse r .wrongState

/-- The CHARGE of an overdue fine above 0 (R12, R14). -/
def overdueCharge (borrower fine n : Nat) : List Effect :=
  if 0 < fine then [.send (.charge borrower fine n .overdue)] else []

/-- R11, R12, R90: EXTEND. -/
def extendRule (row : ClassRow) (cal : Calendar) (E n patron cardExpiry : Nat) (r : Item) :
    ItemResult :=
  match r.state with
  | .onLoan b due ren trapped =>
    if patron ≠ b then .refuse r .notBorrower
    else if trapped then .refuse r .trapped
    else if row.renewMax ≤ ren then .refuse r .renewLimit
    else
      let d := dueDay cal (max due E) row.period cardExpiry
      if d.1 ≤ due then .refuse r .noGain
      else
        let fine := overdueFine row cal due E
        ({ r with state := .onLoan b d.1 (ren + 1) false },
          overdueCharge b fine n ++ [.send (.copyState r.title n (.loan d.1) false)],
          .done (.extended d.1 d.2 fine (ren + 1)))
  | _ => .refuse r .wrongState

/-- R14, R16, R26: where an item with no hold goes from a station: its shelf, or the transit run to it. -/
def homeward (r : Item) (at_ : Nat) : ItemState × Route :=
  if at_ = r.shelf then (.onShelf, .shelve) else (.inTransit none r.shelf, .send r.shelf)

/-- R17, R18, R25: where an item with a hold goes from a station: the hold shelf with a pickup window, or
the transit run to the pickup station. -/
def holdward (window E : Nat) (t : HoldTarget) (at_ : Nat) : ItemState × Route :=
  if at_ = t.pickup then (.held t E (capDay (E + window)) false, .holdShelf)
  else (.inTransit (some t) t.pickup, .send t.pickup)

/-- R13: the answer of a TAKE_RETURN. -/
def returnAnswer (before after : Item) (route : Route) (fine : Nat) : StepAnswer :=
  .done (.returned before.state.code after.state.code route fine
    (match route with
     | .holdShelf => after.state.target.map HoldTarget.patron
     | _ => match after.state with
       | .inTransit t _ => t.map HoldTarget.patron
       | .held t _ _ _ => some t.patron
       | _ => none)
    (decide (before.state = after.state ∧ before.at_ = after.at_)))

/-- R13 to R19, Table 1-5: TAKE_RETURN. -/
def takeReturnRule (row : ClassRow) (cal : Calendar) (window E n scanning : Nat) (r : Item) :
    ItemResult :=
  match r.state with
  | .onLoan b due _ trapped =>
    let fine := overdueFine row cal due E
    let close := overdueCharge b fine n ++ [.send (.loanClose b)]
    if trapped then
      let r' := { r with state := .awaitRoute, at_ := scanning }
      (r', close ++ [.send (.copyFree r.title n scanning)], returnAnswer r r' .setAside fine)
    else
      let h := homeward r scanning
      let r' := { r with state := h.1, at_ := scanning }
      (r', close ++ [reportCopy n r' false], returnAnswer r r' h.2 fine)
  | .lost b _ _ replacement =>
    let h := homeward r scanning
    let r' := { r with state := h.1, at_ := scanning }
    (r', (if 0 < replacement then [.send (.credit b replacement n)] else []) ++
        [.send (.loanClose b), reportCopy n r' false],
      returnAnswer r r' h.2 0)
  | .pull t =>
    let h := holdward window E t scanning
    let r' := { r with state := h.1, at_ := scanning }
    (r', [], returnAnswer r r' h.2 0)
  | .inTransit (some t) dest =>
    if scanning = dest then
      let r' := { r with state := .held t E (capDay (E + window)) false, at_ := scanning }
      (r', [], returnAnswer r r' .holdShelf 0)
    else
      let r' := { r with at_ := scanning }
      (r', [], returnAnswer r r' (.send dest) 0)
  | .inTransit none dest =>
    if scanning = dest then
      let r' := { r with state := .onShelf, at_ := scanning }
      (r', [reportCopy n r' false], returnAnswer r r' .shelve 0)
    else
      let r' := { r with at_ := scanning }
      (r', [], returnAnswer r r' (.send dest) 0)
  | .awaitRoute => (r, [], returnAnswer r r .setAside 0)
  | .held t _ _ _ =>
    (r, [], returnAnswer r r (if scanning = t.pickup then .holdShelf else .send t.pickup) 0)
  | .onShelf =>
    (r, [], returnAnswer r r (if scanning = r.shelf then .shelve else .send r.shelf) 0)

/-- R20: the summary of an item. -/
def summaryOf (r : Item) : ItemSummary :=
  { title := r.title, cls := r.cls, shelf := r.shelf, state := r.state, at_ := r.at_,
    currentTo := r.currentTo, quarantined := r.quarantined }

/-! ## Dispatches (1.10, 1.11) -/

/-- R21: TRAP. -/
def trapRule (n : Nat) (r : Item) : Item × List Effect :=
  match r.state with
  | .onLoan b due ren _ => ({ r with state := .onLoan b due ren true }, [])
  | _ => (r, [reportCopy n r false])

/-- R22: UNTRAP. -/
def untrapRule (r : Item) : Item :=
  match r.state with
  | .onLoan b due ren _ => { r with state := .onLoan b due ren false }
  | _ => r

/-- R24: ALLOCATE, for an existing record. The title number is tested before the state: a record of another title in a
state other than ON_SHELF meets two sentences of R24, and it is answered AWAY refused to the carried title alone.
DEDUCED (log entry 37). -/
def allocateRule (n title patron pickup : Nat) (r : Item) : Item × List Effect :=
  if r.title ≠ title then (r, [.send (.copyState title n .away true)])
  else
    match r.state with
    | .onShelf =>
      let r' := { r with state := .pull ⟨patron, pickup⟩ }
      (r', [.notice r.at_ n (.pull pickup) (some patron), reportCopy n r' false])
    | _ => (r, [reportCopy n r true])

/-- R25: REDIRECT. -/
def redirectRule (window E n patron pickup : Nat) (r : Item) : Item × List Effect :=
  match r.state with
  | .awaitRoute | .inTransit .. | .held .. =>
    let h := holdward window E ⟨patron, pickup⟩ r.at_
    ({ r with state := h.1 }, [.notice r.at_ n h.2 (some patron)])
  | .pull _ =>
    ({ r with state := .pull ⟨patron, pickup⟩ }, [.notice r.at_ n (.pull pickup) (some patron)])
  | .onShelf | .onLoan .. | .lost .. => (r, [reportCopy n r true])

/-- R26: RELEASE. -/
def releaseRule (n : Nat) (r : Item) : Item × List Effect :=
  match r.state with
  | .awaitRoute | .held .. =>
    let h := homeward r r.at_
    let r' := { r with state := h.1 }
    (r', [.notice r.at_ n h.2 none, reportCopy n r' false])
  | .pull _ =>
    let r' := { r with state := .onShelf }
    (r', [.notice r.at_ n .shelve none, reportCopy n r' false])
  | .inTransit .. =>
    let r' := { r with state := .inTransit none r.shelf }
    (r', [.notice r.at_ n (.send r.shelf) none, reportCopy n r' false])
  | .onShelf | .onLoan .. | .lost .. => (r, [reportCopy n r false])

end Sys2Proof.Machine
end

