-- ==== Sys2Proof/Machine/TitleRules.lean ====
section
/-! DEFINITION. What an operation, a dispatch, a touch and a settle do to a title record: its new record and
the dispatches it causes, in order (chapter 2, R63). The grants, checks and reservations around these are in
OwnerEngine.lean. -/

namespace Sys2Proof.Machine

/-- A WAITING entry. -/
def HoldEntry.isWaiting (h : HoldEntry) : Bool := h.state == .waiting

/-- A copy reference in SHELF. -/
def CopyRef.onShelf (c : CopyRef) : Bool := c.view == .shelf

/-- A copy reference in LOAN. -/
def CopyRef.onLoan (c : CopyRef) : Bool :=
  match c.view with
  | .loan .. => true
  | _ => false

/-- A copy reference marked trapped (R34). -/
def CopyRef.isTrapped (c : CopyRef) : Bool :=
  match c.view with
  | .loan _ t => t
  | _ => false

/-- A copy reference in AWAY. -/
def CopyRef.isAway (c : CopyRef) : Bool :=
  match c.view with
  | .away _ => true
  | _ => false

/-- A copy reference in LOST. -/
def CopyRef.isLost (c : CopyRef) : Bool := c.view == .lost

/-- The patron of the entry a copy reference is allocated to (R28). -/
def CopyRef.allocatedTo (c : CopyRef) : Option Nat :=
  match c.view with
  | .away p => p
  | _ => none

/-- The due day of a copy reference in LOAN. -/
def CopyRef.due (c : CopyRef) : Nat :=
  match c.view with
  | .loan d _ => d
  | _ => 0

/-- The number of WAITING entries. -/
def Title.waiting (t : Title) : Nat := t.holds.countP HoldEntry.isWaiting

/-- The number of copy references in LOAN. -/
def Title.loans (t : Title) : Nat := t.copies.countP CopyRef.onLoan

/-- The trapped count (R34). -/
def Title.trapped (t : Title) : Nat := t.copies.countP CopyRef.isTrapped

/-- The oldest WAITING entry (R33). -/
def Title.oldestWaiting (t : Title) : Option HoldEntry := t.holds.find? HoldEntry.isWaiting

/-- The SHELF copy with the lowest item number: the copy list is in ascending item number (R28, R33). -/
def Title.shelfCopy (t : Title) : Option CopyRef := t.copies.find? CopyRef.onShelf

/-- The entry of a patron; a queue holds no two (R29). -/
def Title.entryOf (t : Title) (patron : Nat) : Option HoldEntry :=
  t.holds.find? fun h => h.patron == patron

/-- The copy reference of an item; a list holds no two (R28). -/
def Title.copyOf (t : Title) (item : Nat) : Option CopyRef := t.copies.find? fun c => c.item == item

/-- Set the state of a patron's entry. -/
def Title.setEntry (t : Title) (patron : Nat) (st : HoldState) : Title :=
  { t with holds := t.holds.map fun h => if h.patron = patron then { h with state := st } else h }

/-- Remove a patron's entry; the entries behind it move up (R29). -/
def Title.dropEntry (t : Title) (patron : Nat) : Title :=
  { t with holds := t.holds.filter fun h => h.patron != patron }

/-- Set the view of an item's copy reference. -/
def Title.setCopy (t : Title) (item : Nat) (v : CopyView) : Title :=
  { t with copies := t.copies.map fun c => if c.item = item then { c with view := v } else c }

/-- Remove an item's copy reference. -/
def Title.dropCopy (t : Title) (item : Nat) : Title :=
  { t with copies := t.copies.filter fun c => c.item != item }

/-! ## Settle (2.3) -/

/-- R33: settle step 1, at most `fuel` allocations. -/
def settleShelf (number : Nat) : Nat → Title → Title × List Dispatch
  | 0, t => (t, [])
  | fuel + 1, t =>
    match t.oldestWaiting, t.shelfCopy with
    | some h, some c =>
      let t' := (t.setEntry h.patron (.allocated c.item)).setCopy c.item (.away (some h.patron))
      let rest := settleShelf number fuel t'
      (rest.1, .allocate c.item number h.patron h.pickup :: rest.2)
    | _, _ => (t, [])

/-- The better of two candidates to trap: earlier due day, then lower item number (R34). -/
def trapsFirst (a b : CopyRef) : Bool := a.due < b.due || (a.due == b.due && a.item ≤ b.item)

/-- R34: the untrapped LOAN copy with the earliest due day, or the lowest item number among those. -/
def Title.toTrap (t : Title) : Option CopyRef :=
  (t.copies.filter fun c => c.onLoan && !c.isTrapped).foldl (fun best c =>
    match best with
    | none => some c
    | some b => if trapsFirst b c then some b else some c) none

/-- R34: the trapped copy with the latest due day, or the highest item number among those. -/
def Title.toUntrap (t : Title) : Option CopyRef :=
  (t.copies.filter CopyRef.isTrapped).foldl (fun best c =>
    match best with
    | none => some c
    | some b => if trapsFirst c b then some b else some c) none

/-- R34: the number of loans to hold trapped. -/
def Title.trapTarget (t : Title) : Nat := min t.waiting t.loans

/-- R34: settle step 2, at most `fuel` changes. -/
def settleTraps : Nat → Title → Title × List Dispatch
  | 0, t => (t, [])
  | fuel + 1, t =>
    if t.trapped < t.trapTarget then
      match t.toTrap with
      | some c =>
        let rest := settleTraps fuel (t.setCopy c.item (.loan c.due true))
        (rest.1, .trap c.item :: rest.2)
      | none => (t, [])
    else if t.trapTarget < t.trapped then
      match t.toUntrap with
      | some c =>
        let rest := settleTraps fuel (t.setCopy c.item (.loan c.due false))
        (rest.1, .untrap c.item :: rest.2)
      | none => (t, [])
    else (t, [])

/-- R33, R34: the title settle procedure. -/
def settle (number : Nat) (t : Title) : Title × List Dispatch :=
  let one := settleShelf number t.holds.length t
  let two := settleTraps one.1.copies.length one.1
  (two.1, one.2 ++ two.2)

/-! ## Shared parts -/

/-- R35: an allocation ends: the patron's entry waits again in its place. The copy reference is changed
by the caller. -/
def Title.endAllocation (t : Title) (patron : Option Nat) : Title :=
  match patron with
  | some p => t.setEntry p .waiting
  | none => t

/-- R36: reassign a copy to the oldest WAITING entry, or release it. -/
def reassign (item : Nat) (t : Title) : Title × List Dispatch :=
  match t.oldestWaiting with
  | some h =>
    ((t.setEntry h.patron (.allocated item)).setCopy item (.away (some h.patron)),
      [.redirect item h.patron h.pickup])
  | none => (t.setCopy item (.away none), [.release item])

/-- A record's change and the dispatches it causes. -/
abbrev TitleChange := Title × List Dispatch

/-- Close a change with the settle: its own dispatches, then those of the settle (R32). -/
def TitleChange.settled (number : Nat) (c : TitleChange) : TitleChange :=
  let t := settle number c.1
  (t.1, c.2 ++ t.2)

/-- R31, R63: the first WAITING entry whose expiry day is earlier than the day. -/
def Title.expired (t : Title) (day : Nat) : Option HoldEntry :=
  t.holds.find? fun h => h.isWaiting && decide (h.expiry < day)

/-- R31: the removal of an expired entry, with the settle after it. -/
def expireRule (number : Nat) (h : HoldEntry) (t : Title) : TitleChange :=
  TitleChange.settled number (t.dropEntry h.patron, [.holdEnded h.patron number .expired])

/-! ## Operations -/

/-- The change, and the answer. -/
abbrev TitleResult := Title × List Dispatch × StepAnswer

/-- A refused operation changes nothing (R32). -/
def TitleResult.refuse (t : Title) (why : Reason) : TitleResult := (t, [], .refused why .nothing)

/-- Insert a copy reference in its place by item number (R28). -/
def insertCopy (c : CopyRef) : List CopyRef → List CopyRef
  | [] => [c]
  | d :: rest => if c.item < d.item then c :: d :: rest else d :: insertCopy c rest

/-- R39: COPY_ADD, given the free copy references. -/
def copyAddRule (number item free : Nat) (t : Title) : TitleResult :=
  if (t.copyOf item).isSome then .refuse t .exists_
  else if Config.copiesPerTitle ≤ t.copies.length then .refuse t .copiesFull
  else if free = 0 then .refuse t .poolFull
  else
    let c := settle number { t with copies := insertCopy ⟨item, .shelf, .agrees⟩ t.copies }
    (c.1, c.2, .done (.copyAdded c.1.copies.length))

/-- The position of a patron's entry in the queue, 1 at the head (R29). -/
def Title.positionOf (t : Title) (patron : Nat) : Nat :=
  (t.holds.findIdx fun h => h.patron == patron) + 1

/-- The item of an entry when it is ALLOCATED (Table 2-3). -/
def HoldEntry.item (h : HoldEntry) : Option Nat :=
  match h.state with
  | .allocated i => some i
  | .waiting => none

/-- R40, R41: HOLD_ADD, given the hold life and the free hold entries. -/
def holdAddRule (number patron pickup life E free : Nat) (t : Title) : TitleResult :=
  if !t.holdable then .refuse t .notHoldable
  else if t.copies.all CopyRef.isLost then .refuse t .noCopies
  else if (t.entryOf patron).isSome then .refuse t .duplicateHold
  else if Config.holdsPerTitle ≤ t.holds.length then .refuse t .queueFull
  else if free = 0 then .refuse t .poolFull
  else
    let c := settle number
      { t with holds := t.holds ++ [⟨patron, pickup, E, capDay (E + life), .waiting, .agrees⟩] }
    (c.1, c.2,
      .done (.holdAdded (c.1.positionOf patron) ((c.1.entryOf patron).bind HoldEntry.item).isSome))

/-- R42: HOLD_DROP. -/
def holdDropRule (number patron : Nat) (t : Title) : TitleResult :=
  match t.entryOf patron with
  | none => .refuse t .notFound
  | some h =>
    let t1 := t.dropEntry patron
    let own : TitleChange := match h.item with
      | some i => reassign i t1
      | none => (t1, [])
    let c := TitleChange.settled number (own.1, .holdEnded patron number .cancelled :: own.2)
    (c.1, c.2, .done (.holdDropped h.item))

/-- R43: the counts and, when asked, the patron's entry. -/
def titleSummaryOf (patron : Option Nat) (t : Title) : TitleSummary :=
  { holdable := t.holdable
    currentTo := t.currentTo
    entries := t.holds.length
    waiting := t.waiting
    allocated := t.holds.length - t.waiting
    shelf := t.copies.countP CopyRef.onShelf
    loan := t.loans
    away := t.copies.countP CopyRef.isAway
    lost := t.copies.countP CopyRef.isLost
    trapped := t.trapped
    entry := patron.bind fun p => (t.entryOf p).map fun h =>
      { position := t.positionOf p, allocated := h.item.isSome, pickup := h.pickup,
        expiry := h.expiry } }

/-! ## Dispatches (2.7). The settle that closes each is in OwnerEngine.lean. -/

/-- R45: the view a report gives a copy reference. A reference that stays in LOAN keeps its trapped
mark, one that stays in AWAY without the refused mark keeps its allocation. -/
def reportedView (c : CopyRef) (report : CopyReport) (refused : Bool) : CopyView :=
  match report with
  | .shelf => .shelf
  | .loan d => .loan d c.isTrapped
  | .away => .away (if refused then none else c.allocatedTo)
  | .lost => .lost

/-- R46: whether a report ends the allocation of an allocated copy. -/
def reportEnds (report : CopyReport) (refused : Bool) : Bool :=
  match report with
  | .away => refused
  | _ => true

/-- R45, R46, R35: COPY_STATE. -/
def copyStateRule (item : Nat) (report : CopyReport) (refused : Bool) (t : Title) : TitleChange :=
  match t.copyOf item with
  | none => (t, [])
  | some c =>
    ((if reportEnds report refused then t.endAllocation c.allocatedTo else t).setCopy item
      (reportedView c report refused), [])

/-- R47: COPY_FREE, for an existing record. -/
def copyFreeRule (item : Nat) (t : Title) : TitleChange :=
  match t.copyOf item with
  | none => (t, [.release item])
  | some c => reassign item ((t.endAllocation c.allocatedTo).setCopy item (.away none))

/-- R48: HOLD_FILLED. -/
def holdFilledRule (number patron item : Nat) (t : Title) : TitleChange :=
  match t.entryOf patron with
  | none => (t, [])
  | some h =>
    let t1 := t.dropEntry patron
    let own : TitleChange := match h.item with
      | some i => if i = item then (t1.setCopy i (.away none), []) else reassign i t1
      | none => (t1, [])
    (own.1, .holdEnded patron number .filled :: own.2)

/-- R49: PICKUP_LAPSED, for an existing record. -/
def pickupLapsedRule (number patron item : Nat) (t : Title) : TitleChange :=
  match t.entryOf patron with
  | some h =>
    if h.item = some item then
      let own := reassign item (t.dropEntry patron)
      (own.1, .holdEnded patron number .lapsed :: own.2)
    else lapsedCopy item t
  | none => lapsedCopy item t
where
  /-- The carried copy of a lapse whose entry is gone: released unless it is allocated (R49). -/
  lapsedCopy (item : Nat) (t : Title) : TitleChange :=
    match (t.copyOf item).bind CopyRef.allocatedTo with
    | some _ => (t, [])
    | none => (t, [.release item])

/-- R50, R35: COPY_REMOVE. -/
def copyRemoveRule (item : Nat) (t : Title) : TitleChange :=
  match t.copyOf item with
  | none => (t, [])
  | some c => ((t.endAllocation c.allocatedTo).dropCopy item, [])

end Sys2Proof.Machine
end

