-- ==== Sys2Proof/Machine/Transactions.lean ====
section
/-! DEFINITION. The transaction engine (chapter 5): contexts, steps, resolution of the owner, answers to a
step, limits on the wait, compensations; and the census requests the ownership map takes (R158). -/

namespace Sys2Proof.Machine

/-! ## Steps (5.2) -/

/-- The card expiry day a step 1 answered (R96). -/
def Values.cardExpiryDay : Values → Nat
  | .standing x _ | .loanOpened x _ _ | .holdOpened x _ _ => x
  | _ => 0

/-- Table 5-2, Table 5-3: the owner operation of a context's present step, with its arguments. The
handover engine runs HAND_OVER (R99), which has none. -/
def Run.op (r : Run) (origin : Nat) : Option OwnerOp :=
  match r.request, r.step with
  | .lend p _, 1 => some (.loanOpen p)
  | .lend p i, 2 => some (.lendItem i p r.gathered.cardExpiryDay origin)
  | .renew p _, 1 => some (.standing p)
  | .renew p i, 2 => some (.extend i p r.gathered.cardExpiryDay)
  | .checkIn i, 1 => some (.takeReturn i origin)
  | .reserve p _ _, 1 => some (.holdOpen p)
  | .reserve p t k, 2 => some (.holdAdd t p k)
  | .cancel p t, 1 => some (.holdDrop t p)
  | .pay p a, 1 => some (.pay p a)
  | .account p, 1 => some (.accountRead p)
  | .itemStatus i, 1 => some (.itemRead i)
  | .titleStatus t p, 1 => some (.titleRead t p)
  | .enrolTitle t h, 1 => some (.titleCreate t h)
  | .enrolPatron p c x, 1 => some (.patronCreate p c x)
  | .updatePatron p c x, 1 => some (.patronSet p c x)
  | .enrolItem i t _, 1 => some (.copyAdd t i)
  | .enrolItem i t c, 2 => some (.itemCreate i t c origin)
  | .withdrawItem i, 1 => some (.itemDelete i)
  | .withdrawTitle t, 1 => some (.titleDelete t)
  | .withdrawPatron p, 1 => some (.patronDelete p)
  | _, _ => none

/-- The number of steps of a request (Table 5-2). -/
def Request.steps : Request → Nat
  | .lend .. | .renew .. | .reserve .. | .enrolItem .. => 2
  | _ => 1

/-- R112, Table 5-2: the compensation for a refused step 2. -/
def Request.compensation : Request → Option Dispatch
  | .lend p _ => some (.loanClose p)
  | .reserve p t _ => some (.holdEnded p t .notPlaced)
  | .enrolItem i t _ => some (.copyRemove t i)
  | _ => none

/-- The record an operation is about: its space and number (R100). -/
def OwnerOp.target : OwnerOp → Space × Nat
  | .itemCreate i _ _ _ | .itemDelete i | .lendItem i _ _ _ | .extend i _ _ | .takeReturn i _
  | .itemRead i => (.item, i)
  | .titleCreate t _ | .titleDelete t | .copyAdd t _ | .holdAdd t _ _ | .holdDrop t _
  | .titleRead t _ => (.title, t)
  | .patronCreate p _ _ | .patronSet p _ _ | .patronDelete p | .standing p | .loanOpen p
  | .holdOpen p | .pay p _ | .accountRead p => (.patron, p)

/-- The block an operation is about (R100). -/
def OwnerOp.block (o : OwnerOp) : Block := blockOf o.target.1 o.target.2

/-- The operation's code (Table 12-8). -/
def OwnerOp.code : OwnerOp → OpCode
  | .itemCreate .. => .itemCreate
  | .itemDelete _ => .itemDelete
  | .lendItem .. => .lendItem
  | .extend .. => .extend
  | .takeReturn .. => .takeReturn
  | .itemRead _ => .itemRead
  | .titleCreate .. => .titleCreate
  | .titleDelete _ => .titleDelete
  | .copyAdd .. => .copyAdd
  | .holdAdd .. => .holdAdd
  | .holdDrop .. => .holdDrop
  | .titleRead .. => .titleRead
  | .patronCreate .. => .patronCreate
  | .patronSet .. => .patronSet
  | .patronDelete _ => .patronDelete
  | .standing _ => .standing
  | .loanOpen _ => .loanOpen
  | .holdOpen _ => .holdOpen
  | .pay .. => .pay
  | .accountRead _ => .accountRead

/-- The patron, item and title numbers an operation names, 0 where it names none (Table 12-3). -/
def OwnerOp.numbers : OwnerOp → Nat × Nat × Nat
  | .itemCreate i t _ _ => (0, i, t)
  | .itemDelete i | .takeReturn i _ | .itemRead i => (0, i, 0)
  | .lendItem i p _ _ | .extend i p _ => (p, i, 0)
  | .titleCreate t _ | .titleDelete t => (0, 0, t)
  | .copyAdd t i => (0, i, t)
  | .holdAdd t p _ | .holdDrop t p => (p, 0, t)
  | .titleRead t p => (p.getD 0, 0, t)
  | .patronCreate p _ _ | .patronSet p _ _ | .patronDelete p | .standing p | .loanOpen p
  | .holdOpen p | .pay p _ | .accountRead p => (p, 0, 0)

/-- The code and numbers of a REQ, which its ANS repeats (R111). -/
def Query.repeats : Query → OpCode × Nat × Nat × Nat
  | .op o => (o.code, o.numbers)
  | .offer .. => (.offer, 0, 0, 0)
  | .blockQuery .. => (.blockQuery, 0, 0, 0)

/-! ## Census requests (R158) -/

/-- The CENSUS frame of a block. -/
def censusFrame (b : Block) (s : State) : Frame := ⟨stationNo s, .all, .census b⟩

/-- A new census place, its frame placed or waiting for a send place (R158). -/
def openCensus (b : Block) (askers : List Asker) (s : State) : State :=
  placeOrWait (censusFrame b s) (.census b) (.census b)
    { s with map := { s.map with census := s.map.census ++ [⟨b, .queued, askers, []⟩] } }

/-- A requester joins the place of its block (R158). -/
def joinCensus (a : Asker) (p : CensusPlace) : CensusPlace :=
  match p.phase with
  | .queued => { p with askers := p.askers ++ [a] }
  | .running | .followUp => { p with phase := .followUp, later := p.later ++ [a] }

/-- R158: a request for a census of a block. -/
def askCensus (b : Block) (a : Asker) (s : State) : State :=
  if s.map.census.any fun p => p.b == b then
    { s with
      map := { s.map with census := s.map.census.map fun p => if p.b = b then joinCensus a p else p } }
  else if s.map.census.length < Config.censusPlaces then openCensus b [a] s
  else { s with map := { s.map with censusWait := s.map.censusWait ++ [(b, a)] } }

/-! ## Ends of a transaction -/

/-- R94, R98, R113: the transaction ends. A refused step 2 queues its compensation into the reserved
entry; otherwise the entry is released. The context becomes ANSWERED and joins the answer order
(R191). -/
def endTransaction (c : Nat) (o : OutcomeCode) (why : Option Reason) (v : Values) (s : State) : State :=
  match getCtx c s with
  | some { gen := g, st := .running r } =>
    let s1 := setCtx c
      { gen := g
        st := .answered
          { tag := r.tag, request := r.request, outcome := o, reason := why, step := r.step,
            deferrals := r.deferrals, redirects := r.redirects, attempts := r.attempts,
            gathered := r.gathered, values := v } } s
    let s2 := { s1 with port := { s1.port with answers := s1.port.answers ++ [c] } }
    if o = .refused ∧ r.step = 2 ∧ r.comp = true then
      match r.request.compensation with
      | some d => enqueue d s2
      | none => s2
    else s2
  | _ => s

/-! ## Resolution (5.3) -/

/-- R105: the step is deferred. -/
def deferStep (c : Nat) (s : State) : State :=
  match getRun c s with
  | some r =>
    if r.deferrals + 1 = Config.deferralLimit then
      endTransaction c .deferredOut none .nothing (setRun c { r with deferrals := r.deferrals + 1 } s)
    else setRun c { r with deferrals := r.deferrals + 1, phase := .deferring } s
  | none => s

/-- R107: the step asks a census of its block, counted as a deferral. -/
def censusStep (c : Nat) (b : Block) (s : State) : State :=
  match getRun c s with
  | some r =>
    if r.deferrals + 1 = Config.deferralLimit then
      endTransaction c .deferredOut none .nothing (setRun c { r with deferrals := r.deferrals + 1 } s)
    else
      askCensus b (.context c)
        (setRun c { r with deferrals := r.deferrals + 1, redirects := 0, phase := .census } s)
  | none => s

/-- R102: the step's REQ is placed in the send queue, or the context waits in SENDING for a place. -/
def sendStep (c : Nat) (dest : Nat) (o : OwnerOp) (s : State) : State :=
  match getRun c s with
  | some r =>
    placeOrWait ⟨stationNo s, .station dest, .req (ctxRef c r s) (.op o)⟩ (.context c) (.context c dest)
      (setRun c { r with phase := .sending, attempts := 0 } s)
  | none => s

/-- R100: resolve the owner of the present step from this station's view, and take the step there. -/
def resolveStep (c : Nat) (s : State) : State :=
  match getRun c s with
  | some r =>
    match r.op (stationNo s) with
    | some o =>
      match viewOf o.block s with
      | .home | .lending _ => askKiosk c (setRun c { r with phase := .local_ } s)
      | .foreign st => sendStep c st o s
      | .unknown => censusStep c o.block s
      | .receiving _ | .probing => deferStep c s
    | none => s
  | none => s

/-- R97: whether the context must still reserve its compensation entry before it resolves step 2. -/
def Run.needsEntry (r : Run) : Bool :=
  r.step == 2 && !r.comp && r.request.compensation.isSome

/-- R97: proceed to step 2 after a DONE step 1. A step answered within its own local grant asks for its compensation
entry with the grant's 3 places counted free already. DEDUCED (log entry 39): R121 ends that reservation at the end of
the grant, and the order of the two is not stated. -/
def proceed (c : Nat) (v : Values) (s : State) : State :=
  match getRun c s with
  | some r =>
    let r2 : Run := { r with step := 2, deferrals := 0, redirects := 0, gathered := v, comp := false }
    if r2.needsEntry then
      if 0 < freePlaces s then resolveStep c (setRun c { r2 with comp := true } s)
      else deferStep c (setRun c r2 s)
    else resolveStep c (setRun c r2 s)
  | none => s

/-- R97, R105: the deferral wait has expired; the context asks again for its entry if it lacks it, and
resolves the step again. -/
def resumeStep (c : Nat) (s : State) : State :=
  match getRun c s with
  | some r =>
    if r.needsEntry then
      if 0 < freePlaces s then resolveStep c (setRun c { r with comp := true } s)
      else deferStep c s
    else resolveStep c s
  | none => s

/-! ## Views that move (R106, R153, R155) -/

/-- R155: the records of a block viewed FOREIGN are freed as the stream requester. -/
def freeStranded (b : Block) (s : State) : State :=
  if (recordsOf b s).isEmpty then s else askStreamOnce (.free b) s

/-- A view becomes FOREIGN, and its stranded records are freed (R155). -/
def becomeForeign (b : Block) (st : Nat) (s : State) : State :=
  freeStranded b (setView b (.foreign st) s)

/-- R106, R156: an owner named by a MOVED_TO answer replaces a FOREIGN or UNKNOWN view. -/
def noteOwner (b : Block) (st : Nat) (s : State) : State :=
  match viewOf b s with
  | .foreign _ | .unknown | .probing => becomeForeign b st s
  | .home | .lending _ | .receiving _ => s

/-- R103 to R107: the context takes the answer to its step. An answer that no owner gives leaves it waiting for its
answer limit (log entry 26). -/
def takeAnswer (c : Nat) (a : StepAnswer) (s : State) : State :=
  match getRun c s with
  | none => s
  | some r =>
    match a with
    | .done v =>
      if r.step = 1 ∧ r.request.steps = 2 then proceed c v s else endTransaction c .done none v s
    | .refused why v => endTransaction c .refused (some why) v s
    | .deferred => deferStep c s
    | .movedTo st =>
      match r.op (stationNo s) with
      | none => s
      | some o =>
        let s1 := setRun c { r with redirects := r.redirects + 1 } s
        if st = stationNo s ∧ viewOf o.block s ≠ .home then censusStep c o.block s1
        else
          let s2 := noteOwner o.block st s1
          if r.redirects + 1 < Config.redirectLimit then resolveStep c s2 else censusStep c o.block s2
    | .notOwner =>
      match r.op (stationNo s) with
      | none => s
      | some o => censusStep c o.block s
    | .exchange .. | .other .. => s

/-! ## Contexts taken (R92) -/

/-- The lowest-numbered FREE context. -/
def freeCtx (s : State) : Option Nat := s.ctxs.findIdx? fun x => !x.live

/-- The run of a context just taken (R92). -/
def newRun (tag : Nat) (q : Request) : Run :=
  { tag := tag, request := q, step := 1, phase := .local_, attempts := 0, deferrals := 0,
    redirects := 0, gathered := .nothing, comp := false }

/-- R92: a context is taken: its generation rises by 1 and it is RUNNING at step 1. -/
def takeCtx (c tag : Nat) (q : Request) (s : State) : State :=
  setCtx c
    { gen := (((getCtx c s).map Ctx.gen).getD 0 + 1) % 256, st := .running (newRun tag q) } s

end Sys2Proof.Machine
end

