-- ==== Sys2Proof/Machine/Formats.lean ====
section
/-! DEFINITION. The frames as octets (chapter 12): the check of a frame (R131), every frame body written and read in
the field order of Tables 12-2 to 12-4, and the code values of Table 12-8. What chapter 12 leaves open in these
layouts is in log entries 20 to 24. -/

namespace Sys2Proof.Machine

/-! ## Field widths (Table 12-1) -/

/-- A field of two octets, most significant first (R203). -/
def put2 (n : Nat) : List Nat := [n / 256 % 256, n % 256]

/-- A field of three octets, most significant first (R203). -/
def put3 (n : Nat) : List Nat := [n / 65536 % 256, n / 256 % 256, n % 256]

/-- A mark (Table 12-1). -/
def putMark (b : Bool) : List Nat := [if b then 1 else 0]

/-- An optional field, sent when present. -/
def putOpt {α : Type} (f : α → List Nat) : Option α → List Nat
  | some x => f x
  | none => []

/-- The presence octet of one optional field (R203: bit 0). -/
def presence1 {α : Type} (o : Option α) : Nat := if o.isSome then 1 else 0

/-- A reader of octets: it takes fields from the front, or fails. -/
abbrev Read := StateT (List Nat) Option

/-- One octet. -/
def oct : Read Nat := fun l =>
  match l with
  | [] => none
  | a :: rest => some (a, rest)

/-- Go on only when a condition holds (R204). -/
def need (p : Bool) : Read Unit := fun l => if p then some ((), l) else none

/-- A reader's value, when there is one (R204). -/
def orFail {α : Type} (o : Option α) : Read α := fun l => o.map fun x => (x, l)

/-- Two octets (R203). -/
def pair : Read Nat := do
  let a ← oct
  let b ← oct
  pure (a * 256 + b)

/-- Three octets (R203). -/
def triple : Read Nat := do
  let a ← oct
  let b ← oct
  let c ← oct
  pure (a * 65536 + b * 256 + c)

/-- Cents: 0 to 500,000 (Table 12-1; what lies above is malformed, log entry 14). -/
def readCents : Read Nat := do
  let a ← triple
  need (decide (a ≤ Config.balanceLimit))
  pure a

/-- A count octet at most the capacity of its list (R204). -/
def countTo (n : Nat) : Read Nat := do
  let a ← oct
  need (decide (a ≤ n))
  pure a

/-- A mark: 0 or 1 (Table 12-1). -/
def readMark : Read Bool := do
  let a ← oct
  need (decide (a < 2))
  pure (a == 1)

/-- An octet below a bound. -/
def octBelow (n : Nat) : Read Nat := do
  let a ← oct
  need (decide (a < n))
  pure a

/-- A station 0 to 31 (Table 12-1). -/
def readStation : Read Nat := octBelow 32

/-- An optional field, read when its presence bit is set (R203). -/
def readOpt {α : Type} (p : Bool) (r : Read α) : Read (Option α) :=
  if p then do
    let x ← r
    pure (some x)
  else pure none

/-! ## Codes (Table 12-8) -/

/-- A code table: the value at a code. -/
def ofCode {α : Type} (table : List α) (n : Nat) : Option α := table[n]?

/-- The code of a value in its table. -/
def codeOf {α : Type} [DecidableEq α] (table : List α) (x : α) : Nat := table.idxOf x

/-- Outcomes from code 0. -/
def outcomeTable : List OutcomeCode :=
  [.done, .refused, .deferred, .movedTo, .notOwner, .timedOut, .unreachable, .deferredOut, .noOwner,
   .busy, .notOnline, .badRequest, .taken, .none, .unknownCommand, .home, .notHome, .badCount]

/-- Reasons from code 1. -/
def reasonTable : List Reason :=
  [.exists_, .poolFull, .notFound, .wrongState, .heldForOther, .holdLapsed, .notBorrower, .trapped,
   .renewLimit, .noGain, .notEnrolled, .copiesFull, .notHoldable, .noCopies, .duplicateHold,
   .queueFull, .notEmpty, .damaged, .cardExpired, .blocked, .staleDay, .busyHandover, .noRoom,
   .alreadyHome, .notHome, .notQuiet, .badValue, .incomplete, .badCount, .streamUndelivered]

/-- Operations from code 1. -/
def opTable : List OpCode :=
  [.itemCreate, .itemDelete, .lendItem, .extend, .takeReturn, .itemRead, .titleCreate, .titleDelete,
   .copyAdd, .holdAdd, .holdDrop, .titleRead, .patronCreate, .patronSet, .patronDelete, .standing,
   .loanOpen, .holdOpen, .pay, .accountRead, .offer, .blockQuery, .lastDecision]

/-- Item states from code 0. -/
def itemStateTable : List ItemStateCode :=
  [.onShelf, .onLoan, .awaitRoute, .pull, .inTransit, .held, .lost]

/-- Quantities from code 0. -/
def quantityTable : List Quantity := [.balance, .loans, .holds]

/-- Relations from code 0. -/
def relationTable : List Relation := [.eq, .ne, .lt, .le, .gt, .ge]

/-- Spaces from code 0. -/
def spaceTable : List Space := [.item, .title, .patron]

/-- Reasons of a CHARGE from code 0. -/
def chargeReasonTable : List ChargeReason := [.overdue, .lost]

/-- Reasons of a HOLD_ENDED from code 0. -/
def holdEndTable : List HoldEnd := [.cancelled, .expired, .lapsed, .filled, .notPlaced]

/-- The code of a reason, 0 for none. -/
def reasonCode : Option Reason → Nat
  | none => 0
  | some r => codeOf reasonTable r + 1

/-- Read a code of a table whose first code is `base`. -/
def readCode {α : Type} (table : List α) (base : Nat) : Read α := do
  let a ← oct
  need (decide (base ≤ a))
  orFail (ofCode table (a - base))

/-- A block: space and number. -/
def putBlock (b : Block) : List Nat := [b.space.code, b.num]

/-- Read a block. -/
def readBlock : Read Block := do
  let sp ← readCode spaceTable 0
  let n ← oct
  pure ⟨sp, n⟩

/-- A route, SEND and PULL followed by their station (Table 12-8). -/
def putRoute : Route → List Nat
  | .shelve => [0]
  | .send st => [1, st]
  | .holdShelf => [2]
  | .setAside => [3]
  | .pull st => [4, st]

/-- Read a route. -/
def readRoute : Read Route := do
  let a ← oct
  match a with
  | 0 => pure .shelve
  | 1 => do
    let st ← readStation
    pure (.send st)
  | 2 => pure .holdShelf
  | 3 => pure .setAside
  | 4 => do
    let st ← readStation
    pure (.pull st)
  | _ => orFail none

/-! ## The state-dependent fields of an item (Table 1-1) -/

/-- The presence octets: borrower, due day, renewals, hold target, destination, ready day, pickup-by day,
lapsed mark; then loss fine, replacement charged. -/
def ItemState.presence : ItemState → Nat × Nat
  | .onShelf | .awaitRoute => (0, 0)
  | .onLoan .. => (7, 0)
  | .pull _ => (8, 0)
  | .inTransit none _ => (16, 0)
  | .inTransit (some _) _ => (24, 0)
  | .held .. => (232, 0)
  | .lost .. => (3, 3)

/-- A hold target: patron and pickup station. -/
def putTarget (t : HoldTarget) : List Nat := put3 t.patron ++ [t.pickup]

/-- The two presence octets as they are sent. -/
def ItemState.presenceOctets (st : ItemState) : List Nat := [st.presence.1, st.presence.2]

/-- The fields of Table 1-1 from the borrower to the replacement charged. -/
def putItemFields : ItemState → List Nat
  | .onShelf | .awaitRoute => putMark false
  | .onLoan b due ren tr => put3 b ++ put2 due ++ [ren] ++ putMark tr
  | .pull t => putMark false ++ putTarget t
  | .inTransit none d => putMark false ++ [d]
  | .inTransit (some t) d => putMark false ++ putTarget t ++ [d]
  | .held t ready by_ lapsed =>
    putMark false ++ putTarget t ++ put2 ready ++ put2 by_ ++ putMark lapsed
  | .lost b due fine repl => put3 b ++ put2 due ++ putMark false ++ put3 fine ++ put3 repl

/-- The fields behind their presence octets, as an item record unit sends them. -/
def putItemState (st : ItemState) : List Nat := st.presenceOctets ++ putItemFields st

/-- Read a hold target. -/
def readTarget : Read HoldTarget := do
  let p ← triple
  let st ← readStation
  pure ⟨p, st⟩

/-- Read the fields that a state has, its presence octets read before. DESIGN CHOICE (log entry 14): presence bits that
do not fit the state, and a trapped mark of 1 in a state other than ON_LOAN, where Table 1-1 has it clear, make the
frame malformed; R204 names neither. -/
def readItemFields (code : ItemStateCode) (p q : Nat) : Read ItemState :=
  match code, p, q % 4 with
  | .onShelf, 0, 0 => do
    let t ← readMark
    need (!t)
    pure .onShelf
  | .awaitRoute, 0, 0 => do
    let t ← readMark
    need (!t)
    pure .awaitRoute
  | .onLoan, 7, 0 => do
    let b ← triple
    let due ← pair
    let ren ← octBelow 16
    let tr ← readMark
    pure (.onLoan b due ren tr)
  | .pull, 8, 0 => do
    let m ← readMark
    need (!m)
    let t ← readTarget
    pure (.pull t)
  | .inTransit, 16, 0 => do
    let m ← readMark
    need (!m)
    let d ← readStation
    pure (.inTransit none d)
  | .inTransit, 24, 0 => do
    let m ← readMark
    need (!m)
    let t ← readTarget
    let d ← readStation
    pure (.inTransit (some t) d)
  | .held, 232, 0 => do
    let m ← readMark
    need (!m)
    let t ← readTarget
    let ready ← pair
    let by_ ← pair
    let lapsed ← readMark
    pure (.held t ready by_ lapsed)
  | .lost, 3, 3 => do
    let b ← triple
    let due ← pair
    let m ← readMark
    need (!m)
    let fine ← readCents
    let repl ← readCents
    pure (.lost b due fine repl)
  | _, _, _ => orFail none

/-- Read the fields behind their presence octets. -/
def readItemState (code : ItemStateCode) : Read ItemState := do
  let p ← oct
  let q ← oct
  readItemFields code p q

/-! ## REQ (Table 5-3, Table 12-3) -/

/-- The arguments of an operation in the order of Table 5-3. -/
def putOp : OwnerOp → List Nat
  | .itemCreate i t c st => put3 i ++ put3 t ++ [c, st]
  | .itemDelete i | .itemRead i => put3 i
  | .lendItem i p x st => put3 i ++ put3 p ++ put2 x ++ [st]
  | .extend i p x => put3 i ++ put3 p ++ put2 x
  | .takeReturn i st => put3 i ++ [st]
  | .titleCreate t h => put3 t ++ putMark h
  | .titleDelete t => put3 t
  | .copyAdd t i => put3 t ++ put3 i
  | .holdAdd t p st => put3 t ++ put3 p ++ [st]
  | .holdDrop t p => put3 t ++ put3 p
  | .titleRead t p => put3 t ++ [presence1 p] ++ putOpt put3 p
  | .patronCreate p c x => put3 p ++ [c] ++ put2 x
  | .patronSet p c x =>
    put3 p ++ [presence1 c + 2 * presence1 x] ++ putOpt (fun n => [n]) c ++ putOpt put2 x
  | .patronDelete p | .standing p | .loanOpen p | .holdOpen p | .accountRead p => put3 p
  | .pay p a => put3 p ++ put3 a

/-- What a REQ asks, behind its operation code. -/
def putQuery : Query → List Nat
  | .op o => putOp o
  | .offer b serial c => putBlock b ++ [serial] ++ put2 c.records ++ put2 c.copies ++ put2 c.holds
  | .blockQuery b serial => putBlock b ++ [serial]

/-- Read what a REQ asks. The operation code 23 (LAST decision) lies in Table 12-8 and has no REQ body: such a REQ is
refused as malformed. DESIGN CHOICE (log entry 14): no rule says so. A PATRON_SET that names neither field is taken, and
changes nothing: R72 says one field or both and is silent on neither (log entry 13). -/
def readQuery (op : OpCode) : Read Query :=
  match op with
  | .itemCreate => do
    let i ← triple
    let t ← triple
    let c ← octBelow 8
    let st ← readStation
    pure (.op (.itemCreate i t c st))
  | .itemDelete => do
    let i ← triple
    pure (.op (.itemDelete i))
  | .lendItem => do
    let i ← triple
    let p ← triple
    let x ← pair
    let st ← readStation
    pure (.op (.lendItem i p x st))
  | .extend => do
    let i ← triple
    let p ← triple
    let x ← pair
    pure (.op (.extend i p x))
  | .takeReturn => do
    let i ← triple
    let st ← readStation
    pure (.op (.takeReturn i st))
  | .itemRead => do
    let i ← triple
    pure (.op (.itemRead i))
  | .titleCreate => do
    let t ← triple
    let h ← readMark
    pure (.op (.titleCreate t h))
  | .titleDelete => do
    let t ← triple
    pure (.op (.titleDelete t))
  | .copyAdd => do
    let t ← triple
    let i ← triple
    pure (.op (.copyAdd t i))
  | .holdAdd => do
    let t ← triple
    let p ← triple
    let st ← readStation
    pure (.op (.holdAdd t p st))
  | .holdDrop => do
    let t ← triple
    let p ← triple
    pure (.op (.holdDrop t p))
  | .titleRead => do
    let t ← triple
    let m ← oct
    let p ← readOpt (m.testBit 0) triple
    pure (.op (.titleRead t p))
  | .patronCreate => do
    let p ← triple
    let c ← octBelow 4
    let x ← pair
    pure (.op (.patronCreate p c x))
  | .patronSet => do
    let p ← triple
    let m ← oct
    let c ← readOpt (m.testBit 0) (octBelow 4)
    let x ← readOpt (m.testBit 1) pair
    pure (.op (.patronSet p c x))
  | .patronDelete => do
    let p ← triple
    pure (.op (.patronDelete p))
  | .standing => do
    let p ← triple
    pure (.op (.standing p))
  | .loanOpen => do
    let p ← triple
    pure (.op (.loanOpen p))
  | .holdOpen => do
    let p ← triple
    pure (.op (.holdOpen p))
  | .pay => do
    let p ← triple
    let a ← readCents
    pure (.op (.pay p a))
  | .accountRead => do
    let p ← triple
    pure (.op (.accountRead p))
  | .offer => do
    let b ← readBlock
    let serial ← oct
    let r ← pair
    let c ← pair
    let h ← pair
    pure (.offer b serial ⟨r, c, h⟩)
  | .blockQuery => do
    let b ← readBlock
    let serial ← oct
    pure (.blockQuery b serial)
  | .lastDecision => orFail none

/-- The operation code of a REQ. -/
def Query.code (q : Query) : OpCode := q.repeats.1

/-! ## ANS (R111, Table 12-3) -/

/-- The entry part of a TITLE_READ answer. -/
def putEntry (e : EntrySummary) : List Nat :=
  [e.position] ++ putMark e.allocated ++ [e.pickup] ++ put2 e.expiry

/-- The presence octets at the head of a rule's values, one bit for each value that may be absent (R203, Table 12-3).
None is sent where no value may be absent (log entry 21). The four values of a TITLE_READ's entry (position, state,
pickup station and expiry day, R43) have a bit each, and the four bits are set or clear together. -/
def putPresence : Values → List Nat
  | .returned _ _ _ _ p _ => [presence1 p]
  | .itemSummary r => r.state.presenceOctets
  | .holdDropped i => [presence1 i]
  | .titleSummary r => [if r.entry.isSome then 15 else 0]
  | _ => []

/-- The values of a rule, in the order the rule names them. The value read in a BLOCKED refusal takes 3 octets, as a
standing test's value does, whatever the quantity: no rule gives its width. PRESUMED (log entry 21). -/
def putValues : Values → List Nat
  | .nothing | .refusedBy _ | .acceptedBy _ => []
  | .itemCreated i t => put3 i ++ put3 t
  | .itemDeleted i t st => put3 i ++ put3 t ++ [codeOf itemStateTable st]
  | .lent due short t => put2 due ++ putMark short ++ put3 t
  | .extended due short fine ren => put2 due ++ putMark short ++ put3 fine ++ [ren]
  | .returned before after route fine p noChange =>
    [codeOf itemStateTable before, codeOf itemStateTable after] ++ putRoute route ++ put3 fine ++
      putOpt put3 p ++ putMark noChange
  | .itemSummary r =>
    [codeOf itemStateTable r.state.code] ++ put3 r.title ++ [r.cls, r.shelf, r.at_] ++
      put2 r.currentTo ++ putMark r.quarantined ++ putItemFields r.state
  | .titleCreated t => put3 t
  | .titleDeleted t c h => put3 t ++ [c, h]
  | .copyAdded n => [n]
  | .holdAdded pos al => [pos] ++ putMark al
  | .holdDropped i => putMark i.isSome ++ putOpt put3 i
  | .titleSummary r =>
    putMark r.holdable ++ put2 r.currentTo ++
      [r.entries, r.waiting, r.allocated, r.shelf, r.loan, r.away, r.lost, r.trapped] ++
      putOpt putEntry r.entry
  | .patronCreated p x => put3 p ++ put2 x
  | .patronSet c x => [c] ++ put2 x
  | .patronDeleted p => put3 p
  | .standing x b => put2 x ++ put3 b
  | .loanOpened x b n | .holdOpened x b n => put2 x ++ put3 b ++ [n]
  | .paid a b sat => put3 a ++ put3 b ++ putMark sat
  | .account b sat l h x c => put3 b ++ putMark sat ++ [l, h] ++ put2 x ++ [c]
  | .cardExpired x => put2 x
  | .blocked i q v => [i, codeOf quantityTable q] ++ put3 v
  | .notEmpty l h b => [l, h] ++ put3 b
  | .exchange b serial => putBlock b ++ [serial]

/-- Read the summary of ITEM_READ. -/
def readSummary : Read Values := do
  let p ← oct
  let q' ← oct
  let code ← readCode itemStateTable 0
  let t ← triple
  let cls ← octBelow 8
  let shelf ← readStation
  let at_ ← readStation
  let day ← pair
  let q ← readMark
  let st ← readItemFields code p q'
  pure (.itemSummary
    { title := t, cls := cls, shelf := shelf, state := st, at_ := at_, currentTo := day,
      quarantined := q })

/-- Read the patron's entry of TITLE_READ. -/
def readEntry : Read EntrySummary := do
  let pos ← oct
  let al ← readMark
  let st ← readStation
  let x ← pair
  pure ⟨pos, al, st, x⟩

/-- Read the counts of TITLE_READ, each at most the capacity of the list it counts (R204). The four presence bits of
the entry's values agree: a frame in which they differ is refused. DESIGN CHOICE (log entry 14). -/
def readTitleSummary : Read Values := do
  let m ← oct
  let h ← readMark
  let day ← pair
  let entries ← countTo Config.holdsPerTitle
  let waiting ← countTo Config.holdsPerTitle
  let allocated ← countTo Config.holdsPerTitle
  let shelf ← countTo Config.copiesPerTitle
  let loan ← countTo Config.copiesPerTitle
  let away ← countTo Config.copiesPerTitle
  let lost ← countTo Config.copiesPerTitle
  let trapped ← countTo Config.copiesPerTitle
  need (m % 16 == 0 || m % 16 == 15)
  let e ← readOpt (m.testBit 0) readEntry
  pure (.titleSummary
    { holdable := h, currentTo := day, entries := entries, waiting := waiting,
      allocated := allocated, shelf := shelf, loan := loan, away := away, lost := lost,
      trapped := trapped, entry := e })

/-- Read the values of a DONE answer. A HOLD_DROP answer whose presence bit disagrees with the state it carries, an
ALLOCATED entry naming its item, is refused. DESIGN CHOICE (log entry 14). -/
def readDone (op : OpCode) : Read Values :=
  match op with
  | .itemCreate => do
    let i ← triple
    let t ← triple
    pure (.itemCreated i t)
  | .itemDelete => do
    let i ← triple
    let t ← triple
    let st ← readCode itemStateTable 0
    pure (.itemDeleted i t st)
  | .lendItem => do
    let due ← pair
    let short ← readMark
    let t ← triple
    pure (.lent due short t)
  | .extend => do
    let due ← pair
    let short ← readMark
    let fine ← readCents
    let ren ← oct
    pure (.extended due short fine ren)
  | .takeReturn => do
    let m ← oct
    let before ← readCode itemStateTable 0
    let after ← readCode itemStateTable 0
    let route ← readRoute
    let fine ← readCents
    let p ← readOpt (m.testBit 0) triple
    let noChange ← readMark
    pure (.returned before after route fine p noChange)
  | .itemRead => readSummary
  | .titleCreate => do
    let t ← triple
    pure (.titleCreated t)
  | .titleDelete => do
    let t ← triple
    let c ← countTo Config.copiesPerTitle
    let h ← countTo Config.holdsPerTitle
    pure (.titleDeleted t c h)
  | .copyAdd => do
    let n ← countTo Config.copiesPerTitle
    pure (.copyAdded n)
  | .holdAdd => do
    let pos ← oct
    let al ← readMark
    pure (.holdAdded pos al)
  | .holdDrop => do
    let m ← oct
    let al ← readMark
    need (m.testBit 0 == al)
    let i ← readOpt (m.testBit 0) triple
    pure (.holdDropped i)
  | .titleRead => readTitleSummary
  | .patronCreate => do
    let p ← triple
    let x ← pair
    pure (.patronCreated p x)
  | .patronSet => do
    let c ← octBelow 4
    let x ← pair
    pure (.patronSet c x)
  | .patronDelete => do
    let p ← triple
    pure (.patronDeleted p)
  | .standing => do
    let x ← pair
    let b ← readCents
    pure (.standing x b)
  | .loanOpen => do
    let x ← pair
    let b ← readCents
    let n ← oct
    pure (.loanOpened x b n)
  | .holdOpen => do
    let x ← pair
    let b ← readCents
    let n ← oct
    pure (.holdOpened x b n)
  | .pay => do
    let a ← readCents
    let b ← readCents
    let sat ← readMark
    pure (.paid a b sat)
  | .accountRead => do
    let b ← readCents
    let sat ← readMark
    let l ← oct
    let h ← oct
    let x ← pair
    let c ← octBelow 4
    pure (.account b sat l h x c)
  | .offer => pure .nothing
  | .blockQuery | .lastDecision => orFail none

/-- Read the values a refusal carries (R98). -/
def readRefused (op : OpCode) (why : Reason) : Read Values :=
  match why with
  | .blocked => do
    let i ← oct
    let q ← readCode quantityTable 0
    let v ← triple
    pure (.blocked i q v)
  | .cardExpired => do
    let x ← pair
    pure (.cardExpired x)
  | .notEmpty =>
    if op = .patronDelete then do
      let l ← oct
      let h ← oct
      let b ← readCents
      pure (.notEmpty l h b)
    else pure .nothing
  | _ => pure .nothing

/-- The outcome, reason, MOVED_TO station, presence octets and values of an answer. -/
def putAnswer : StepAnswer → List Nat
  | .done v => [codeOf outcomeTable .done, 0, 255] ++ putPresence v ++ putValues v
  | .refused r v =>
    [codeOf outcomeTable .refused, reasonCode (some r), 255] ++ putPresence v ++ putValues v
  | .deferred => [codeOf outcomeTable .deferred, 0, 255]
  | .movedTo st => [codeOf outcomeTable .movedTo, 0, st]
  | .notOwner => [codeOf outcomeTable .notOwner, 0, 255]
  | .exchange o b serial => [codeOf outcomeTable o, 0, 255] ++ putBlock b ++ [serial]
  | .other o why => [codeOf outcomeTable o, reasonCode why, 255]

/-- Read a reason, 0 standing for none. A code above the table is malformed (R204). -/
def readReason : Read (Option Reason) := do
  let a ← oct
  if a = 0 then pure none
  else do
    let r ← orFail (ofCode reasonTable (a - 1))
    pure (some r)

/-- Read the outcome, reason, station and values of an answer. Only codes outside Table 12-8 make it malformed (R204):
a reason beside an outcome that has none is read and not used, a REFUSED without a reason and an outcome that no owner
gives are `StepAnswer.other`, without values, and a station other than 255 beside an outcome other than MOVED_TO is
malformed. DEDUCED (log entry 26): R204 names code fields outside their tables, and no rule says more. -/
def readAnswer (op : OpCode) : Read StepAnswer := do
  let o ← readCode outcomeTable 0
  let why ← readReason
  let st ← oct
  if op = .blockQuery ∨ op = .lastDecision then do
    need (st == 255)
    let b ← readBlock
    let serial ← oct
    pure (.exchange o b serial)
  else
    match o, why with
    | .done, _ => do
      need (st == 255)
      let v ← readDone op
      pure (.done v)
    | .refused, some r => do
      need (st == 255)
      let v ← readRefused op r
      pure (.refused r v)
    | .deferred, _ => do
      need (st == 255)
      pure .deferred
    | .movedTo, _ => do
      need (decide (st < 32))
      pure (.movedTo st)
    | .notOwner, _ => do
      need (st == 255)
      pure .notOwner
    | _, _ => do
      need (st == 255)
      pure (.other o why)

/-- A context reference (R102). -/
def putRef (r : CtxRef) : List Nat := [r.ctx, r.gen, r.step]

/-- Read a context reference. -/
def readRef : Read CtxRef := do
  let c ← oct
  let g ← oct
  let st ← oct
  pure ⟨c, g, st⟩

/-- An ANS body. -/
def putAns (a : Ans) : List Nat :=
  putRef a.ref ++ [codeOf opTable a.op + 1] ++ put3 a.patron ++ put3 a.item ++ put3 a.title ++
    putAnswer a.answer

/-- Read an ANS body. -/
def readAns : Read Body := do
  let r ← readRef
  let op ← readCode opTable 1
  let p ← triple
  let i ← triple
  let t ← triple
  let a ← readAnswer op
  pure (.ans { ref := r, op := op, patron := p, item := i, title := t, answer := a })

/-! ## DISPATCH (Table 6-1, Table 12-3) -/

/-- A target: space and number. -/
def putTargetNo (sp : Space) (n : Nat) : List Nat := sp.code :: put3 n

/-- The code of a reported copy view. -/
def CopyReport.num : CopyReport → Nat
  | .shelf => 0
  | .loan _ => 1
  | .away => 2
  | .lost => 3

/-- A reported copy view with its due day behind a presence octet. -/
def putReport (r : CopyReport) : List Nat :=
  match r with
  | .loan due => [r.num, 1] ++ put2 due
  | _ => [r.num, 0]

/-- Read a reported copy view. -/
def readReport : Read CopyReport := do
  let v ← oct
  let m ← oct
  match v, m % 2 with
  | 0, 0 => pure .shelf
  | 1, 1 => do
    let due ← pair
    pure (.loan due)
  | 2, 0 => pure .away
  | 3, 0 => pure .lost
  | _, _ => orFail none

/-- A DISPATCH body: kind, target, body fields. -/
def putDispatch : Dispatch → List Nat
  | .charge p c i w =>
    [1] ++ putTargetNo .patron p ++ put3 c ++ put3 i ++ [codeOf chargeReasonTable w]
  | .credit p c i => [2] ++ putTargetNo .patron p ++ put3 c ++ put3 i
  | .loanClose p => [3] ++ putTargetNo .patron p
  | .holdEnded p t w => [4] ++ putTargetNo .patron p ++ put3 t ++ [codeOf holdEndTable w]
  | .copyState t i r f => [5] ++ putTargetNo .title t ++ put3 i ++ putReport r ++ putMark f
  | .copyFree t i a => [6] ++ putTargetNo .title t ++ put3 i ++ [a]
  | .holdFilled t p i => [7] ++ putTargetNo .title t ++ put3 p ++ put3 i
  | .pickupLapsed t p i => [8] ++ putTargetNo .title t ++ put3 p ++ put3 i
  | .copyRemove t i => [9] ++ putTargetNo .title t ++ put3 i
  | .trap i => [10] ++ putTargetNo .item i
  | .untrap i => [11] ++ putTargetNo .item i
  | .allocate i t p k => [12] ++ putTargetNo .item i ++ put3 t ++ put3 p ++ [k]
  | .redirect i p k => [13] ++ putTargetNo .item i ++ put3 p ++ [k]
  | .release i => [14] ++ putTargetNo .item i
  | .kioskNote st i r p => [15, st] ++ put3 i ++ putRoute r ++ [presence1 p] ++ putOpt put3 p
  | .abandon st b serial => [16, st] ++ putBlock b ++ [serial]

/-- Read a target of the space its kind requires. A space that is in Table 12-1 and is not that of the kind makes the
frame malformed. DESIGN CHOICE (log entry 14): R204 names the codes outside their tables only. -/
def readTargetNo (sp : Space) : Read Nat := do
  let a ← oct
  need (a == sp.code)
  triple

/-- Read a DISPATCH body. The cents of a CHARGE or a CREDIT are read as a cents field, 0 to 500,000: a value of 0 or
above 100,000, which no station sends (R83, R84), is taken and applied. DESIGN CHOICE (log entry 14). -/
def readDispatch : Read Dispatch := do
  let k ← oct
  match k with
  | 1 => do
    let p ← readTargetNo .patron
    let c ← readCents
    let i ← triple
    let w ← readCode chargeReasonTable 0
    pure (.charge p c i w)
  | 2 => do
    let p ← readTargetNo .patron
    let c ← readCents
    let i ← triple
    pure (.credit p c i)
  | 3 => do
    let p ← readTargetNo .patron
    pure (.loanClose p)
  | 4 => do
    let p ← readTargetNo .patron
    let t ← triple
    let w ← readCode holdEndTable 0
    pure (.holdEnded p t w)
  | 5 => do
    let t ← readTargetNo .title
    let i ← triple
    let r ← readReport
    let f ← readMark
    pure (.copyState t i r f)
  | 6 => do
    let t ← readTargetNo .title
    let i ← triple
    let a ← readStation
    pure (.copyFree t i a)
  | 7 => do
    let t ← readTargetNo .title
    let p ← triple
    let i ← triple
    pure (.holdFilled t p i)
  | 8 => do
    let t ← readTargetNo .title
    let p ← triple
    let i ← triple
    pure (.pickupLapsed t p i)
  | 9 => do
    let t ← readTargetNo .title
    let i ← triple
    pure (.copyRemove t i)
  | 10 => do
    let i ← readTargetNo .item
    pure (.trap i)
  | 11 => do
    let i ← readTargetNo .item
    pure (.untrap i)
  | 12 => do
    let i ← readTargetNo .item
    let t ← triple
    let p ← triple
    let st ← readStation
    pure (.allocate i t p st)
  | 13 => do
    let i ← readTargetNo .item
    let p ← triple
    let st ← readStation
    pure (.redirect i p st)
  | 14 => do
    let i ← readTargetNo .item
    pure (.release i)
  | 15 => do
    let st ← readStation
    let i ← triple
    let r ← readRoute
    let m ← oct
    let p ← readOpt (m.testBit 0) triple
    pure (.kioskNote st i r p)
  | 16 => do
    let st ← readStation
    let b ← readBlock
    let serial ← oct
    pure (.abandon st b serial)
  | _ => orFail none

/-! ## STREAM (R162, Table 12-4) -/

/-- The code of a copy view. -/
def CopyView.num : CopyView → Nat
  | .shelf => 0
  | .loan .. => 1
  | .away _ => 2
  | .lost => 3

/-- A copy reference in the order of Table 2-2: presence bit 0 the due day, bit 1 the allocated entry. -/
def putCopy (c : CopyRef) : List Nat :=
  put3 c.item ++ [c.view.num] ++
    match c.view with
    | .loan due tr => [1] ++ put2 due ++ putMark tr
    | .away (some p) => [2] ++ putMark false ++ put3 p
    | .shelf | .away none | .lost => [0] ++ putMark false

/-- Read a copy reference. DESIGN CHOICE (log entry 14): presence bits that do not fit the view state, and a trapped
mark of 1 in a view state other than LOAN, where Table 2-2 has it clear, make the frame malformed; R204 names neither.
-/
def readCopy : Read CopyRef := do
  let i ← triple
  let v ← oct
  let m ← oct
  match v, m % 4 with
  | 0, 0 => do
    let t ← readMark
    need (!t)
    pure ⟨i, .shelf, .agrees⟩
  | 1, 1 => do
    let due ← pair
    let tr ← readMark
    pure ⟨i, .loan due tr, .agrees⟩
  | 2, 0 => do
    let t ← readMark
    need (!t)
    pure ⟨i, .away none, .agrees⟩
  | 2, 2 => do
    let t ← readMark
    need (!t)
    let p ← triple
    pure ⟨i, .away (some p), .agrees⟩
  | 3, 0 => do
    let t ← readMark
    need (!t)
    pure ⟨i, .lost, .agrees⟩
  | _, _ => orFail none

/-- A hold entry in the order of Table 2-3. -/
def putHold (h : HoldEntry) : List Nat :=
  put3 h.patron ++ [h.pickup] ++ put2 h.placed ++ put2 h.expiry ++
    match h.state with
    | .waiting => [0, 0]
    | .allocated i => [1, 1] ++ put3 i

/-- Read a hold entry. One whose presence bit disagrees with its state, an ALLOCATED entry naming its item, makes the
frame malformed. DESIGN CHOICE (log entry 14). -/
def readHold : Read HoldEntry := do
  let p ← triple
  let st ← readStation
  let placed ← pair
  let x ← pair
  let v ← oct
  let m ← oct
  match v, m % 2 with
  | 0, 0 => pure ⟨p, st, placed, x, .waiting, .agrees⟩
  | 1, 1 => do
    let i ← triple
    pure ⟨p, st, placed, x, .allocated i, .agrees⟩
  | _, _ => orFail none

/-- A unit behind its kind (Table 12-4; the kinds numbered from 0 in the table's order, log entry 22). -/
def putUnit : StreamUnit → List Nat
  | .item n r =>
    [0] ++ put3 n ++ put3 r.title ++ [r.cls, r.shelf, codeOf itemStateTable r.state.code, r.at_] ++
      putItemState r.state ++ put2 r.currentTo ++ putMark false
  | .patron n p =>
    [1] ++ put3 n ++ [p.category] ++ put2 p.cardExpiry ++ put3 p.balance ++ putMark p.saturated ++
      [p.loans, p.holds] ++ putMark false
  | .titleHeader n h day => [2] ++ put3 n ++ putMark h ++ put2 day
  | .copyRef c => [3] ++ putCopy c
  | .holdEntry h => [4] ++ putHold h
  | .marker sp n => [5] ++ putTargetNo sp n

/-- Read an item record unit. Its quarantine mark octet is read and dropped, and the record is written without the mark:
a giver sends a quarantined record as a marker (R162), and no rule says what a receiver does with a unit whose mark is
set. DESIGN CHOICE (log entry 41). -/
def readItemUnit : Read StreamUnit := do
  let n ← triple
  let t ← triple
  let cls ← octBelow 8
  let shelf ← readStation
  let code ← readCode itemStateTable 0
  let at_ ← readStation
  let st ← readItemState code
  let day ← pair
  let _ ← readMark
  pure (.item n
    { title := t, cls := cls, shelf := shelf, state := st, at_ := at_, currentTo := day,
      quarantined := false, check := .agrees })

/-- Read a patron record unit. Its balance is 0 to 500,000 (R67). Its quarantine mark octet is read and dropped, and the
record is written without the mark: a giver sends a quarantined record as a marker (R162), and no rule says what a
receiver does with a unit whose mark is set. DESIGN CHOICE (log entry 41). -/
def readPatronUnit : Read StreamUnit := do
  let n ← triple
  let c ← octBelow 4
  let x ← pair
  let b ← readCents
  let sat ← readMark
  let l ← oct
  let h ← oct
  let _ ← readMark
  pure (.patron n
    { category := c, cardExpiry := x, balance := b, saturated := sat, loans := l, holds := h,
      quarantined := false, check := .agrees })

/-- Read a unit. -/
def readUnit : Read StreamUnit := do
  let k ← oct
  match k with
  | 0 => readItemUnit
  | 1 => readPatronUnit
  | 2 => do
    let n ← triple
    let h ← readMark
    let day ← pair
    pure (.titleHeader n h day)
  | 3 => do
    let c ← readCopy
    pure (.copyRef c)
  | 4 => do
    let h ← readHold
    pure (.holdEntry h)
  | 5 => do
    let sp ← readCode spaceTable 0
    let n ← triple
    pure (.marker sp n)
  | _ => orFail none

/-! ## Frames (Table 12-2, Table 12-3) -/

/-- The code of a frame's kind. -/
def Body.kindCode : Body → Nat
  | .clear _ => 0
  | .ans _ => 1
  | .req .. => 2
  | .dispatch _ => 3
  | .day _ => 4
  | .census _ => 5
  | .moved .. => 6
  | .stream .. => 7

/-- A frame body. -/
def putBody : Body → List Nat
  | .clear st => [st]
  | .ans a => putAns a
  | .req r q => putRef r ++ [codeOf opTable q.code + 1] ++ putQuery q
  | .dispatch d => putDispatch d
  | .day d => put2 d
  | .census b => putBlock b
  | .moved b st => putBlock b ++ [st]
  | .stream b serial last u =>
    putBlock b ++ [serial] ++ putMark last.isSome ++ [presence1 last + 2 * presence1 u] ++
      putOpt put2 last ++ putOpt putUnit u

/-- Read a STREAM body. The LAST mark and the unit total stand together, and only the empty LAST frame has no unit: a
frame whose presence bits disagree with its LAST mark, or without both, is refused. DESIGN CHOICE (log entry 14). -/
def readStream : Read Body := do
  let b ← readBlock
  let serial ← oct
  let last ← readMark
  let m ← oct
  need (m.testBit 0 == last && (m.testBit 1 || last))
  let total ← readOpt (m.testBit 0) pair
  let u ← readOpt (m.testBit 1) readUnit
  pure (.stream b serial total u)

/-- Read a frame body of a kind. -/
def readBody (kind : Nat) : Read Body :=
  match kind with
  | 0 => do
    let st ← readStation
    pure (.clear st)
  | 1 => readAns
  | 2 => do
    let r ← readRef
    let op ← readCode opTable 1
    let q ← readQuery op
    pure (.req r q)
  | 3 => do
    let d ← readDispatch
    pure (.dispatch d)
  | 4 => do
    let d ← pair
    pure (.day d)
  | 5 => do
    let b ← readBlock
    pure (.census b)
  | 6 => do
    let b ← readBlock
    let st ← readStation
    pure (.moved b st)
  | 7 => readStream
  | _ => orFail none

/-- One bit of the frame check (R131: polynomial x^16 + x^12 + x^5 + 1). -/
def checkBit (c : BitVec 16) : BitVec 16 := if c.msb then (c <<< 1) ^^^ 0x1021#16 else c <<< 1

/-- One octet of the frame check, most significant bit first. -/
def checkOctet (c : BitVec 16) (o : Nat) : BitVec 16 :=
  checkBit (checkBit (checkBit (checkBit (checkBit (checkBit (checkBit (checkBit
    (c ^^^ (BitVec.ofNat 16 (o % 256) <<< 8)))))))))

/-- R131: the check of a frame, starting from all ones. -/
def frameCheck (octets : List Nat) : Nat := (octets.foldl checkOctet 0xFFFF#16).toNat

/-- The destination octet (Table 12-1: 255 for ALL). -/
def Dest.octet : Dest → Nat
  | .station n => n
  | .all => 255

/-- Read a destination octet. -/
def destOf (o : Nat) : Option Dest :=
  if o = 255 then some .all else if o < 32 then some (.station o) else none

/-- The octets a frame's check is computed over (Table 12-2, fields 2 to 6). -/
def frameCore (f : Frame) : List Nat :=
  [f.body.kindCode, f.src, f.dest.octet, (putBody f.body).length] ++ putBody f.body

/-- A frame as octets, from its kind to its check. -/
def encodeFrame (f : Frame) : List Nat := frameCore f ++ put2 (frameCheck (frameCore f))

/-- The whole of a run of octets read by a reader, nothing left over (R204). -/
def readAll {α : Type} (r : Read α) (l : List Nat) : Option α :=
  match r l with
  | some (x, []) => some x
  | _ => none

/-- R131, R204: a frame from its octets. Nothing when the check differs or the frame is malformed, which a
taking station cannot tell apart. -/
def decodeFrame (l : List Nat) : Option Frame :=
  match l with
  | kind :: src :: dest :: len :: rest =>
    let body := rest.take len
    if rest.length = len + 2 ∧
        rest.drop len = put2 (frameCheck (kind :: src :: dest :: len :: body)) ∧ src < 32 then
      match destOf dest, readAll (readBody kind) body with
      | some d, some b => some ⟨src, d, b⟩
      | _, _ => none
    else none
  | _ => none

end Sys2Proof.Machine
end

