-- ==== Sys2Proof/Decode.lean ====
section
/-! DEFINITION. The command a word spells: spec/opcode_table.json gives no row any bits, so no word spells one. And the
kiosk port's exchanges as octets (12.3, 12.4): which command the octets clocked in are, and the octets of a
command. -/

namespace Sys2Proof

open Sys2Proof.Machine

/-- The table gives no row any bits: no word spells a command (log entry 8). -/
def decodeTableWord (_nbits _w : Nat) : Option Instr := none

/-! ## Configuration pieces (Table 12-7) -/

/-- A class row (Table 12-7). -/
def putRow (r : ClassRow) : List Nat :=
  put2 r.rate ++ [r.grace] ++ put2 r.cap ++ [r.period, r.renewMax] ++ put2 r.lostAfter ++
    put2 r.replacement

/-- Read a class row. -/
def readRow : Read ClassRow := do
  let r ← pair
  let g ← oct
  let m ← pair
  let l ← oct
  let n ← oct
  let a ← pair
  let p ← pair
  pure ⟨r, g, m, l, n, a, p⟩

/-- A standing test (Table 12-7). -/
def putTest (t : RawTest) : List Nat := [t.purposes, t.quantity, t.relation] ++ put3 t.value

/-- Read a standing test. -/
def readTest : Read RawTest := do
  let p ← oct
  let q ← oct
  let r ← oct
  let v ← triple
  pure ⟨p, q, r, v⟩

/-- Read `n` entries of a list (R203). -/
def readMany {α : Type} (r : Read α) : Nat → Read (List α)
  | 0 => pure []
  | n + 1 => do
    let x ← r
    let xs ← readMany r n
    pure (x :: xs)

/-- A list behind its count octet (R203). -/
def putList {α : Type} (f : α → List Nat) (l : List α) : List Nat := l.length :: (l.map f).flatten

/-- R203, R204: read a list of at most `cap` entries behind its count octet. A count octet above the capacity is
malformed where it stands, and nothing behind it is read. -/
def readList {α : Type} (cap : Nat) (r : Read α) : Read (Option (List α)) := do
  let n ← oct
  if n ≤ cap then do
    let xs ← readMany r n
    pure (some xs)
  else pure none

/-- Read `n` such lists, up to the first malformed one. -/
def readLists {α : Type} (cap : Nat) (r : Read α) : Nat → Read (Option (List (List α)))
  | 0 => pure (some [])
  | n + 1 => do
    let x ← readList cap r
    match x with
    | none => pure none
    | some l => do
      let ls ← readLists cap r n
      pure (ls.map fun ls => l :: ls)

/-- The code of a piece (Table 12-7). -/
def Piece.code : Piece → Nat
  | .stationNumber _ => 1
  | .lineRate _ => 2
  | .calendar .. => 3
  | .classTable _ => 4
  | .categoryTable _ => 5
  | .holdLife _ => 6
  | .pickupWindow _ => 7
  | .startDay _ => 8
  | .initialMap sp _ => 9 + sp.code
  | .eraseFlag _ => 12

/-- The contents of a piece (Table 12-7). -/
def putPiece : Piece → List Nat
  | .stationNumber n | .lineRate n | .pickupWindow n | .eraseFlag n => [n]
  | .calendar w m ds => [w, m] ++ putList put2 ds
  | .classTable rows => (rows.map putRow).flatten
  | .categoryTable rows => (rows.map (putList putTest)).flatten
  | .holdLife n | .startDay n => put2 n
  | .initialMap _ vs => vs

/-- Read the contents of a piece. None where the octets read already make it malformed: an unknown piece code, or a
count octet above the capacity of its list (R204). -/
def readPiece (code : Nat) : Read (Option Piece) :=
  match code with
  | 1 => do
    let n ← oct
    pure (some (.stationNumber n))
  | 2 => do
    let n ← oct
    pure (some (.lineRate n))
  | 3 => do
    let w ← oct
    let m ← oct
    let ds ← readList Config.closedDays pair
    pure (ds.map fun ds => .calendar w m ds)
  | 4 => do
    let rows ← readMany readRow 8
    pure (some (.classTable rows))
  | 5 => do
    let rows ← readLists Config.testsPerRow readTest 4
    pure (rows.map .categoryTable)
  | 6 => do
    let n ← pair
    pure (some (.holdLife n))
  | 7 => do
    let n ← oct
    pure (some (.pickupWindow n))
  | 8 => do
    let d ← pair
    pure (some (.startDay d))
  | 9 => do
    let vs ← readMany oct 256
    pure (some (.initialMap .item vs))
  | 10 => do
    let vs ← readMany oct 256
    pure (some (.initialMap .title vs))
  | 11 => do
    let vs ← readMany oct 256
    pure (some (.initialMap .patron vs))
  | 12 => do
    let n ← oct
    pure (some (.eraseFlag n))
  | _ => pure none

/-! ## Request records (Table 12-6, Table 5-2) -/

/-- Read the arguments of a request kind. The framing is what the record's length makes it; a CONFIGURE whose piece is
malformed as read is misshapen whatever follows (R204), and its operand, which no rule then reads, is a mere erase
flag. -/
def readRequest (kind tag : Nat) (f : Framing) : Read Instr :=
  match kind with
  | 1 => do
    let p ← triple
    let i ← triple
    pure (.lend tag f p i)
  | 2 => do
    let p ← triple
    let i ← triple
    pure (.renew tag f p i)
  | 3 => do
    let i ← triple
    pure (.checkIn tag f i)
  | 4 => do
    let p ← triple
    let t ← triple
    let k ← oct
    pure (.reserve tag f p t k)
  | 5 => do
    let p ← triple
    let t ← triple
    pure (.cancel tag f p t)
  | 6 => do
    let p ← triple
    let a ← triple
    pure (.payRequest tag f p a)
  | 7 => do
    let p ← triple
    pure (.account tag f p)
  | 8 => do
    let i ← triple
    pure (.itemStatus tag f i)
  | 9 => do
    let t ← triple
    let m ← oct
    let p ← readOpt (m.testBit 0) triple
    pure (.titleStatus tag f t p)
  | 10 => do
    let t ← triple
    let h ← oct
    pure (.enrolTitle tag f t h)
  | 11 => do
    let p ← triple
    let c ← oct
    let x ← pair
    pure (.enrolPatron tag f p c x)
  | 12 => do
    let p ← triple
    let m ← oct
    let c ← readOpt (m.testBit 0) oct
    let x ← readOpt (m.testBit 1) pair
    pure (.updatePatron tag f p c x)
  | 13 => do
    let i ← triple
    let t ← triple
    let c ← oct
    pure (.enrolItem tag f i t c)
  | 14 => do
    let i ← triple
    pure (.withdrawItem tag f i)
  | 15 => do
    let t ← triple
    pure (.withdrawTitle tag f t)
  | 16 => do
    let p ← triple
    pure (.withdrawPatron tag f p)
  | 17 => do
    let sp ← oct
    let b ← oct
    let st ← oct
    pure (.handOver tag f sp b st)
  | 18 => do
    let d ← pair
    pure (.advanceDay tag f d)
  | 19 => pure (.status tag f)
  | 20 => pure (.faultRead tag f)
  | 21 => do
    let c ← oct
    let p ← readPiece c
    match p with
    | some p => pure (.configure tag f p)
    | none => pure (.configure tag .misshapen (.eraseFlag 0))
  | 22 => pure (.join tag f)
  | _ => orFail none

/-- R189: the command of a SUBMIT's record. A record with octets missing was cut short (R188); one with octets
left over is malformed; a kind that Table 12-8 does not name is malformed. A CONFIGURE record is malformed from an
unknown piece code or a count octet above its list's capacity on, however many octets follow (R204), and is then not
cut short: DEDUCED (log entry 12). -/
def decodeSubmit (l : List Nat) : Instr :=
  match l with
  | kind :: tag :: args =>
    if 1 ≤ kind ∧ kind ≤ 22 then
      match readRequest kind tag .whole args with
      | none => .exchangeCutShort .submit
      | some (i, []) => i
      | some (_, _ :: _) =>
        match readRequest kind tag .misshapen args with
        | some (i, _) => i
        | none => .exchangeCutShort .submit
    else .unknownCommand (.requestKind kind tag)
  | _ => .exchangeCutShort .submit

/-- Table 12-5: the command that a whole exchange's octets are. Octets clocked in after the mask octet of a SET_MASKS,
or after the command octet of a read, are not taken: DEDUCED (log entry 12), no rule says what they are. -/
def decodeExchange (l : List Nat) : Option Instr :=
  match l with
  | [] => none
  | 1 :: rest => some (decodeSubmit rest)
  | 2 :: _ => some (.readAnswer .whole)
  | 3 :: _ => some (.readNotice .whole)
  | 4 :: _ => some .readStatus
  | 5 :: rest =>
    match rest with
    | [] => some (.exchangeCutShort .setMasks)
    | m :: _ => some (.setMasks (BitVec.ofNat 8 m))
  | o :: _ => some (.unknownCommand (.command o))

/-- The octets of a SUBMIT exchange: command, kind, tag, arguments. -/
def submitOctets (kind tag : Nat) (args : List Nat) : List Nat := [1, kind, tag] ++ args

/-- The octets of the exchange of a command, for the commands that are a whole exchange. -/
def encodeExchange : Instr → Option (List Nat)
  | .unknownCommand (.command o) => some [o]
  | .unknownCommand (.requestKind k tag) => some [1, k, tag]
  | .readAnswer .whole => some [2]
  | .readNotice .whole => some [3]
  | .readStatus => some [4]
  | .setMasks m => some [5, m.toNat]
  | .lend tag .whole p i => some (submitOctets 1 tag (put3 p ++ put3 i))
  | .renew tag .whole p i => some (submitOctets 2 tag (put3 p ++ put3 i))
  | .checkIn tag .whole i => some (submitOctets 3 tag (put3 i))
  | .reserve tag .whole p t k => some (submitOctets 4 tag (put3 p ++ put3 t ++ [k]))
  | .cancel tag .whole p t => some (submitOctets 5 tag (put3 p ++ put3 t))
  | .payRequest tag .whole p a => some (submitOctets 6 tag (put3 p ++ put3 a))
  | .account tag .whole p => some (submitOctets 7 tag (put3 p))
  | .itemStatus tag .whole i => some (submitOctets 8 tag (put3 i))
  | .titleStatus tag .whole t p =>
    some (submitOctets 9 tag (put3 t ++ [presence1 p] ++ putOpt put3 p))
  | .enrolTitle tag .whole t h => some (submitOctets 10 tag (put3 t ++ [h]))
  | .enrolPatron tag .whole p c x => some (submitOctets 11 tag (put3 p ++ [c] ++ put2 x))
  | .updatePatron tag .whole p c x =>
    some (submitOctets 12 tag
      (put3 p ++ [presence1 c + 2 * presence1 x] ++ putOpt (fun n => [n]) c ++ putOpt put2 x))
  | .enrolItem tag .whole i t c => some (submitOctets 13 tag (put3 i ++ put3 t ++ [c]))
  | .withdrawItem tag .whole i => some (submitOctets 14 tag (put3 i))
  | .withdrawTitle tag .whole t => some (submitOctets 15 tag (put3 t))
  | .withdrawPatron tag .whole p => some (submitOctets 16 tag (put3 p))
  | .handOver tag .whole sp b st => some (submitOctets 17 tag [sp, b, st])
  | .advanceDay tag .whole d => some (submitOctets 18 tag (put2 d))
  | .status tag .whole => some (submitOctets 19 tag [])
  | .faultRead tag .whole => some (submitOctets 20 tag [])
  | .configure tag .whole p => some (submitOctets 21 tag (p.code :: putPiece p))
  | .join tag .whole => some (submitOctets 22 tag [])
  | _ => none

end Sys2Proof
end

