-- ==== Sys2Proof/Machine/OwnerEngine.lean ====
section
/-! DEFINITION. The owner engine: the checks of an owner operation, sweep-on-touch, the operations and the
dispatch applications at their grants (R3, R4, R23, R30, R31, R44, R69, R82, R128, R180, R181). -/

namespace Sys2Proof.Machine

/-! ## Reading a record through its check word (R180, R181) -/

/-- Read an item record: a check that fails sets the quarantine mark and enters a fault (R181). -/
def fetchItem (n : Nat) (who : Requester) (E : Nat) (s : State) : State × Option Item :=
  match getItem n s with
  | none => (s, none)
  | some r =>
    if r.quarantined then (s, some r)
    else if r.check = .agrees then (s, some r)
    else
      (recordFault ⟨.checkFailed, .item, n, who, E, none⟩
        (putItemRaw n { r with quarantined := true } s), some { r with quarantined := true })

/-- A title is checked whole: header, copy references and hold entries (R180). -/
def Title.checks (t : Title) : Bool :=
  t.check == .agrees && t.copies.all (fun c => c.check == .agrees) &&
    t.holds.all (fun h => h.check == .agrees)

/-- Read a title record (R180, R181). -/
def fetchTitle (n : Nat) (who : Requester) (E : Nat) (s : State) : State × Option Title :=
  match getTitle n s with
  | none => (s, none)
  | some t =>
    if t.quarantined then (s, some t)
    else if t.checks then (s, some t)
    else
      (recordFault ⟨.checkFailed, .title, n, who, E, none⟩
        (putTitleRaw n { t with quarantined := true } s), some { t with quarantined := true })

/-- Read a patron record (R180, R181). -/
def fetchPatron (n : Nat) (who : Requester) (E : Nat) (s : State) : State × Option Patron :=
  match getPatron n s with
  | none => (s, none)
  | some p =>
    if p.quarantined then (s, some p)
    else if p.check = .agrees then (s, some p)
    else
      (recordFault ⟨.checkFailed, .patron, n, who, E, none⟩
        (putPatronRaw n { p with quarantined := true } s), some { p with quarantined := true })

/-! ## Checks (R3, R30, R69) -/

/-- What the view of a block lets an operation do (R3, R30, R69, check 1). -/
inductive Gate where
  | apply
  | serveStored
  | answer (a : StepAnswer)
  deriving DecidableEq, Repr

/-- R3, R30, R69, check 1: the view of the block. A read is served from a LENDING block as stored. -/
def gateOf (v : View) (read : Bool) : Gate :=
  match v with
  | .home => .apply
  | .lending _ => if read then .serveStored else .answer .deferred
  | .receiving _ | .probing => .answer .deferred
  | .foreign st => .answer (.movedTo st)
  | .unknown => .answer .notOwner

/-- Check 4: 3 entries of the dispatch queue can be reserved (R3, R30, R69). -/
def roomForOp (s : State) : Bool := decide (3 ≤ freePlaces s)

/-! ## Sweep-on-touch (R4, R31) -/

/-- R4: bring an item record up to the day E. -/
def touchItem (E n : Nat) (r : Item) (s : State) : State × Item :=
  if r.currentTo = E then (s, r)
  else
    let b := bringUp (classRow s r.cls) (calendarOf s) E n r
    (emitAll b.2 (putItem n b.1 s), b.1)

/-- R31, R60, R63: remove the expired WAITING entries of a title, oldest first, each while `room` places are free, in at
most `fuel` commit units (R179), the last of which writes the current-to day while `dayRoom` places are free. The Bool
says whether it stopped before that write. The touch needs no place for it (R31), the sweep needs 3: after its last
removal from a title it stops short of the day where fewer are free, R60's first sentence taken as it stands (DEDUCED,
log entry 10). -/
def expireTitle (E n room dayRoom : Nat) : Nat → State → State × Bool
  | 0, s => (s, true)
  | fuel + 1, s =>
    match getTitle n s with
    | none => (s, true)
    | some t =>
      match t.expired E with
      | none =>
        if freePlaces s < dayRoom then (s, true) else (putTitle n { t with currentTo := E } s, false)
      | some h =>
        if freePlaces s < room then (s, true)
        else
          let c := expireRule n h t
          expireTitle E n room dayRoom fuel (enqueueAll c.2 (putTitle n c.1 s))

/-- R31: the touch of a title: before each removal 2 places beyond the 3 already reserved. The Bool says
that it stopped. -/
def touchTitle (E n : Nat) (t : Title) (s : State) : State × Bool :=
  if t.currentTo = E then (s, false) else expireTitle E n 5 0 (t.holds.length + 1) s

/-! ## Item operations (chapter 1) -/

/-- A state and the answer to an operation. -/
abbrev OpResult := State × StepAnswer

/-- R3, R4, R5: an operation on an existing item record. `stored` serves a read in a LENDING block. -/
def itemOp (n : Nat) (who : Requester) (E : Nat) (read : Bool) (rule : Item → ItemResult) (s : State) :
    OpResult :=
  match gateOf (viewOf (blockOf .item n) s) read with
  | .answer a => (s, a)
  | g =>
    match fetchItem n who E s with
    | (s1, none) => (s1, .refused .notFound .nothing)
    | (s1, some r) =>
      if r.quarantined then (s1, .refused .damaged .nothing)
      else if g = .serveStored then (s1, (rule r).2.2)
      else if !roomForOp s1 then (s1, .deferred)
      else
        let t := touchItem E n r s1
        if !roomForOp t.1 then (t.1, .deferred)
        else
          let c := rule t.2
          match c.2.2 with
          | .done v => (emitAll c.2.1 (putItem n c.1 t.1), .done v)
          | a => (t.1, a)

/-- R7: ITEM_CREATE. A CREATE looks only whether a record of its number exists: it reads no field of it, so it checks no
check word and marks no damage, and a damaged record refuses it EXISTS like any other. DESIGN CHOICE (log entry 42):
R180 checks a part at the record lookup of an owner operation, and R7 tests the existence alone. -/
def opItemCreate (item title cls shelf : Nat) (E : Nat) (s : State) : OpResult :=
  match gateOf (viewOf (blockOf .item item) s) false with
  | .answer a => (s, a)
  | _ =>
    if !roomForOp s then (s, .deferred)
    else if (getItem item s).isSome then (s, .refused .exists_ .nothing)
    else if freeItems s = 0 then (s, .refused .poolFull .nothing)
    else
      (putItem item
        { title := title, cls := cls, shelf := shelf, state := .onShelf, at_ := shelf, currentTo := E,
          quarantined := false, check := .agrees } s,
        .done (.itemCreated item title))

/-- R8: remove an item record and queue COPY_REMOVE. -/
def deleteItem (n : Nat) (r : Item) (s : State) : OpResult :=
  (enqueue (.copyRemove r.title n) (dropItem n s), .done (.itemDeleted n r.title r.state.code))

/-- R8: ITEM_DELETE. -/
def opItemDelete (n : Nat) (who : Requester) (E : Nat) (s : State) : OpResult :=
  match gateOf (viewOf (blockOf .item n) s) false with
  | .answer a => (s, a)
  | _ =>
    match fetchItem n who E s with
    | (s1, none) => (s1, .refused .notFound .nothing)
    | (s1, some r) =>
      if !roomForOp s1 then (s1, .deferred)
      else if r.quarantined then deleteItem n r s1
      else
        let t := touchItem E n r s1
        if !roomForOp t.1 then (t.1, .deferred)
        else if t.2.state = .onShelf then deleteItem n t.2 t.1
        else (t.1, .refused .wrongState .nothing)

/-- R9, R10: LEND_ITEM. -/
def opLendItem (n patron cardExpiry lending : Nat) (who : Requester) (E : Nat) (s : State) : OpResult :=
  itemOp n who E false
    (fun r => lendItemRule (classRow s r.cls) (calendarOf s) E n patron cardExpiry lending r) s

/-- R11, R12: EXTEND. -/
def opExtend (n patron cardExpiry : Nat) (who : Requester) (E : Nat) (s : State) : OpResult :=
  itemOp n who E false
    (fun r => extendRule (classRow s r.cls) (calendarOf s) E n patron cardExpiry r) s

/-- R13 to R19: TAKE_RETURN. -/
def opTakeReturn (n scanning : Nat) (who : Requester) (E : Nat) (s : State) : OpResult :=
  itemOp n who E false
    (fun r => takeReturnRule (classRow s r.cls) (calendarOf s) (pickupWindow s) E n scanning r) s

/-- R20: ITEM_READ. -/
def opItemRead (n : Nat) (who : Requester) (E : Nat) (s : State) : OpResult :=
  itemOp n who E true (fun r => (r, [], .done (.itemSummary (summaryOf r)))) s

/-! ## Title operations (chapter 2) -/

/-- R30, R31, R32: an operation on an existing title record. `missing` is the refusal without one. -/
def titleOp (n : Nat) (who : Requester) (E : Nat) (read : Bool) (missing : Reason)
    (rule : State → Title → TitleResult) (s : State) : OpResult :=
  match gateOf (viewOf (blockOf .title n) s) read with
  | .answer a => (s, a)
  | g =>
    match fetchTitle n who E s with
    | (s1, none) => (s1, .refused missing .nothing)
    | (s1, some t) =>
      if t.quarantined then (s1, .refused .damaged .nothing)
      else if g = .serveStored then (s1, (rule s1 t).2.2)
      else if !roomForOp s1 then (s1, .deferred)
      else
        match touchTitle E n t s1 with
        | (s2, true) => (s2, .deferred)
        | (s2, false) =>
          let c := rule s2 ((getTitle n s2).getD t)
          match c.2.2 with
          | .done v => (enqueueAll c.2.1 (putTitle n c.1 s2), .done v)
          | a => (s2, a)

/-- R37: TITLE_CREATE. An existing record is not read, as in `opItemCreate` (DESIGN CHOICE, log entry 42). -/
def opTitleCreate (n : Nat) (holdable : Bool) (E : Nat) (s : State) : OpResult :=
  match gateOf (viewOf (blockOf .title n) s) false with
  | .answer a => (s, a)
  | _ =>
    if !roomForOp s then (s, .deferred)
    else if (getTitle n s).isSome then (s, .refused .exists_ .nothing)
    else if freeTitles s = 0 then (s, .refused .poolFull .nothing)
    else
      (putTitle n
        { holdable := holdable, copies := [], holds := [], currentTo := E, quarantined := false,
          check := .agrees } s,
        .done (.titleCreated n))

/-- R38: remove a title record with its copy references and hold entries. -/
def deleteTitle (n : Nat) (t : Title) (s : State) : OpResult :=
  (dropTitle n s, .done (.titleDeleted n t.copies.length t.holds.length))

/-- R38: TITLE_DELETE. -/
def opTitleDelete (n : Nat) (who : Requester) (E : Nat) (s : State) : OpResult :=
  match gateOf (viewOf (blockOf .title n) s) false with
  | .answer a => (s, a)
  | _ =>
    match fetchTitle n who E s with
    | (s1, none) => (s1, .refused .notFound .nothing)
    | (s1, some t) =>
      if !roomForOp s1 then (s1, .deferred)
      else if t.quarantined then deleteTitle n t s1
      else
        match touchTitle E n t s1 with
        | (s2, true) => (s2, .deferred)
        | (s2, false) =>
          let t2 := (getTitle n s2).getD t
          if t2.copies.isEmpty && t2.holds.isEmpty then deleteTitle n t2 s2
          else (s2, .refused .notEmpty .nothing)

/-- R39: COPY_ADD. -/
def opCopyAdd (n item : Nat) (who : Requester) (E : Nat) (s : State) : OpResult :=
  titleOp n who E false .notEnrolled (fun s' t => copyAddRule n item (freeCopies s') t) s

/-- R40, R41: HOLD_ADD. -/
def opHoldAdd (n patron pickup : Nat) (who : Requester) (E : Nat) (s : State) : OpResult :=
  titleOp n who E false .notFound
    (fun s' t => holdAddRule n patron pickup (holdLife s') E (freeHolds s') t) s

/-- R42: HOLD_DROP. -/
def opHoldDrop (n patron : Nat) (who : Requester) (E : Nat) (s : State) : OpResult :=
  titleOp n who E false .notFound (fun _ t => holdDropRule n patron t) s

/-- R43: TITLE_READ. -/
def opTitleRead (n : Nat) (patron : Option Nat) (who : Requester) (E : Nat) (s : State) : OpResult :=
  titleOp n who E true .notFound
    (fun _ t => (t, [], .done (.titleSummary (titleSummaryOf patron t)))) s

/-! ## Patron operations (chapter 4) -/

/-- R69, R70: an operation on an existing patron record. -/
def patronOp (n : Nat) (who : Requester) (E : Nat) (read : Bool) (rule : Patron → PatronResult)
    (s : State) : OpResult :=
  match gateOf (viewOf (blockOf .patron n) s) read with
  | .answer a => (s, a)
  | g =>
    match fetchPatron n who E s with
    | (s1, none) => (s1, .refused .notFound .nothing)
    | (s1, some p) =>
      if p.quarantined then (s1, .refused .damaged .nothing)
      else if g = .serveStored then (s1, (rule p).2)
      else if !roomForOp s1 then (s1, .deferred)
      else
        match (rule p).2 with
        | .done v => (putPatron n (rule p).1 s1, .done v)
        | a => (s1, a)

/-- R71: PATRON_CREATE. An existing record is not read, as in `opItemCreate` (DESIGN CHOICE, log entry 42). -/
def opPatronCreate (n category cardExpiry : Nat) (s : State) : OpResult :=
  match gateOf (viewOf (blockOf .patron n) s) false with
  | .answer a => (s, a)
  | _ =>
    if !roomForOp s then (s, .deferred)
    else if (getPatron n s).isSome then (s, .refused .exists_ .nothing)
    else if freePatrons s = 0 then (s, .refused .poolFull .nothing)
    else (putPatron n (newPatron category cardExpiry) s, .done (.patronCreated n cardExpiry))

/-- R72: PATRON_SET. -/
def opPatronSet (n : Nat) (category cardExpiry : Option Nat) (who : Requester) (E : Nat) (s : State) :
    OpResult :=
  patronOp n who E false (patronSetRule category cardExpiry) s

/-- R73: PATRON_DELETE. -/
def opPatronDelete (n : Nat) (who : Requester) (E : Nat) (s : State) : OpResult :=
  match gateOf (viewOf (blockOf .patron n) s) false with
  | .answer a => (s, a)
  | _ =>
    match fetchPatron n who E s with
    | (s1, none) => (s1, .refused .notFound .nothing)
    | (s1, some p) =>
      if !roomForOp s1 then (s1, .deferred)
      else if p.quarantined || p.settled then (dropPatron n s1, .done (.patronDeleted n))
      else (s1, .refused .notEmpty (.notEmpty p.loans p.holds p.balance))

/-- The standing tests a patron record is judged by (R75). -/
def testsOf (s : State) (p : Patron) : List StandingTest := categoryRow s p.category

/-- R76: STANDING. -/
def opStanding (n : Nat) (who : Requester) (E : Nat) (s : State) : OpResult :=
  patronOp n who E true (fun p => standingRule (testsOf s p) E p) s

/-- R77: LOAN_OPEN. -/
def opLoanOpen (n : Nat) (who : Requester) (E : Nat) (s : State) : OpResult :=
  patronOp n who E false (fun p => loanOpenRule (testsOf s p) E p) s

/-- R78: HOLD_OPEN. -/
def opHoldOpen (n : Nat) (who : Requester) (E : Nat) (s : State) : OpResult :=
  patronOp n who E false (fun p => holdOpenRule (testsOf s p) E p) s

/-- R80: PAY. -/
def opPay (n amount : Nat) (who : Requester) (E : Nat) (s : State) : OpResult :=
  patronOp n who E false (payRule amount) s

/-- R81: ACCOUNT_READ. -/
def opAccountRead (n : Nat) (who : Requester) (E : Nat) (s : State) : OpResult :=
  patronOp n who E true accountReadRule s

/-- An owner operation at its grant. -/
def applyOp (o : OwnerOp) (who : Requester) (E : Nat) (s : State) : OpResult :=
  match o with
  | .itemCreate i t c sh => opItemCreate i t c sh E s
  | .itemDelete i => opItemDelete i who E s
  | .lendItem i p x l => opLendItem i p x l who E s
  | .extend i p x => opExtend i p x who E s
  | .takeReturn i sc => opTakeReturn i sc who E s
  | .itemRead i => opItemRead i who E s
  | .titleCreate t h => opTitleCreate t h E s
  | .titleDelete t => opTitleDelete t who E s
  | .copyAdd t i => opCopyAdd t i who E s
  | .holdAdd t p k => opHoldAdd t p k who E s
  | .holdDrop t p => opHoldDrop t p who E s
  | .titleRead t p => opTitleRead t p who E s
  | .patronCreate p c x => opPatronCreate p c x s
  | .patronSet p c x => opPatronSet p c x who E s
  | .patronDelete p => opPatronDelete p who E s
  | .standing p => opStanding p who E s
  | .loanOpen p => opLoanOpen p who E s
  | .holdOpen p => opHoldOpen p who E s
  | .pay p a => opPay p a who E s
  | .accountRead p => opAccountRead p who E s

/-! ## Dispatch applications (R23, R44, R82, R128). The entry has left the queue, so that its place and
the 2 reserved with it are free for what the application queues. -/

/-- R128: a dispatch whose record carries the quarantine mark is discarded and entered as a fault. -/
def discard (d : Dispatch) (sp : Space) (n E : Nat) (s : State) : State :=
  recordFault ⟨.dispatchDiscarded, sp, n, .line, E, some d⟩ s

/-- R23: a dispatch for an item record. `missing` is what follows without a record. -/
def itemDispatch (d : Dispatch) (n E : Nat) (missing : State → State)
    (rule : State → Item → Item × List Effect) (s : State) : State :=
  match fetchItem n .line E s with
  | (s1, none) => missing s1
  | (s1, some r) =>
    if r.quarantined then discard d .item n E s1
    else
      let t := touchItem E n r s1
      let c := rule t.1 t.2
      emitAll c.2 (putItem n c.1 t.1)

/-- R44: a dispatch for a title record: touch, application, settle. -/
def titleDispatch (d : Dispatch) (n E : Nat) (missing : State → State) (rule : Title → TitleChange)
    (s : State) : State :=
  match fetchTitle n .line E s with
  | (s1, none) => missing s1
  | (s1, some t) =>
    if t.quarantined then discard d .title n E s1
    else
      let s2 := (touchTitle E n t s1).1
      let c := TitleChange.settled n (rule ((getTitle n s2).getD t))
      enqueueAll c.2 (putTitle n c.1 s2)

/-- R82: a dispatch for a patron record. -/
def patronDispatch (d : Dispatch) (n E : Nat) (rule : Patron → Patron) (s : State) : State :=
  match fetchPatron n .line E s with
  | (s1, none) => s1
  | (s1, some p) =>
    if p.quarantined then discard d .patron n E s1 else putPatron n (rule p) s1

/-- R83: CHARGE. -/
def applyCharge (patron cents item : Nat) (why : ChargeReason) (E : Nat) (s : State) : State :=
  patronDispatch (.charge patron cents item why) patron E (chargeBalance cents) s

/-- R84: CREDIT. -/
def applyCredit (patron cents item : Nat) (E : Nat) (s : State) : State :=
  patronDispatch (.credit patron cents item) patron E (creditBalance cents) s

/-- R85: LOAN_CLOSE. -/
def applyLoanClose (patron : Nat) (E : Nat) (s : State) : State :=
  patronDispatch (.loanClose patron) patron E (fun p => { p with loans := lowerCount p.loans }) s

/-- R85: HOLD_ENDED. -/
def applyHoldEnded (patron title : Nat) (why : HoldEnd) (E : Nat) (s : State) : State :=
  patronDispatch (.holdEnded patron title why) patron E
    (fun p => { p with holds := lowerCount p.holds }) s

/-- R45: COPY_STATE. -/
def applyCopyState (title item : Nat) (report : CopyReport) (refused : Bool) (E : Nat) (s : State) :
    State :=
  titleDispatch (.copyState title item report refused) title E id (copyStateRule item report refused) s

/-- R47: COPY_FREE; without a record the item is released. -/
def applyCopyFree (title item at_ : Nat) (E : Nat) (s : State) : State :=
  titleDispatch (.copyFree title item at_) title E (enqueue (.release item)) (copyFreeRule item) s

/-- R48: HOLD_FILLED. -/
def applyHoldFilled (title patron item : Nat) (E : Nat) (s : State) : State :=
  titleDispatch (.holdFilled title patron item) title E id (holdFilledRule title patron item) s

/-- R49: PICKUP_LAPSED; without a record the item is released. -/
def applyPickupLapsed (title patron item : Nat) (E : Nat) (s : State) : State :=
  titleDispatch (.pickupLapsed title patron item) title E (enqueue (.release item))
    (pickupLapsedRule title patron item) s

/-- R50: COPY_REMOVE. -/
def applyCopyRemove (title item : Nat) (E : Nat) (s : State) : State :=
  titleDispatch (.copyRemove title item) title E id (copyRemoveRule item) s

/-- R21: TRAP. -/
def applyTrap (item : Nat) (E : Nat) (s : State) : State :=
  itemDispatch (.trap item) item E id (fun _ r => trapRule item r) s

/-- R22: UNTRAP. -/
def applyUntrap (item : Nat) (E : Nat) (s : State) : State :=
  itemDispatch (.untrap item) item E id (fun _ r => (untrapRule r, [])) s

/-- R24: ALLOCATE; without a record it is answered COPY_STATE(AWAY) with the refused mark. -/
def applyAllocate (item title patron pickup : Nat) (E : Nat) (s : State) : State :=
  itemDispatch (.allocate item title patron pickup) item E
    (enqueue (.copyState title item .away true))
    (fun _ r => allocateRule item title patron pickup r) s

/-- R25: REDIRECT. -/
def applyRedirect (item patron pickup : Nat) (E : Nat) (s : State) : State :=
  itemDispatch (.redirect item patron pickup) item E id
    (fun s' r => redirectRule (pickupWindow s') E item patron pickup r) s

/-- R26: RELEASE. -/
def applyRelease (item : Nat) (E : Nat) (s : State) : State :=
  itemDispatch (.release item) item E id (fun _ r => releaseRule item r) s

/-- A dispatch at its application. KIOSK_NOTE and ABANDON are not applied at a grant (R127). -/
def applyDispatch (d : Dispatch) (E : Nat) (s : State) : State :=
  match d with
  | .charge p c i w => applyCharge p c i w E s
  | .credit p c i => applyCredit p c i E s
  | .loanClose p => applyLoanClose p E s
  | .holdEnded p t w => applyHoldEnded p t w E s
  | .copyState t i r f => applyCopyState t i r f E s
  | .copyFree t i a => applyCopyFree t i a E s
  | .holdFilled t p i => applyHoldFilled t p i E s
  | .pickupLapsed t p i => applyPickupLapsed t p i E s
  | .copyRemove t i => applyCopyRemove t i E s
  | .trap i => applyTrap i E s
  | .untrap i => applyUntrap i E s
  | .allocate i t p k => applyAllocate i t p k E s
  | .redirect i p k => applyRedirect i p k E s
  | .release i => applyRelease i E s
  | .kioskNote .. | .abandon .. => s

end Sys2Proof.Machine
end

