-- ==== Sys2Proof/Machine/Sweep.lean ====
section
/-! DEFINITION. The day unit: the sweep, its start and its bursts, the own DAY frame and the adoption of a day
(chapter 3). -/

namespace Sys2Proof.Machine

/-- The sweep's first position (R58). -/
def SweepPos.first : SweepPos := .item 0

/-- R58: the sweep starts from the first record, in ONLINE. A PAUSED sweep stays PAUSED with its position
reset; a start taken while a burst holds the grant resets the position once the burst ends. -/
def startSweep (s : State) : State :=
  if s.station = .online then
    if burstHeld s then { s with day := { s.day with restart := true } }
    else if s.day.sweep = .paused then { s with day := { s.day with pos := some .first } }
    else askSweep { s with day := { s.day with sweep := .running, pos := some .first } }
  else s

/-- The next record at or after a position: items in rising number, then titles (R59). -/
def nextRecord (s : State) : SweepPos → Option (Space × Nat)
  | .item n =>
    match tblFrom s.store.items n with
    | some (k, _) => some (.item, k)
    | none => (tblFrom s.store.titles 0).map fun p => (.title, p.1)
  | .title n => (tblFrom s.store.titles n).map fun p => (.title, p.1)

/-- The position at a record. -/
def posAt : Space × Nat → SweepPos
  | (.title, n) => .title n
  | (_, n) => .item n

/-- The position after a record. -/
def posAfter (r : Space × Nat) : SweepPos := posAt (r.1, r.2 + 1)

/-- One commit unit spent, when the units are counted (R179). -/
def spend (units : Option Nat) : Option Nat := units.map fun u => u - 1

/-- What examining a record leaves: the state, the units left and whether the burst ends at it. -/
abbrev Examined := State × Option Nat × Bool

/-- R59, R60, R61, R62: the sweep examines an item record. -/
def examineItem (E n : Nat) (units : Option Nat) (s : State) : Examined :=
  if viewOf (blockOf .item n) s ≠ .home then (s, units, false)
  else
    match fetchItem n .sweep E s with
    | (s1, none) => (s1, units, false)
    | (s1, some r) =>
      if r.quarantined then
        (s1, if ((getItem n s).map Item.quarantined).getD true then units else spend units, false)
      else if r.currentTo = E then (s1, units, false)
      else if freePlaces s1 < 3 then (s1, units, true)
      else
        let b := bringUp (classRow s1 r.cls) (calendarOf s1) E n r
        (emitAll b.2 (putItem n b.1 s1), spend units, false)

/-- R59, R60, R63: the sweep examines a title record. Each removal of an expired entry and the writing of
the current-to day is a commit unit. -/
def examineTitle (E n : Nat) (units : Option Nat) (s : State) : Examined :=
  if viewOf (blockOf .title n) s ≠ .home then (s, units, false)
  else
    match fetchTitle n .sweep E s with
    | (s1, none) => (s1, units, false)
    | (s1, some t) =>
      if t.quarantined then
        (s1, if ((getTitle n s).map Title.quarantined).getD true then units else spend units, false)
      else if t.currentTo = E then (s1, units, false)
      else if freePlaces s1 < 3 then (s1, units, true)
      else
        let all := t.holds.length + 1
        let x := expireTitle E n 3 3 (units.elim all (min all)) s1
        let removed := t.holds.length - ((getTitle n x.1).map fun t' => t'.holds.length).getD 0
        (x.1, units.map (fun u => u - removed - if x.2 then 0 else 1), x.2)

/-- The sweep examines a record, unless the commit units of a cut grant are spent. -/
def examine (E : Nat) (r : Space × Nat) (units : Option Nat) (s : State) : Examined :=
  if units = some 0 then (s, units, true)
  else
    match r with
    | (.title, n) => examineTitle E n units s
    | (_, n) => examineItem E n units s

/-- How a burst ends (R59, R60): at a position still to come, at a pause, or after the last record. -/
inductive BurstEnd where
  | goesOn (pos : SweepPos)
  | pauses (pos : SweepPos)
  | finished
  deriving DecidableEq, Repr

/-- R59: a burst examines at most `fuel` records from a position. -/
def burst (E : Nat) : Nat → Option Nat → SweepPos → State → State × BurstEnd
  | 0, _, pos, s =>
    match nextRecord s pos with
    | some r => (s, .goesOn (posAt r))
    | none => (s, .finished)
  | fuel + 1, units, pos, s =>
    match nextRecord s pos with
    | none => (s, .finished)
    | some r =>
      match examine E r units s with
      | (s1, _, true) => (s1, .pauses (posAt r))
      | (s1, u1, false) => burst E fuel u1 (posAfter r) s1

/-- The sweep's state after a burst (R58, R59, R60), and its asking for the next one. -/
def afterBurst (e : BurstEnd) (s : State) : State :=
  let again := s.day.restart
  match e with
  | .pauses pos =>
    { s with
      day := { s.day with
        sweep := .paused, pos := some (if again then .first else pos), restart := false } }
  | .goesOn pos =>
    { s with
      day := { s.day with
        sweep := .running, pos := some (if again then .first else pos), restart := false }
      arb := { s.arb with sweep := true } }
  | .finished =>
    if again then
      { s with
        day := { s.day with sweep := .running, pos := some .first, restart := false }
        arb := { s.arb with sweep := true } }
    else { s with day := { s.day with sweep := .idle, pos := none, restart := false } }

/-- R59: a burst at its grant, with the county day of the grant; `units` cuts it (R179). -/
def runBurst (E : Nat) (units : Option Nat) (s : State) : State × BurstEnd :=
  burst E Config.burst units (s.day.pos.getD .first) s

/-- A view becomes HOME, which restarts the sweep in ONLINE (R58). -/
def becomeHome (b : Block) (s : State) : State := startSweep (setView b .home s)

/-! ## The own DAY frame (R55) -/

/-- The DAY frame carrying the county day. -/
def dayFrameOf (s : State) : Frame := ⟨stationNo s, .all, .day s.day.county⟩

/-- The own DAY frame in the send queue. -/
def ownDay (s : State) : Option SendItem := s.line.sendq.find? fun i => i.owner == .dayUnit

/-- Whether a send queue item is in a frame or in acceptance (R133). -/
def isBeingSent (i : SendItem) (s : State) : Bool :=
  match s.line.turn with
  | some t => t.id == i.id
  | none => false

/-- R55: the 250 ms wait to queue the DAY frame again starts or ends. -/
def setRequeueWait (w : Bool) (s : State) : State := { s with day := { s.day with requeueWait := w } }

/-- R55: whether an occasion is kept until the own DAY frame being sent has left the send queue. -/
def setAgain (w : Bool) (s : State) : State := { s with day := { s.day with again := w } }

/-- R55: the day unit queues its DAY frame, or sets the day the waiting frame carries. A frame being sent is left as it
is, and the occasion is kept until it ends: the day unit has one frame in the send queue (log entry 16). -/
def queueDay (s : State) : State :=
  match ownDay s with
  | some i =>
    if isBeingSent i s then setAgain true s
    else stopWaiting .day (mapSend i.id (fun j => { j with frame := dayFrameOf s }) s)
  | none => placeOrWait (dayFrameOf s) .dayUnit .day s

/-- R55: the own DAY frame has left the send queue: an occasion that arose while it was being sent queues the next
(log entry 16). -/
def queueDayAgain (s : State) : State :=
  if s.day.again then queueDay (setAgain false s) else s

/-- R54, R55: a frame of another station carries the day the own waiting frame carries: it is withdrawn. -/
def withdrawDay (d : Nat) (s : State) : State :=
  match ownDay s with
  | some i =>
    if !isBeingSent i s && i.frame.body == .day d then dropSend i.id s else s
  | none => s

/-- R52, R54: the own DAY frame that waits carries the county day. One being sent is left as it is: its octets are on
the line (log entry 16). -/
def carryDay (s : State) : State :=
  match ownDay s with
  | some i => if isBeingSent i s then s else mapSend i.id (fun j => { j with frame := dayFrameOf s }) s
  | none => s

/-- R56: adoption of a day. The waiting own DAY frame carries it from then on (R52). -/
def adoptDay (d : Nat) (s : State) : State :=
  startSweep (carryDay { s with day := { s.day with county := d } })

end Sys2Proof.Machine
end

