-- ==== Sys2Proof/Machine/Handover.lean ====
section
/-! DEFINITION. The handover engine at the giver and at the receiver (8.4, 8.5), the MOVED announcements it and the
join probes ask for (R157), and the freeing of records (R155). -/

namespace Sys2Proof.Machine

/-! ## MOVED announcements (R157) -/

/-- Place an announcement's MOVED frame, or wait for a place. -/
def placeAnnouncement (id : Nat) (b : Block) (st : Nat) (s : State) : State :=
  placeOrWait ⟨stationNo s, .all, .moved b st⟩ (.announcement id b st) (.announcement id b st) s

/-- R157: an announcement is kept. -/
def keepAnnouncement (b : Block) (st : Nat) (s : State) : State :=
  { s with
    map := { s.map with
      moved := s.map.moved ++ [⟨s.map.nextMoved, b, st, false⟩], nextMoved := s.map.nextMoved + 1 } }

/-- R157: announce that a station owns a block. Every completion and every probe so resolved queues a MOVED frame of its
own (log entry 29). -/
def announce (b : Block) (st : Nat) (s : State) : State :=
  placeAnnouncement s.map.nextMoved b st (keepAnnouncement b st s)

/-- An announcement ends. -/
def dropAnnouncement (id : Nat) (s : State) : State :=
  { s with map := { s.map with moved := s.map.moved.filter fun a => a.id != id } }

/-- The 250 ms wait of an announcement starts or ends. -/
def setAnnouncementWait (id : Nat) (w : Bool) (s : State) : State :=
  { s with
    map := { s.map with moved := s.map.moved.map fun a => if a.id = id then { a with waiting := w } else a } }

/-! ## The giver (8.4) -/

/-- The handover engine's state. -/
def setHand (h : Handover) (s : State) : State := { s with hand := h }

/-- Whether a dispatch's target lies in a block, told by its key in the view table (R153). -/
def Dispatch.isFor (b : Block) (d : Dispatch) : Bool := d.block.any fun x => x.key == b.key

/-- Whether an INBOUND entry for a block remains (R129, R160). -/
def inboundFor (b : Block) (s : State) : Bool :=
  s.queue.entries.any fun e => e.dir == .inbound && e.disp.isFor b

/-- Whether the frame in acceptance is a DISPATCH for a block, its checks of the view made and its 3 places reserved
(R127). -/
def acceptingFor (b : Block) (s : State) : Bool :=
  match s.line.acc with
  | some a =>
    match a.frame.body with
    | .dispatch d => d.isFor b
    | _ => false
  | none => false

/-- Whether this station has a dispatch for a block that the block's records must still take: an INBOUND entry (R129),
or the DISPATCH in acceptance, which its commitment enters (R139). DEDUCED (log entry 43): from the freeze on the
records do not change (R161), so the freeze waits for both. -/
def takenFor (b : Block) (s : State) : Bool := inboundFor b s || acceptingFor b s

/-- R160: a draining giver that holds no dispatch taken for its block asks for the freeze. -/
def askFreeze (s : State) : State :=
  match s.hand with
  | .giving g =>
    match g.phase with
    | .draining _ => if takenFor g.b s then s else askStreamOnce .freeze s
    | _ => s
  | _ => s

/-- R182, R184: the freeze of a handover that has ended while it drained asks no more. One that waits for the store
leaves the waiting work, and a grant that it holds ends with nothing committed, so that a later handover's freeze asks
anew, behind the work then waiting. DESIGN CHOICE (log entry 52): R184 speaks only of a stream unit whose handover has
ended. -/
def withdrawFreeze (s : State) : State :=
  let s1 := { s with arb := { s.arb with stream := s.arb.stream.filter fun w => w != .freeze } }
  match s.arb.held with
  | some ⟨.stream .freeze, _⟩ => endGrant s1
  | _ => s1

/-- R160: a HAND_OVER request is checked and, if it passes, starts DRAINING. -/
def startHandover (c : Nat) (b : Block) (t : Nat) (s : State) : State :=
  if viewOf b s ≠ .home then
    endTransaction c .refused (some .notHome) (.refusedBy (stationNo s)) s
  else if s.hand ≠ .idle then
    endTransaction c .refused (some .busyHandover) (.refusedBy (stationNo s)) s
  else if freePlaces s = 0 then
    endTransaction c .refused (some .noRoom) (.refusedBy (stationNo s)) s
  else
    askFreeze (setHand
      (.giving
        { phase := .draining true, receiver := t, b := b, serial := s.map.serial,
          counts := ⟨0, 0, 0⟩, units := 0, ctx := c, cursor := 0, ready := [] }) s)

/-- R161: what the OFFER counts. A quarantined title counts as one record. -/
def countBlock (b : Block) (s : State) : Counts :=
  { records := (recordsOf b s).length
    copies :=
      if b.space = .title then
        ((s.store.titles.filter fun p => p.1 / blockSize == b.num && !p.2.quarantined).map
          fun p => p.2.copies.length).sum
      else 0
    holds :=
      if b.space = .title then
        ((s.store.titles.filter fun p => p.1 / blockSize == b.num && !p.2.quarantined).map
          fun p => p.2.holds.length).sum
      else 0 }

/-- R161: the OFFER leaves under the context reference of the HAND_OVER context. -/
def sendOffer (g : Giving) (s : State) : State :=
  match getRun g.ctx s with
  | some r =>
    placeOrWait
      ⟨stationNo s, .station g.receiver, .req (ctxRef g.ctx r s) (.offer g.b g.serial g.counts)⟩
      (.context g.ctx) (.context g.ctx g.receiver)
      (setRun g.ctx { r with phase := .sending, attempts := 0 } s)
  | none => s

/-- R161: the nonvolatile part of the freeze: the serial raised and the view LENDING. -/
def freezeBlock (b : Block) (receiver : Nat) (s : State) : State :=
  setView b (.lending receiver) { s with map := { s.map with serial := (s.map.serial + 1) % 256 } }

/-- R161: the freeze at its grant. While a dispatch taken for the block waits to be applied, or to be committed, nothing
is frozen (R129, log entry 43). -/
def freeze (s : State) : State :=
  match s.hand with
  | .giving g =>
    match g.phase with
    | .draining _ =>
      if takenFor g.b s then s
      else
        let s1 := freezeBlock g.b g.receiver s
        let g1 : Giving :=
          { g with phase := .offering, serial := s1.map.serial, counts := countBlock g.b s }
        sendOffer g1 (setHand (.giving g1) s1)
    | _ => s
  | _ => s

/-- R161: the OFFER ended without an acceptance: the block is HOME again and the engine idle. -/
def endOffer (o : OutcomeCode) (why : Option Reason) (s : State) : State :=
  match s.hand with
  | .giving g =>
    becomeHome g.b (setHand .idle
      (endTransaction g.ctx o why (if o = .refused then .refusedBy g.receiver else .nothing) s))
  | _ => s

/-- The least record number of a block at or after a number. -/
def nextInBlock (b : Block) (n : Nat) (s : State) : Option Nat :=
  (recordsOf b s).find? fun k => decide (n ≤ k)

/-- R162: the STREAM frame of the next unit. The last unit's frame carries the LAST mark and the total, and a block with
no record is one frame without a unit. -/
def streamFrame (g : Giving) (s : State) : Frame :=
  ⟨stationNo s, .station g.receiver,
    match g.ready with
    | [] => .stream g.b g.serial (some g.units) none
    | u :: rest =>
      .stream g.b g.serial
        (if rest.isEmpty && (nextInBlock g.b g.cursor s).isNone then some (g.units + 1) else none)
        (some u)⟩

/-- R162: the giver goes on with the stream: it places the frame of the next unit read, or asks to read the next
record. -/
def streamOn (s : State) : State :=
  match s.hand with
  | .giving g =>
    match g.phase with
    | .streaming =>
      if g.ready.isEmpty && (nextInBlock g.b g.cursor s).isSome then askStreamOnce .read s
      else placeOrWait (streamFrame g s) .handover .handover s
    | _ => s
  | _ => s

/-- R99, R161: t accepts: the context ends DONE and streaming begins. -/
def acceptedOffer (s : State) : State :=
  match s.hand with
  | .giving g =>
    if g.phase = .offering then
      streamOn (setHand
        (.giving { g with phase := .streaming, units := 0, cursor := g.b.num * blockSize, ready := [] })
        (endTransaction g.ctx .done none (.acceptedBy g.receiver) s))
    else s
  | _ => s

/-- R161: the giver takes the ANS of its OFFER. -/
def takeOfferAnswer (a : StepAnswer) (s : State) : State :=
  match a with
  | .done _ => acceptedOffer s
  | .refused why _ => endOffer .refused (some why) s
  | _ => s

/-- R162: the units of a title record. -/
def titleUnits (n : Nat) (t : Title) : List StreamUnit :=
  .titleHeader n t.holdable t.currentTo :: (t.copies.map .copyRef ++ t.holds.map .holdEntry)

/-- R162, R180, R181: read a record for its stream units. -/
def readUnits (sp : Space) (n E : Nat) (s : State) : State × List StreamUnit :=
  match sp with
  | .item =>
    match fetchItem n .stream E s with
    | (s1, some r) => (s1, if r.quarantined then [.marker .item n] else [.item n r])
    | (s1, none) => (s1, [])
  | .title =>
    match fetchTitle n .stream E s with
    | (s1, some t) => (s1, if t.quarantined then [.marker .title n] else titleUnits n t)
    | (s1, none) => (s1, [])
  | .patron =>
    match fetchPatron n .stream E s with
    | (s1, some p) => (s1, if p.quarantined then [.marker .patron n] else [.patron n p])
    | (s1, none) => (s1, [])

/-- R162: the giver reads the next record at its grant. -/
def streamRead (E : Nat) (s : State) : State :=
  match s.hand with
  | .giving g =>
    match g.phase with
    | .streaming =>
      match nextInBlock g.b g.cursor s with
      | some n =>
        let x := readUnits g.b.space n E s
        streamOn (setHand (.giving { g with ready := x.2, cursor := n + 1 }) x.1)
      | none => s
    | _ => s
  | _ => s

/-- R166: the giver fails the handover. -/
def failHandover (g : Giving) (why : Reason) (s : State) : State :=
  let s1 := becomeHome g.b (setHand .idle s)
  let s2 := if why = .notHome then s1 else enqueue (.abandon g.receiver g.b g.serial) s1
  stopWaiting .handover
    (postNotice (.handover g.b g.receiver .failed (some why) g.units) s2)

/-- R165: the giver completes the handover and frees the block's records. -/
def completeHandover (g : Giving) (s : State) : State :=
  let s1 := announce g.b g.receiver
    (setView g.b (.foreign g.receiver) (setHand (.giving { g with phase := .freeing }) s))
  let s2 := stopWaiting .handover
    (postNotice (.handover g.b g.receiver .done none g.units) s1)
  if (recordsOf g.b s2).isEmpty then setHand .idle s2 else askStreamOnce (.free g.b) s2

/-- R162, R163: a STREAM frame was delivered. -/
def streamDelivered (last : Option Nat) (u : Option StreamUnit) (s : State) : State :=
  match s.hand with
  | .giving g =>
    match g.phase with
    | .streaming =>
      let g1 : Giving :=
        { g with units := g.units + (if u.isSome then 1 else 0), ready := g.ready.tail }
      match last with
      | some _ => setHand (.giving { g1 with phase := .deciding }) s
      | none => streamOn (setHand (.giving g1) s)
    | _ => s
  | _ => s

/-- R163: a STREAM frame ended undelivered. -/
def streamReturned (s : State) : State :=
  match s.hand with
  | .giving g =>
    match g.phase with
    | .streaming => failHandover g .streamUndelivered s
    | _ => s
  | _ => s

/-- The context reference of the handover exchanges (R164, R169). -/
def exchangeRef : CtxRef := ⟨255, 0, 0⟩

/-- R164: the giver sends a BLOCK_QUERY. -/
def sendQuery (g : Giving) (s : State) : State :=
  placeOrWait ⟨stationNo s, .station g.receiver, .req exchangeRef (.blockQuery g.b g.serial)⟩
    .handover .handover (setHand (.giving { g with phase := .querying .sending }) s)

/-- Whether the giver waits for t's decision (R164). -/
def GivePhase.waitsForDecision : GivePhase → Bool
  | .deciding | .querying _ => true
  | _ => false

/-- R164: an ANS of the handover exchange, matched by its block and serial. -/
def takeDecision (o : OutcomeCode) (b : Block) (serial : Nat) (s : State) : State :=
  match s.hand with
  | .giving g =>
    if g.phase.waitsForDecision ∧ g.b = b ∧ g.serial = serial then
      match o with
      | .home => completeHandover g s
      | .badCount => failHandover g .badCount s
      | .notHome => failHandover g .notHome s
      | _ => s
    else s
  | _ => s

/-- R164: the BLOCK_QUERY's frame has ended: delivered, its limit runs; returned, the 400 ms wait runs. -/
def queryEnded (b : Block) (serial : Nat) (q : QueryState) (s : State) : State :=
  match s.hand with
  | .giving g =>
    if g.phase = .querying .sending ∧ g.b = b ∧ g.serial = serial then
      setHand (.giving { g with phase := .querying q }) s
    else s
  | _ => s

/-! ## The receiver (8.5) -/

/-- R172: t discards the block it is receiving. -/
def discardBlock (r : Receiving) (s : State) : State :=
  postNotice (.handover r.b r.giver .discarded none r.units)
    (becomeForeign r.b r.giver (setHand .idle s))

/-- R172: an ABANDON, taken or applied here. One that does not match is dropped. -/
def takeAbandon (b : Block) (serial src : Nat) (s : State) : State :=
  match s.hand with
  | .receiving r =>
    if r.phase = .receiving ∧ r.b = b ∧ r.serial = serial ∧ r.giver = src then discardBlock r s
    else s
  | _ => s

/-- R167, check 4: the free pools hold the counts, stranded records of the block counting as free. -/
def roomForOffer (b : Block) (c : Counts) (s : State) : Bool :=
  let held := (recordsOf b s).length
  let inBlock := s.store.titles.filter fun p => b.space == .title && p.1 / blockSize == b.num
  let records := match b.space with
    | .item => freeItems s
    | .title => freeTitles s
    | .patron => freePatrons s
  decide (c.records ≤ records + held) &&
    decide (c.copies ≤ freeCopies s + (inBlock.map fun p => p.2.copies.length).sum) &&
    decide (c.holds ≤ freeHolds s + (inBlock.map fun p => p.2.holds.length).sum)

/-- R167: the first check an OFFER fails. -/
def offerRefusal (b : Block) (c : Counts) (s : State) : Option Reason :=
  if s.station = .joining then some .busyHandover
  else if viewOf b s = .home then some .alreadyHome
  else if s.hand ≠ .idle then some .busyHandover
  else if !roomForOffer b c s then some .noRoom
  else none

/-- R167: the OFFER is accepted. -/
def acceptOffer (giver : Nat) (b : Block) (serial : Nat) (c : Counts) (s : State) : State :=
  freeStranded b (setView b (.receiving giver)
    (setHand
      (.receiving
        { phase := .receiving, giver := giver, b := b, serial := serial, reserved := c, units := 0,
          title := 0 }) s))

/-- The item record of a quarantined-record marker: no field trusted (R168), so each field holds a free value of its own
within the range Table 1-1 gives it, the state among the seven (log entry 5). -/
def markerItem (s : State) : Item × State :=
  let n (k : Nat) : Nat := freeNumberAt k s
  let c (k : Nat) : Nat := freeCodeAt k s
  let target : HoldTarget := ⟨n 0, c 0 % 32⟩
  let st : ItemState := match c 1 % 7 with
    | 0 => .onShelf
    | 1 => .onLoan (n 1) (n 2 % 65536) (c 2 % 16) (c 3 % 2 == 1)
    | 2 => .awaitRoute
    | 3 => .pull target
    | 4 => .inTransit (if c 4 % 2 = 1 then some target else none) (c 5 % 32)
    | 5 => .held target (n 3 % 65536) (n 4 % 65536) (c 6 % 2 == 1)
    | _ => .lost (n 1) (n 2 % 65536) (n 5 % 50001) (n 6 % 50001)
  ({ title := n 7, cls := c 7 % 8, shelf := c 8 % 32, state := st, at_ := c 9 % 32,
     currentTo := n 8 % 65536, quarantined := true, check := .absent },
   drew 10 s)

/-- The title record of a marker (R168, log entry 5). -/
def markerTitle (s : State) : Title × State :=
  ({ holdable := (freeCodeAt 0 s % 2 == 1), copies := [], holds := [], currentTo := freeNumberAt 0 s % 65536,
     quarantined := true, check := .absent }, drew 1 s)

/-- The patron record of a marker (R168, log entry 5). -/
def markerPatron (s : State) : Patron × State :=
  ({ category := freeCodeAt 0 s % 4, cardExpiry := freeNumberAt 0 s % 65536,
     balance := freeNumberAt 1 s % (Config.balanceLimit + 1), saturated := (freeCodeAt 1 s % 2 == 1),
     loans := freeCodeAt 2 s, holds := freeCodeAt 3 s, quarantined := true, check := .absent },
   drew 4 s)

/-- R168: the record a marker writes. -/
def writeMarker (sp : Space) (n : Nat) (s : State) : State :=
  match sp with
  | .item => let x := markerItem s; putItemRaw n x.1 x.2
  | .title => let x := markerTitle s; putTitleRaw n x.1 x.2
  | .patron => let x := markerPatron s; putPatronRaw n x.1 x.2

/-- R168, R180: write a unit's record, with the check word of what it writes. A copy reference and a hold entry are each
a part of their own: the parts written before them keep their check words. `open_` is the title whose parts follow.
DESIGN CHOICE (log entry 48): no rule says what becomes of a unit that fits neither the block nor the sequence. A part
before any title header goes to title 0, or nowhere without that title, and a number outside the block is written as it
stands. DESIGN CHOICE (log entry 55): where a streamed part would break a bound of R28 or R29, the append of R168 is
taken over the bound. A 17th copy, a 33rd hold, a second copy reference of one item, a second hold of one patron and a
copy out of ascending order are each appended as they arrive, and a unit of a number already written replaces its
record. -/
def writeUnitRecord (open_ : Nat) (u : StreamUnit) (s : State) : State :=
  match u with
  | .item n r => putItem n { r with quarantined := false } s
  | .patron n p => putPatron n { p with quarantined := false } s
  | .titleHeader n h day =>
    putTitle n
      { holdable := h, copies := [], holds := [], currentTo := day, quarantined := false,
        check := .agrees } s
  | .copyRef c =>
    match getTitle open_ s with
    | some t => putTitleRaw open_ { t with copies := t.copies ++ [{ c with check := .agrees }] } s
    | none => s
  | .holdEntry h =>
    match getTitle open_ s with
    | some t => putTitleRaw open_ { t with holds := t.holds ++ [{ h with check := .agrees }] } s
    | none => s
  | .marker sp n => writeMarker sp n s

/-- R177: a unit moves one reserved place of its pool into use. DESIGN CHOICE (log entry 49): with no reserved place of
the pool left, more units having come than the OFFER counted, the unit is written all the same and the reservation stays
at 0. -/
def useReserved (u : StreamUnit) (c : Counts) : Counts :=
  match u with
  | .copyRef _ => { c with copies := c.copies - 1 }
  | .holdEntry _ => { c with holds := c.holds - 1 }
  | _ => { c with records := c.records - 1 }

/-- R168: the receiver writes a unit. -/
def writeUnit (r : Receiving) (u : StreamUnit) (s : State) : State :=
  let s1 := writeUnitRecord r.title u s
  setHand
    (.receiving
      { r with
        reserved := useReserved u r.reserved
        units := r.units + 1
        title := match u with
          | .titleHeader n _ _ => n
          | _ => r.title }) s1

/-- The decision ANS of R169. -/
def decisionAns (o : OutcomeCode) (b : Block) (serial : Nat) : Ans :=
  { ref := exchangeRef, op := .lastDecision, patron := 0, item := 0, title := 0,
    answer := .exchange o b serial }

/-- R169: the units written equal the total: the block is HOME here, and the decision HOME is sent. -/
def takeBlock (k : Nat) (r : Receiving) (s : State) : State :=
  let s1 := becomeHome r.b
    (setHand (.receiving { r with phase := .confirming true, reserved := ⟨0, 0, 0⟩ }) s)
  let s2 := postNotice (.handover r.b r.giver .received none r.units) s1
  placeAns k r.giver (decisionAns .home r.b r.serial) .handover s2

/-- R169: the counts differ: the block is discarded, and the decision BAD_COUNT is sent. -/
def rejectBlock (k : Nat) (r : Receiving) (s : State) : State :=
  placeAns k r.giver (decisionAns .badCount r.b r.serial) .handover (discardBlock r s)

/-- The handover this station receives, when a committed STREAM belongs to it (R168). -/
def streamMatch (f : Frame) (s : State) : Option Receiving :=
  match s.hand, f.body with
  | .receiving r, .stream b serial _ _ =>
    if r.phase = .receiving ∧ r.b = b ∧ r.serial = serial ∧ r.giver = f.src then some r else none
  | _, _ => none

/-- R168, R169: a committed STREAM at its grant. One whose handover has ended is discarded (R184); any other waits for
the freeing of stranded records of its block (R167). -/
def streamWrite (k : Nat) (s : State) : State :=
  match getSlot k s with
  | .processing _ f _ =>
    match f.body with
    | .stream b _ last u =>
      match streamMatch f s with
      | none => freeSlot k s
      | some r =>
        if s.arb.stream.contains (.free b) then
          { s with arb := { s.arb with stream := s.arb.stream ++ [.write k] } }
        else
          let s1 := match u with
            | some x => writeUnit r x s
            | none => s
          match last with
          | none => freeSlot k s1
          | some total =>
            match s1.hand with
            | .receiving r1 => if r1.units = total then takeBlock k r1 s1 else rejectBlock k r1 s1
            | _ => s1
    | _ => s
  | _ => s

/-- R170: the CONFIRMING of a block ends and the engine is idle; of another block nothing ends (log entry 57). -/
def endConfirming (b : Block) (s : State) : State :=
  match s.hand with
  | .receiving r =>
    match r.phase with
    | .confirming _ => if r.b = b then setHand .idle s else s
    | .receiving => s
  | _ => s

/-- R170: an ANS carrying HOME was delivered to the giver. That its block and serial are those of the wait is the
model's reading. DEDUCED (log entry 57): R170 names neither, and R164 has the giver match the ANS by them. -/
def homeDelivered (dest : Nat) (b : Block) (serial : Nat) (s : State) : State :=
  match s.hand with
  | .receiving r => if r.giver = dest ∧ r.serial = serial then endConfirming b s else s
  | _ => s

/-- R171: the answer to a BLOCK_QUERY from a station. -/
def queryAnswer (v : View) (src : Nat) : OutcomeCode :=
  match v with
  | .home | .lending _ => .home
  | .receiving g => if g = src then .deferred else .notHome
  | .probing => .deferred
  | .foreign _ | .unknown => .notHome

/-! ## Freeing of records (R155, R165, R172) -/

/-- Whether the records of a block are freed while it is viewed so. -/
def View.freesRecords : View → Bool
  | .foreign _ | .unknown | .receiving _ => true
  | _ => false

/-- Free at most `n` records of a block, the lowest numbers first. DESIGN CHOICE (log entry 44): no rule gives the order
in which a grant frees them, which shows in what a cut grant leaves and in what waits for the next grant. -/
def freeRecords (b : Block) (n : Nat) (s : State) : State :=
  ((recordsOf b s).take n).foldl (fun s k => dropRecord b.space k s) s

/-- R165: the giver's engine is idle once the last record of its block is freed. -/
def endFreeing (b : Block) (s : State) : State :=
  match s.hand with
  | .giving g => if g.phase = .freeing ∧ g.b = b then setHand .idle s else s
  | _ => s

/-- R155, R182: a freeing at its grant; one that has records left asks again behind the waiting work. -/
def freeing (b : Block) (s : State) : State :=
  if (viewOf b s).freesRecords then
    let s1 := freeRecords b Config.burst s
    if (recordsOf b s1).isEmpty then endFreeing b s1
    else { s1 with arb := { s1.arb with stream := s1.arb.stream ++ [.free b] } }
  else endFreeing b s

end Sys2Proof.Machine
end

