-- ==== Sys2Proof/Machine/Dispatching.lean ====
section
/-! DEFINITION. The dispatch engine (chapter 6): the walk of the dispatch queue, the resolution, sending and failing of
entries, the retry tick, the applications at their grant, and the offering of freed places. -/

namespace Sys2Proof.Machine

/-- Whether a DISPATCH frame to a station is in flight (R124: at most one per destination). -/
def flightTo (st : Nat) (s : State) : Bool := s.queue.entries.any fun e => e.phase == .inFlight st

/-- R124, R125: send a remote entry. The Bool says that the walk stops for want of a send place. R133 orders the waiting
blocks but does not say how many freed places one of them takes at an offer, nor where it stands when it still wants
places: that the engine places as many DISPATCH frames as have room and then keeps its old turn is the model's choice
(DESIGN CHOICE, log entry 50). -/
def sendEntry (e : Entry) (st : Nat) (s : State) : State × Bool :=
  if flightTo st s then (s, false)
  else if mayPlace .dispatch s then
    (setEntryPhase e.id (.inFlight st)
      (pushFrame ⟨stationNo s, .station st, .dispatch e.disp⟩ (.entry e.id) s), false)
  else (waitForPlace .dispatch s, true)

/-- R126: an entry asks for a census of its block. -/
def censusEntry (id : Nat) (b : Block) (s : State) : State :=
  askCensus b (.entry id) (setEntryPhase id .census s)

/-- R124: resolve an eligible entry by the view, or by its explicit station. -/
def resolveEntry (e : Entry) (s : State) : State × Bool :=
  match e.disp.block with
  | some b =>
    match viewOf b s with
    | .home => (askLine (.entry e.id) (setEntryPhase e.id .applying s), false)
    | .foreign st => sendEntry e st s
    | .unknown => (censusEntry e.id b s, false)
    | .lending _ | .receiving _ | .probing => (setEntryPhase e.id .waitTick s, false)
  | none =>
    match e.disp with
    | .abandon st b serial =>
      if st = stationNo s then (dropEntry e.id (takeAbandon b serial (stationNo s) s), false)
      else sendEntry e st s
    | .kioskNote st _ _ _ => sendEntry e st s
    | _ => (s, false)

/-- R126: what an entry whose failure count has reached 4 does before it is resolved: a block target asks a census, an
explicit station's entry leaves the queue. -/
def retireEntry (e : Entry) (s : State) : State :=
  match e.disp.block with
  | some b => censusEntry e.id b s
  | none => dropEntry e.id s

/-- R124, R126: an eligible entry is resolved, or first retired when its failure count has reached 4. -/
def takeEligible (e : Entry) (s : State) : State × Bool :=
  if e.failures < Config.failures then resolveEntry e s else (retireEntry e s, false)

/-- R123, R124: whether the walk takes an eligible entry: one in QUEUED, or one that waits for its 2 places while its
block is no longer viewed HOME here (log entry 38). -/
def Entry.walked (e : Entry) (s : State) : Bool :=
  match e.phase with
  | .queued => true
  | .awaitRoom =>
    match e.disp.block with
    | some b => viewOf b s != .home
    | none => true
  | _ => false

/-- R123: walk the entries of a list, oldest first. `keys` are the ordering keys of older OUTBOUND entries still in the
queue. The Bool says that the walk stopped (R124). -/
def walkFrom : List Nat → List OrderKey → State → State × Bool
  | [], _, s => (s, false)
  | id :: rest, keys, s =>
    match findEntry id s with
    | none => walkFrom rest keys s
    | some e =>
      if e.dir = .inbound then walkFrom rest keys s
      else if keys.contains e.disp.orderKey then walkFrom rest keys s
      else if e.walked s then
        match takeEligible e s with
        | (s1, true) => (s1, true)
        | (s1, false) =>
          if (findEntry id s1).isSome then walkFrom rest (e.disp.orderKey :: keys) s1
          else walkFrom rest keys s1
      else walkFrom rest (e.disp.orderKey :: keys) s

/-- R123: the dispatch engine walks the queue. It sends and applies nothing until ONLINE (R120). -/
def walk (s : State) : State :=
  if s.station = .online then
    match walkFrom (s.queue.entries.map Entry.id) [] s with
    | (s1, true) => s1
    | (s1, false) => stopWaiting .dispatch s1
  else s

/-! ## Failing and retrying (R125, R126) -/

/-- R125: an entry's frame was returned undelivered. -/
def entryFailed (id : Nat) (s : State) : State :=
  mapEntry id (fun e => { e with failures := e.failures + 1, phase := .waitTick }) s

/-- R126: the result of an entry's census has arrived. -/
def entryCensusDone (id : Nat) (s : State) : State :=
  mapEntry id
    (fun e => if e.phase = .census then { e with failures := 0, phase := .waitTick } else e) s

/-- R126: an entry in WAIT_TICK at the retry tick. -/
def tickEntry (e : Entry) (s : State) : State :=
  if e.phase = .waitTick then
    if e.failures < Config.failures then setEntryPhase e.id .queued s else retireEntry e s
  else s

/-- R126: the retry tick. R123 and R126 give no order between the census requests of the entries with 4 failures and the
frames of the others: that the entries in WAIT_TICK are dealt with first, oldest first, those with 4 failures asking
their census or leaving the queue, and that the queue is walked after that, so that a younger entry's CENSUS may be
queued before an older entry's DISPATCH, is the model's choice (DESIGN CHOICE, log entry 53). -/
def retryTick (s : State) : State :=
  walk (s.queue.entries.foldl (fun s e => tickEntry e s) s)

/-! ## Applications (R128) -/

/-- R128: an entry at its grant. The entry has left the queue when the dispatch is applied, so its place and the 2
reserved with it are free for what the application queues. -/
def applyEntry (id E : Nat) (s : State) : State :=
  match findEntry id s with
  | none => s
  | some e =>
    match e.dir with
    | .inbound => askFreeze (applyDispatch e.disp E (dropEntry id s))
    | .outbound =>
      match e.disp.block with
      | none => s
      | some b =>
        if viewOf b s ≠ .home then walk (setEntryPhase id .queued s)
        else if freePlaces s < 2 then setEntryPhase id .awaitRoom s
        else applyDispatch e.disp E (dropEntry id s)

/-! ## Taking a DISPATCH frame (R127) -/

/-- R127: enter a taken dispatch as an INBOUND entry, which asks for its application. -/
def enterInbound (d : Dispatch) (s : State) : State :=
  askLine (.entry s.queue.nextId)
    { s with
      queue :=
        { entries := s.queue.entries ++
            [{ id := s.queue.nextId, dir := .inbound, disp := d, failures := 0, phase := .applying }]
          nextId := s.queue.nextId + 1 } }

/-- R127: a committed DISPATCH is taken. -/
def takeDispatch (d : Dispatch) (src : Nat) (s : State) : State :=
  match d with
  | .kioskNote _ item route patron => postNotice (routeNotice item route patron) s
  | .abandon _ b serial => takeAbandon b serial src s
  | _ => enterInbound d s

/-! ## Freed places (R121) -/

/-- R121: places are offered to the waiting local applications, oldest first, 2 to each. -/
def offerApplications : List Entry → Nat → State → State × Nat
  | [], room, s => (s, room)
  | e :: rest, room, s =>
    if e.phase = .awaitRoom ∧ 2 ≤ room then
      offerApplications rest (room - 2) (askLine (.entry e.id) (setEntryPhase e.id .applying s))
    else offerApplications rest room s

/-- R121: the places left once the waiting local applications have been offered 2 each. -/
def roomAfterApplications : List Entry → Nat → Nat
  | [], room => room
  | e :: rest, room =>
    if e.phase = .awaitRoom ∧ 2 ≤ room then roomAfterApplications rest (room - 2)
    else roomAfterApplications rest room

/-- R121: the places left once a PAUSED sweep has been offered its 3. -/
def roomAfterSweep (room : Nat) (s : State) : Nat :=
  if s.day.sweep = .paused ∧ 3 ≤ room then room - 3 else room

/-- R121: the free places a late ANS that waits may use: those left by the waiting local applications and a PAUSED
sweep. -/
def lateRoom (s : State) : Nat :=
  roomAfterSweep (roomAfterApplications s.queue.entries (freePlaces s)) s

/-- R60, R121: a PAUSED sweep becomes RUNNING again when 3 places are free. -/
def offerSweep (room : Nat) (s : State) : State :=
  if s.day.sweep = .paused ∧ 3 ≤ room then
    askSweep { s with day := { s.day with sweep := .running } }
  else s

end Sys2Proof.Machine
end

