-- ==== Sys2Proof/Machine/Ownership.lean ====
section
/-! DEFINITION. The ownership map (chapter 8): claims, the end of a census, join probing, MOVED frames, and the
station's becoming ONLINE (R201). -/

namespace Sys2Proof.Machine

/-- R154: the claim a view makes. -/
def View.claim : View → Option ClaimKind
  | .home | .lending _ => some .firm
  | .probing => some .probing
  | .receiving _ | .foreign _ | .unknown => none

/-! ## Joining (R174, R175, R176, R201) -/

/-- R201: the last PROBING block is resolved: the station is ONLINE. -/
def becomeOnline (s : State) : State :=
  walk (startSweep (queueDay
    { s with station := .online, map := { s.map with probe := none } }))

/-- R174: the next block to probe: item blocks, then title blocks, then patron blocks, rising. -/
def nextProbing (s : State) : Option Block :=
  (s.map.views.find? fun p => p.2 == .probing).map fun p => blockOfKey p.1

/-- R174: probe the next PROBING block, or end the join. -/
def probeOn (s : State) : State :=
  match nextProbing s with
  | some b => askCensus b .probe { s with map := { s.map with probe := some ⟨b, false⟩ } }
  | none => becomeOnline s

/-- The probe of a block has been resolved: the next one begins, unless another block is being probed. -/
def afterProbe (b : Block) (s : State) : State :=
  match s.map.probe with
  | some p => if p.b = b then probeOn s else s
  | none => s

/-- R175, R176: the other claimants of a window resolve a probe. -/
def resolveProbe (b : Block) (others : List Claim) (s : State) : State :=
  match others with
  | [] => afterProbe b (becomeHome b s)
  | [⟨c, .firm⟩] =>
    afterProbe b
      (postNotice (.conflict b (.foreign c) others) (announce b c (becomeForeign b c s)))
  | _ => afterProbe b (postNotice (.conflict b .unknown others) (setView b .unknown s))

/-! ## The end of a census (R158, R159) -/

/-- R159: the result of a census and a FOREIGN or UNKNOWN view. `none` is a census not held. The table of R159 has no
row for one claimant that is this station itself, its view having changed after its own lane: the view is left as it
stands. DEDUCED (log entry 56): R108's table has the view "as it stands here" for that claimant. -/
def applyCensus (b : Block) (res : Option (List Claim)) (s : State) : State :=
  match viewOf b s with
  | .foreign _ | .unknown =>
    match res with
    | some [] => setView b .unknown s
    | some [c] => if c.station = stationNo s then s else becomeForeign b c.station s
    | _ => s
  | _ => s

/-- R108: a context takes the result of its census. -/
def censusToContext (c : Nat) (res : Option (List Claim)) (s : State) : State :=
  match getRun c s with
  | some r =>
    if r.phase = .census then
      match res with
      | some [] => endTransaction c .noOwner none .nothing s
      | some [_] => resolveStep c s
      | _ => setRun c { r with phase := .deferring } s
    else s
  | none => s

/-- R175: a probe whose census was not held asks again 250 ms later. -/
def censusToProbe (b : Block) (res : Option (List Claim)) (s : State) : State :=
  match s.map.probe, res with
  | some p, none =>
    if p.b = b then { s with map := { s.map with probe := some ⟨b, true⟩ } } else s
  | _, _ => s

/-- R170: a census result that leaves the receiver CONFIRMING starts the 2 s wait again. -/
def censusToConfirming (b : Block) (s : State) : State :=
  match s.hand with
  | .receiving r =>
    match r.phase with
    | .confirming _ =>
      if r.b = b then setHand (.receiving { r with phase := .confirming true }) s else s
    | .receiving => s
  | _ => s

/-- R158: hand a census result to a requester. -/
def censusToAsker (b : Block) (res : Option (List Claim)) (a : Asker) (s : State) : State :=
  match a with
  | .context c => censusToContext c res s
  | .entry id => entryCensusDone id s
  | .probe => censusToProbe b res s
  | .confirming => censusToConfirming b s

/-- Set the phase of a census place. -/
def setPlace (b : Block) (f : CensusPlace → CensusPlace) (s : State) : State :=
  { s with
    map := { s.map with census := s.map.census.map fun p => if p.b = b then f p else p } }

/-- R158: a freed place is taken by the first waiting request, with every other that waits for its
block. -/
def giveFreePlace (s : State) : State :=
  match s.map.censusWait with
  | [] => s
  | (b, a) :: rest =>
    openCensus b (a :: (rest.filter fun p => p.1 == b).map Prod.snd)
      { s with map := { s.map with censusWait := rest.filter fun p => p.1 != b } }

/-- R158: the place of a census that has ended: a FOLLOW_UP place queues its second CENSUS, any other
becomes free. -/
def endPlace (b : Block) (s : State) : State :=
  match s.map.census.find? fun p => p.b == b with
  | some p =>
    if p.phase = .followUp then
      placeOrWait (censusFrame b s) (.census b) (.census b)
        (setPlace b (fun p => { p with phase := .queued, askers := p.later, later := [] }) s)
    else
      giveFreePlace
        { s with map := { s.map with census := s.map.census.filter fun p => p.b != b } }
  | none => s

/-- R175: a window of a block PROBING here resolves its probe. -/
def observeProbe (b : Block) (others : List Claim) (s : State) : State :=
  if viewOf b s = .probing then resolveProbe b others s else s

/-- The requesters waiting on the place of a block. -/
def askersOf (b : Block) (s : State) : List Asker :=
  match s.map.census.find? fun p => p.b == b with
  | some p => p.askers
  | none => []

/-- R158, R159: a census of this station has ended. The result is applied to the view and handed to every requester of
the place, and then the place queues its second census or becomes free. A requester that asks again as it takes the
result finds the place still RUNNING and waits for the second census. DESIGN CHOICE (log entry 47): the requesters take
the result in the order in which they joined the place, R108 and R158 giving none. -/
def censusEnded (b : Block) (res : Option (List Claim)) (s : State) : State :=
  endPlace b
    ((askersOf b s).foldl (fun s a => censusToAsker b res a s) (applyCensus b res s))

/-! ## MOVED frames (R156) -/

/-- R156: a MOVED frame naming another station. -/
def takeMovedOther (b : Block) (st : Nat) (s : State) : State :=
  match viewOf b s with
  | .home | .lending _ | .receiving _ => s
  | .probing =>
    afterProbe b
      (postNotice (.conflict b (.foreign st) [⟨st, .firm⟩]) (becomeForeign b st s))
  | .foreign _ | .unknown => becomeForeign b st s

/-- R156, R170: a MOVED frame from a station. Naming this station and from the giver of a confirmation wait it ends that
wait; that it does so only when it carries the block of the wait is the model's reading. DEDUCED (log entry 57): R156
and R170 name no block there, and R170's reason is that the giver can no longer return the block. -/
def takeMoved (b : Block) (st src : Nat) (s : State) : State :=
  if st = stationNo s then
    match s.hand with
    | .receiving r => if r.giver = src then endConfirming b s else s
    | _ => s
  else takeMovedOther b st s

end Sys2Proof.Machine
end

