-- ==== Sys2Proof/Machine/LineEngine.lean ====
section
/-! DEFINITION. The line engine (chapter 7): contention, acceptance, commitment, CLEAR, the report of a frame's end to
the block that queued it, freed send places, and the processing of REQ and ANS frames in the receive slots. -/

namespace Sys2Proof.Machine

/-- R131, R151: the station takes part in the line. -/
def onLine (s : State) : Bool := s.station == .joining || s.station == .online

/-! ## Contention (R134, R135) -/

/-- R134: the value of a frame's contention field: class, then station number. -/
def contentionField (i : SendItem) (s : State) : Nat := i.cls * 32 + stationNo s

/-- R134: the lowest field wins. -/
def winsContention (i : SendItem) (rivals : List Nat) (s : State) : Bool :=
  rivals.all fun r => decide (contentionField i s < r)

/-- R158: a census place is RUNNING from the start of its frame's contention. -/
def contendFor (i : SendItem) (s : State) : State :=
  match i.frame.body with
  | .census b =>
    setPlace b (fun p => if p.phase = .queued then { p with phase := .running } else p) s
  | _ => s

/-- R134: a winner's lost contentions are cleared and its class returns to the base class. -/
def SendItem.won (i : SendItem) : SendItem := { i with losses := 0, cls := i.frame.body.baseClass }

/-- R134, R135: a lost contention is counted, and the third promotes the frame one class. -/
def SendItem.lost (i : SendItem) : SendItem :=
  if i.isAns || i.isClear then i
  else if i.losses + 1 < Config.losses then { i with losses := i.losses + 1 }
  else { i with losses := 0, cls := i.frame.body.baseClass - 1 }

/-- R136, R141: the acceptance ends: the reserved slot is free again, the rooms are released and the refuse
line is released. A draining giver that waited for the frame asks for its freeze (R129). -/
def dropAcceptance (s : State) : State :=
  match s.line.acc with
  | some a =>
    let s1 := { s with line := { s.line with acc := none, refuse := false } }
    askFreeze
      (match a.slot with
       | some k => setSlot k .free s1
       | none => s1)
  | none => s

/-- R142: a CLEAR this station has queued is withdrawn. -/
def withdrawClear (s : State) : State :=
  { s with line := { s.line with sendq := s.line.sendq.filter fun i => !i.isClear } }

/-- R134: the head frame wins: this station holds the turn. A CLEAR of the clear guard ends the acceptance
here as it begins (R142). -/
def winTurn (i : SendItem) (s : State) : State :=
  let s1 := mapSend i.id SendItem.won s
  let s2 := { s1 with line := { s1.line with turn := some ⟨i.id, false⟩, refuse := false } }
  if i.isClear then dropAcceptance s2 else s2

/-- R134: the head frame contends against the fields the other stations send. -/
def contend (i : SendItem) (rivals : List Nat) (s : State) : State :=
  let s1 := contendFor i s
  if winsContention i rivals s then winTurn i s1
  else
    let s2 := mapSend i.id SendItem.lost s1
    { s2 with line := { s2.line with refuse := false } }

/-- R130: whether this station may begin a frame: it takes part in the line, no turn is held, no window
runs, and an acceptance here lets only a CLEAR begin. -/
def mayContend (i : SendItem) (s : State) : Bool :=
  onLine s && s.line.turn.isNone && s.line.window.isNone && (s.line.acc.isNone || i.isClear)

/-! ## Acceptance (R136, R137) -/

/-- R131: the destination octet names this station or ALL. -/
def namesHere (octets : List Nat) (s : State) : Bool :=
  match octets with
  | _ :: _ :: dest :: _ => dest == 255 || dest == stationNo s
  | _ => false

/-- R127: whether a DISPATCH may be taken. -/
def dispatchTakeable (d : Dispatch) (s : State) : Bool :=
  s.station == .online &&
    (match d.block with
     | some b => viewOf b s == .home
     | none => true) &&
    decide (3 ≤ freePlaces s)

/-- R136: the kind-specific checks. -/
def kindChecks (f : Frame) (s : State) : Bool :=
  match f.body with
  | .dispatch d => dispatchTakeable d s
  | .stream .. => (streamMatch f s).isSome
  | _ => true

/-- Whether a frame is a DISPATCH, which keeps 3 places reserved (R127). -/
def Frame.isDispatch (f : Frame) : Bool :=
  match f.body with
  | .dispatch _ => true
  | _ => false

/-- R136: hold the frame: a free slot is reserved at once, otherwise the hold line stays asserted. -/
def holdFrame (f : Frame) (s : State) : State :=
  match freeSlotNo s with
  | some k =>
    let s1 := setSlot k .reserved s
    { s1 with
      line := { s1.line with acc := some ⟨f, some k, f.isDispatch⟩, refuse := false } }
  | none => { s with line := { s.line with acc := some ⟨f, none, f.isDispatch⟩, refuse := false } }

/-- R137: the refuse line is released as the hold line falls. -/
def releaseRefuse (s : State) : State := { s with line := { s.line with refuse := false } }

/-- R137: this station refuses the frame. -/
def refuseFrame (s : State) : State := { s with line := { s.line with refuse := true } }

/-- R136, R137: a taking station at a frame's last octet. A frame that decodes to a CLEAR is neither held nor refused; it
releases the refuse line (R136, R141). That a frame whose check fails is refused also where its kind octet reads CLEAR,
by a station that holds nothing, is the model's choice between R131 and R141 (DESIGN CHOICE, log entry 54). -/
def acceptFrame (octets : List Nat) (refusedByOther : Bool) (s : State) : State :=
  match decodeFrame octets with
  | none => refuseFrame s
  | some f =>
    match f.body with
    | .clear _ => releaseRefuse s
    | _ =>
      if !kindChecks f s then refuseFrame s
      else if refusedByOther then releaseRefuse s
      else holdFrame f s

/-! ## Commitment (R139, R146) -/

/-- R139: the frame is written into its slot; the kinds processed at commitment are processed. The view of a DISPATCH's
block is looked at when the frame is accepted (R127) and not again here: a freeze waits for the frame (R129, log entry
43). -/
def commitFrame (a : Acceptance) (k : Nat) (s : State) : State :=
  let s1 := { s with line := { s.line with acc := none } }
  match a.frame.body with
  | .dispatch d => takeDispatch d a.frame.src (setSlot k .free s1)
  | .census b =>
    let s2 := setSlot k (.processing s.line.nextAge a.frame false) s1
    { s2 with
      line := { s2.line with
        window := some { b := b, sender := false, lane := none, slot := some k }
        nextAge := s.line.nextAge + 1 } }
  | _ =>
    let s2 := setSlot k (.full s.line.nextAge a.frame) s1
    beginStream { s2 with line := { s2.line with nextAge := s.line.nextAge + 1 } }

/-! ## CLEAR (R140, R141, R142) -/

/-- R140, R142: place a CLEAR, in the place kept for it. -/
def pushClear (named : Nat) (s : State) : State :=
  pushFrame ⟨stationNo s, .all, .clear named⟩ .lineEngine s

/-- The send queue item this station is sending. -/
def sending (s : State) : Option SendItem :=
  match s.line.turn with
  | some t => s.line.sendq.find? fun i => i.id == t.id
  | none => none

/-- Whether the hold limit of the present turn has expired and its CLEAR is being sent (R140). -/
def clearing (s : State) : Bool :=
  match s.line.turn with
  | some t => t.clearing
  | none => false

/-- The turn ends. -/
def endTurn (s : State) : State := { s with line := { s.line with turn := none } }

/-! ## Delivered frames (R138, R143) -/

/-- R93, R102: the context's REQ is delivered: it awaits the answer, and its answer limit runs. -/
def reqDelivered (c : Nat) (s : State) : State :=
  match getRun c s with
  | some r => if r.phase = .sending then setRun c { r with phase := .awaiting } s else s
  | none => s

/-- A frame of the handover engine is delivered (R162, R164, R170). -/
def handoverDelivered (f : Frame) (s : State) : State :=
  match f.body with
  | .stream _ _ last u => streamDelivered last u s
  | .req _ (.blockQuery b serial) => queryEnded b serial .awaiting s
  | .ans a =>
    match a.answer, f.dest with
    | .exchange .home b serial, .station st => homeDelivered st b serial s
    | _, _ => s
  | _ => s

/-- R138: a delivered frame is reported to the block that queued it. -/
def reportDelivered (i : SendItem) (s : State) : State :=
  match i.owner with
  | .context c => reqDelivered c s
  | .entry id => dropEntry id s
  | .announcement id _ _ => dropAnnouncement id s
  | .handover => handoverDelivered i.frame s
  | .dayUnit => queueDayAgain s
  | .ownerEngine | .census _ | .lineEngine => s

/-- R149: the window of a delivered CENSUS of this station. -/
def openWindow (b : Block) (s : State) : State :=
  { s with
    line := { s.line with window := some { b := b, sender := true, lane := none, slot := none } } }

/-- R138: the frame this station sends is delivered. -/
def frameDelivered (i : SendItem) (s : State) : State :=
  match i.frame.body with
  | .census b => openWindow b s
  | _ => walk (reportDelivered i (endTurn (dropSend i.id s)))

/-! ## Undelivered frames (R143, R144) -/

/-- R143: an attempt is reported to the queueing block: a context counts its line attempts. -/
def reportAttempt (i : SendItem) (s : State) : State :=
  match i.owner with
  | .context c =>
    match getRun c s with
    | some r => setRun c { r with attempts := r.attempts + 1 } s
    | none => s
  | _ => s

/-- R110, R161: a context's REQ is returned. -/
def reqReturned (c : Nat) (s : State) : State :=
  match getRun c s with
  | some r =>
    match r.request with
    | .handOver .. => endOffer .unreachable none s
    | _ => endTransaction c .unreachable none .nothing s
  | none => s

/-- A frame of the handover engine is returned (R163, R164, R169). -/
def handoverReturned (f : Frame) (s : State) : State :=
  match f.body with
  | .stream .. => streamReturned s
  | .req _ (.blockQuery b serial) => queryEnded b serial .retryWait s
  | _ => s

/-- R144: a returned frame is acted on by the block that queued it. -/
def returnFrame (i : SendItem) (res : SendResult) (s : State) : State :=
  match i.owner with
  | .context c => reqReturned c s
  | .entry id => entryFailed id s
  | .dayUnit =>
    queueDayAgain (if res = .noListener then s else setRequeueWait true s)
  | .census b => censusEnded b none s
  | .announcement id _ _ =>
    if res = .noListener then dropAnnouncement id s else setAnnouncementWait id true s
  | .handover => handoverReturned i.frame s
  | .ownerEngine | .lineEngine => s

/-- Whether a frame is a STREAM, returned after its first undelivered attempt (R143). -/
def Frame.isStream (f : Frame) : Bool :=
  match f.body with
  | .stream .. => true
  | _ => false

/-- R143: the frame keeps its place for another attempt. -/
def SendItem.retried (i : SendItem) : SendItem :=
  { i with attempts := i.attempts + 1, cls := i.frame.body.baseClass }

/-- R143: the frame keeps its place in the send queue for another attempt. A DAY frame is sent again with the county day
(R52), which meets an occasion that arose while it was being sent (R55). -/
def retryFrame (i : SendItem) (s : State) : State :=
  let s1 := mapSend i.id SendItem.retried s
  if i.owner = .dayUnit then carryDay (setAgain false s1) else s1

/-- R143: an attempt of the frame ended undelivered. -/
def attemptFailed (i : SendItem) (res : SendResult) (s : State) : State :=
  let s1 := reportAttempt i (endTurn s)
  if i.attempts + 1 = Config.attempts ∨ i.frame.isStream = true then
    walk (returnFrame i res (dropSend i.id s1))
  else walk (retryFrame i s1)

/-- R143, R150: an undelivered attempt. A CENSUS that no station holds runs its window at once. -/
def frameUndelivered (i : SendItem) (res : SendResult) (s : State) : State :=
  let s1 := if res = .cleared then withdrawClear s else s
  match i.frame.body, res with
  | .census b, .noListener => openWindow b s1
  | _, _ => attemptFailed i res s1

/-! ## Processing of REQ and ANS (R146, R147, R111, R115, R116) -/

/-- R147: the REQ at the head of the slots is handed to its owner when a place for its ANS can be reserved;
until then its slot waits, in the order of R133. OFFER and BLOCK_QUERY go to the handover engine. -/
def processReq (k age : Nat) (f : Frame) (q : Query) (s : State) : State :=
  if mayPlace (.reqSlot k) s then
    let s1 := setSlot k (.processing age f true) (stopWaiting (.reqSlot k) s)
    match q with
    | .op _ => askLine (.req k) s1
    | .offer .. | .blockQuery .. => s1
  else waitForPlace (.reqSlot k) s

/-- R112, R115: the compensation of a late refusal, from the numbers the ANS repeats. -/
def lateCompensation (a : Ans) : Option Dispatch :=
  match a.answer with
  | .refused _ _ =>
    match a.op with
    | .lendItem => some (.loanClose a.patron)
    | .holdAdd => some (.holdEnded a.patron a.title .notPlaced)
    | .itemCreate => some (.copyRemove a.title a.item)
    | _ => none
  | _ => none

/-- The outcome and reason of an answer (R116). -/
def StepAnswer.outcome : StepAnswer → OutcomeCode × Option Reason
  | .done _ => (.done, none)
  | .refused r _ => (.refused, some r)
  | .deferred => (.deferred, none)
  | .movedTo _ => (.movedTo, none)
  | .notOwner => (.notOwner, none)
  | .exchange o _ _ => (o, none)
  | .other o why => (o, why)

/-- R116: the LATE notice of an ANS. -/
def lateNotice (src : Nat) (a : Ans) (compensated : Bool) : Notice :=
  .late a.op a.answer.outcome.1 a.answer.outcome.2 a.patron a.item a.title src compensated

/-- R115, R116: a late ANS, with the free places it may use. Without one for its compensation it keeps its slot. -/
def takeLate (room k age : Nat) (f : Frame) (a : Ans) (s : State) : State :=
  match lateCompensation a with
  | none => freeSlot k (postNotice (lateNotice f.src a false) s)
  | some d =>
    if room = 0 then setSlot k (.processing age f false) s
    else freeSlot k (postNotice (lateNotice f.src a true) (enqueue d s))

/-- The operation and numbers a context awaits (R111). An OFFER names none. -/
def Run.awaits (r : Run) (origin : Nat) : Option (OpCode × Nat × Nat × Nat) :=
  match r.request with
  | .handOver .. => some (.offer, 0, 0, 0)
  | _ => (r.op origin).map fun o => (o.code, o.numbers)

/-- R111: the context an ANS is the answer of. -/
def matchAns (a : Ans) (s : State) : Option Run :=
  match getCtx a.ref.ctx s with
  | some { gen := g, st := .running r } =>
    if g = a.ref.gen ∧ r.phase = .awaiting ∧ r.step = a.ref.step ∧
        r.awaits (stationNo s) = some (a.op, a.patron, a.item, a.title) then some r else none
  | _ => none

/-- R103 to R107, R161: a context takes its answer. -/
def takeMatched (r : Run) (a : Ans) (s : State) : State :=
  match r.request with
  | .handOver .. => takeOfferAnswer a.answer s
  | _ => takeAnswer a.ref.ctx a.answer s

/-- R111: the ANS at the head of the slots. -/
def processAns (k age : Nat) (f : Frame) (a : Ans) (s : State) : State :=
  match matchAns a s with
  | some r => freeSlot k (takeMatched r a s)
  | none => takeLate (freePlaces s) k age f a s

/-- Whether an ANS belongs to the handover engine (R164). -/
def Ans.isExchange (a : Ans) : Bool := a.op == .blockQuery || a.op == .lastDecision

/-- The first slot in PROCESSING whose frame a test picks, with its number, age and frame. -/
def processingSlot (p : Frame → Bool) (s : State) : Option (Nat × Nat × Frame) :=
  (List.range s.line.slots.length).findSome? fun k =>
    match getSlot k s with
    | .processing a f _ => if p f then some (k, a, f) else none
    | _ => none

/-- Whether a frame is an ANS. -/
def Frame.isAns (f : Frame) : Bool :=
  match f.body with
  | .ans _ => true
  | _ => false

/-- A late ANS that waits in its slot for a dispatch entry (R115). -/
def waitingLate (s : State) : Option (Nat × Nat × Frame) := processingSlot Frame.isAns s

/-- R115: the late ANS is taken again, with the free places it may use. -/
def retryLate (room : Nat) (s : State) : State :=
  match waitingLate s with
  | some (k, age, f) =>
    match f.body with
    | .ans a => takeLate room k age f a s
    | _ => s
  | none => s

/-! ## Freed send places (R133) -/

/-- R133: a waiting block is offered a place and keeps waiting when it cannot use one. -/
def offerPlace (s : State) (w : Waiter) : State :=
  match w with
  | .context c dest =>
    match getRun c s with
    | some r =>
      match r.request with
      | .handOver .. =>
        match s.hand with
        | .giving g => sendOffer g s
        | _ => stopWaiting w s
      | _ =>
        match r.op (stationNo s) with
        | some o =>
          placeOrWait ⟨stationNo s, .station dest, .req (ctxRef c r s) (.op o)⟩ (.context c) w s
        | none => stopWaiting w s
    | none => stopWaiting w s
  | .dispatch => walk s
  | .day => queueDay s
  | .census b => placeOrWait (censusFrame b s) (.census b) w s
  | .announcement id b st => placeAnnouncement id b st s
  | .reqSlot k =>
    match headSlot s with
    | some (k', age, f) =>
      if k' = k then
        match f.body with
        | .req _ q => processReq k age f q s
        | _ => beginStream s
      else stopWaiting w s
    | none => stopWaiting w s
  | .handover =>
    match s.hand with
    | .giving g =>
      match g.phase with
      | .streaming => streamOn s
      | .querying .sending => sendQuery g s
      | _ => stopWaiting w s
    | _ => stopWaiting w s

/-- R133: the places are offered in the order in which the blocks began to wait. -/
def offerPlaces (s : State) : State := s.line.waiters.foldl offerPlace s

/-! ## Freed dispatch places (R121) -/

/-- R121: freed places go first to the waiting local applications, then to a PAUSED sweep, then to a late
ANS; the queue is walked. -/
def dispatchPlacesFreed (s : State) : State :=
  let x := offerApplications s.queue.entries (freePlaces s) s
  let s1 := offerSweep x.2 x.1
  walk (retryLate (roomAfterSweep x.2 x.1) s1)

/-! ## The census window (R149, R150) -/

/-- R149, R154: at its own lane the station drives its claim. -/
def driveLane (w : Window) (s : State) : State :=
  { s with line := { s.line with window := some { w with lane := some (viewOf w.b s).claim } } }

/-- The station's own lane as a claim. -/
def ownClaim (k : Option ClaimKind) (s : State) : List Claim :=
  match k with
  | some c => [⟨stationNo s, c⟩]
  | none => []

/-- R170: a window in which this station alone claims ends CONFIRMING. -/
def confirmAlone (b : Block) (own : Option ClaimKind) (others : List Claim) (s : State) : State :=
  if others.isEmpty && own.isSome then endConfirming b s else s

/-- R149, R150, R175: the window ends. The sender removes its CENSUS and ends the census; a taking station
frees the slot. -/
def windowEnds (w : Window) (own : Option ClaimKind) (claims : List Claim) (s : State) : State :=
  let others := claims.filter fun c => c.station != stationNo s
  let s0 := { s with line := { s.line with window := none } }
  if w.sender then
    let s1 := match sending s with
      | some i => endTurn (dropSend i.id s0)
      | none => s0
    let s2 := confirmAlone w.b own others (observeProbe w.b others s1)
    walk (censusEnded w.b (some (ownClaim own s ++ others)) s2)
  else
    let s1 := match w.slot with
      | some k => freeSlot k s0
      | none => s0
    walk (confirmAlone w.b own others (observeProbe w.b others s1))

end Sys2Proof.Machine
end

