-- ==== Sys2Proof/Machine/Grants.lean ====
section
/-! DEFINITION. The work of a grant (R182, R183): which work holds it, what the work does, how it ends, and what a start
reset within it leaves (R179). -/

namespace Sys2Proof.Machine

/-- An owner operation that holds the grant, with its requester and the event day. -/
structure HeldOp where
  op : OwnerOp
  who : Requester
  day : Nat
  deriving DecidableEq, Repr

/-- The operation of a REQ in processing at a slot. -/
def slotOp (k : Nat) (s : State) : Option (Nat × CtxRef × OwnerOp) :=
  match getSlot k s with
  | .processing _ f _ =>
    match f.body with
    | .req r (.op o) => some (f.src, r, o)
    | _ => none
  | _ => none

/-- The owner operation that holds the grant, if one does. -/
def heldOp (s : State) : Option HeldOp :=
  match s.arb.held with
  | some ⟨.kiosk c, day⟩ =>
    match getRun c s with
    | some r => (r.op (stationNo s)).map fun o => ⟨o, .kiosk, day⟩
    | none => none
  | some ⟨.line (.req k), day⟩ => (slotOp k s).map fun x => ⟨x.2.2, .line, day⟩
  | _ => none

/-- The ANS of an operation (R111, R147). -/
def ansOf (ref : CtxRef) (o : OwnerOp) (a : StepAnswer) : Ans :=
  { ref := ref, op := o.code, patron := o.numbers.1, item := o.numbers.2.1, title := o.numbers.2.2,
    answer := a }

/-- R101, R147: the owner engine's answer reaches the context, or leaves as the ANS of the REQ. -/
def deliverAnswer (a : StepAnswer) (s : State) : State :=
  match s.arb.held with
  | some ⟨.kiosk c, _⟩ => takeAnswer c a s
  | some ⟨.line (.req k), _⟩ =>
    match slotOp k s with
    | some x => placeAns k x.1 (ansOf x.2.1 x.2.2 a) .ownerEngine s
    | none => s
  | _ => s

/-- R182, R183: the operation that holds the grant is applied and answered, and the grant ends. -/
def ownerGrant (h : HeldOp) (s : State) : State :=
  let x := applyOp h.op h.who h.day s
  endGrant (deliverAnswer x.2 x.1)

/-- A command of an owner operation's row: it is carried out when its operation holds the grant. -/
def ownerStep (code : OpCode) (s : State) : Outcome :=
  match heldOp s with
  | some h => if h.op.code = code then finish (ownerGrant h s) else turnedAway s
  | none => turnedAway s

/-- The kind of a dispatch (Table 12-8). -/
inductive DispatchKind where
  | charge | credit | loanClose | holdEnded | copyState | copyFree | holdFilled | pickupLapsed
  | copyRemove | trap | untrap | allocate | redirect | release | kioskNote | abandon
  deriving DecidableEq, Repr

/-- The kind of a dispatch. -/
def Dispatch.kind : Dispatch → DispatchKind
  | .charge .. => .charge
  | .credit .. => .credit
  | .loanClose _ => .loanClose
  | .holdEnded .. => .holdEnded
  | .copyState .. => .copyState
  | .copyFree .. => .copyFree
  | .holdFilled .. => .holdFilled
  | .pickupLapsed .. => .pickupLapsed
  | .copyRemove .. => .copyRemove
  | .trap _ => .trap
  | .untrap _ => .untrap
  | .allocate .. => .allocate
  | .redirect .. => .redirect
  | .release _ => .release
  | .kioskNote .. => .kioskNote
  | .abandon .. => .abandon

/-- The dispatch entry that holds the grant, with the event day. -/
def heldEntry (s : State) : Option (Entry × Nat) :=
  match s.arb.held with
  | some ⟨.line (.entry id), day⟩ => (findEntry id s).map fun e => (e, day)
  | _ => none

/-- R128: the application of the entry that holds the grant, and the grant's end. -/
def entryGrant (e : Entry) (day : Nat) (s : State) : State := endGrant (applyEntry e.id day s)

/-- A command of a dispatch kind's row: it is carried out when a dispatch of that kind holds the grant. -/
def dispatchStep (k : DispatchKind) (s : State) : Outcome :=
  match heldEntry s with
  | some (e, day) =>
    if e.disp.kind = k then finish (entryGrant e day s) else turnedAway s
  | none => turnedAway s

/-- The stream work that holds the grant, with the county day of the grant. -/
def heldStream (s : State) : Option (StreamWork × Nat) :=
  match s.arb.held with
  | some ⟨.stream w, day⟩ => some (w, day)
  | _ => none

/-- Whether the STREAM frame of a slot carries the LAST mark. -/
def lastAt (k : Nat) (s : State) : Bool :=
  match getSlot k s with
  | .processing _ f _ =>
    match f.body with
    | .stream _ _ last _ => last.isSome
    | _ => false
  | _ => false

/-! ## A start reset within a grant (R179) -/

/-- R181: the state in which a failed check has set the quarantine mark, when the operation reads a record
whose check fails. -/
def opMark (h : HeldOp) (s : State) : Option State :=
  let reads : OwnerOp → Bool := fun o =>
    match o with
    | .itemCreate .. | .titleCreate .. | .patronCreate .. => false
    | _ => true
  let asRead : Bool := match h.op with
    | .itemRead _ | .titleRead .. | .standing _ | .accountRead _ => true
    | _ => false
  if reads h.op then
    match gateOf (viewOf h.op.block s) asRead with
    | .answer _ => none
    | _ => markOf h.op.target.1 h.op.target.2 h.who h.day s
  else none
where
  /-- The state after the read of a record whose check fails. -/
  markOf (sp : Space) (n : Nat) (who : Requester) (E : Nat) (s : State) : Option State :=
    let s1 := match sp with
      | .item => (fetchItem n who E s).1
      | .title => (fetchTitle n who E s).1
      | .patron => (fetchPatron n who E s).1
    if s1.store = s.store then none else some s1

/-- R179: the state after some of a grant's commit units, given the state after each. -/
def stageAt (units : Nat) (stages : List State) (s : State) : State :=
  match units with
  | 0 => s
  | n + 1 => (stages[n]?).getD (stages.getLastD s)

/-- R179: an operation's stages: its quarantine mark (a unit of its own), the operation, and what its
context then queues (R114: a reset may fall before the context has acted). -/
def opStages (h : HeldOp) (s : State) : List State :=
  (opMark h s).toList ++ [(applyOp h.op h.who h.day s).1, ownerGrant h s]

/-- R179: an application's stages: its quarantine mark and the application. -/
def entryStages (e : Entry) (day : Nat) (s : State) : List State :=
  let mark : Option State := match e.disp.target with
    | some t =>
      if e.dir = .inbound ∨ (viewOf (blockOf t.1 t.2) s = .home ∧ 2 ≤ freePlaces s) then
        opMark.markOf t.1 t.2 .line day s
      else none
    | none => none
  mark.toList ++ [applyEntry e.id day s]

/-- R168, R169: the stages of a unit's writing: the unit, and for the LAST frame the decision. -/
def writeStages (k : Nat) (s : State) : List State :=
  let first : List State := match s.hand, getSlot k s with
    | .receiving r, .processing _ f _ =>
      match f.body with
      | .stream _ _ (some _) (some u) =>
        if (streamMatch f s).isSome && !s.arb.stream.contains (.free r.b) then [writeUnit r u s]
        else []
      | _ => []
    | _, _ => []
  first ++ [streamWrite k s]

/-- R179: the state once `units` commit units of the grant now held are complete. Only what is nonvolatile
in it outlives the start reset. -/
def runUnits (units : Nat) (s : State) : State :=
  match s.arb.held with
  | none => s
  | some ⟨.kiosk _, _⟩ | some ⟨.line (.req _), _⟩ =>
    match heldOp s with
    | some h => stageAt units (opStages h s) s
    | none => s
  | some ⟨.line (.entry id), day⟩ =>
    match findEntry id s with
    | some e => stageAt units (entryStages e day s) s
    | none => s
  | some ⟨.sweep, day⟩ => (runBurst day (some units) s).1
  | some ⟨.stream .freeze, _⟩ => stageAt units [freeze s] s
  | some ⟨.stream .read, day⟩ => stageAt units [streamRead day s] s
  | some ⟨.stream (.write k), _⟩ => stageAt units (writeStages k s) s
  | some ⟨.stream (.free b), _⟩ =>
    if (viewOf b s).freesRecords then freeRecords b (min units Config.burst) s else s

end Sys2Proof.Machine
end

