-- ==== Sys2Proof/Machine/DispatchSteps.lean ====
section
/-! DEFINITION. The dispatch applications at their grant, one command per dispatch kind (R128). The rule of each kind is
in OwnerEngine.lean; its body is that of the entry whose work holds the grant. -/

namespace Sys2Proof.Machine

/-- CHARGE at its grant (R83). -/
def execCharge (s : State) : Outcome := dispatchStep .charge s

/-- CREDIT at its grant (R84). -/
def execCredit (s : State) : Outcome := dispatchStep .credit s

/-- LOAN_CLOSE at its grant (R85). -/
def execLoanClose (s : State) : Outcome := dispatchStep .loanClose s

/-- HOLD_ENDED at its grant (R85). -/
def execHoldEnded (s : State) : Outcome := dispatchStep .holdEnded s

/-- COPY_STATE at its grant (R45, R46). -/
def execCopyState (s : State) : Outcome := dispatchStep .copyState s

/-- COPY_FREE at its grant (R47). -/
def execCopyFree (s : State) : Outcome := dispatchStep .copyFree s

/-- HOLD_FILLED at its grant (R48). -/
def execHoldFilled (s : State) : Outcome := dispatchStep .holdFilled s

/-- PICKUP_LAPSED at its grant (R49). -/
def execPickupLapsed (s : State) : Outcome := dispatchStep .pickupLapsed s

/-- COPY_REMOVE at its grant (R50). -/
def execCopyRemove (s : State) : Outcome := dispatchStep .copyRemove s

/-- TRAP at its grant (R21). -/
def execTrap (s : State) : Outcome := dispatchStep .trap s

/-- UNTRAP at its grant (R22). -/
def execUntrap (s : State) : Outcome := dispatchStep .untrap s

/-- ALLOCATE at its grant (R24). -/
def execAllocate (s : State) : Outcome := dispatchStep .allocate s

/-- REDIRECT at its grant (R25). -/
def execRedirect (s : State) : Outcome := dispatchStep .redirect s

/-- RELEASE at its grant (R26). -/
def execRelease (s : State) : Outcome := dispatchStep .release s

end Sys2Proof.Machine
end

