-- ==== Sys2Proof/Machine/Startup.lean ====
section
/-! DEFINITION. The start reset, the store erase, the configuration unit and the join (R187, R197 to R202, R174). -/

namespace Sys2Proof.Machine

/-! ## The start reset (R199 and each chapter's state after a start reset) -/

/-- R120: a start reset makes every entry's phase QUEUED. -/
def requeue (q : DispatchQueue) : DispatchQueue :=
  { q with entries := q.entries.map fun e => { e with phase := .queued } }

/-- Every volatile state cleared; records, dispatch queue, views, serial, county day and format stamp kept
(R120, R153, R178, R52). The commands that wait and the count of free values are the model's own. -/
def clearVolatile (s : State) : State :=
  { State.reset with
    store := s.store
    day := { State.reset.day with county := s.day.county }
    queue := requeue s.queue
    map := { State.reset.map with views := s.map.views, serial := s.map.serial }
    free := s.free
    pending := s.pending }

/-! ## The store erase (R187) -/

/-- The views of an initial map piece, keyed from the first block of its space (Table 11-1). -/
def initialViews (base : Nat) (vs : List InitialView) : List (Nat × View) :=
  vs.zipIdx.filterMap fun p =>
    match p.1 with
    | .home => some (base + p.2, .home)
    | .foreign st => some (base + p.2, .foreign st)
    | .unknown => none

/-- The three initial map pieces as the view table (R187). -/
def initialMap (c : Configuration) : List (Nat × View) :=
  initialViews 0 (c.mapItem.getD []) ++ initialViews 256 (c.mapTitle.getD []) ++
    initialViews 512 (c.mapPatron.getD [])

/-- R187: the stages of a store erase, in order: the stamp cleared; the pools, the index, the marks and the
dispatch queue emptied; the initial map and the serial written; the start day written; the stamp written. -/
def eraseStage : Nat → State → State
  | 0, s => { s with store := { s.store with stamp := false } }
  | 1, s =>
    { s with
      store := { items := [], titles := [], patrons := [], stamp := s.store.stamp }
      queue := { s.queue with entries := [] } }
  | 2, s => { s with map := { s.map with views := initialMap s.conf, serial := 0 } }
  | 3, s => { s with day := { s.day with county := s.conf.startDay.getD 0 } }
  | 4, s => { s with store := { s.store with stamp := true } }
  | _, s => s

/-- The first stages of a store erase. -/
def eraseUpTo (n : Nat) (s : State) : State := (List.range (min n 5)).foldl (fun s k => eraseStage k s) s

/-- R187: the whole store erase. -/
def storeErase (s : State) : State := eraseUpTo 5 s

/-- R200, step 1: whether a join erases the store. -/
def joinErases (s : State) : Bool := s.conf.eraseFlag.getD false || !s.store.stamp

/-- R199, R179, R187: a start reset at its moment. Within a grant the complete commit units stand; within
the erase of a JOIN the complete stages stand. -/
def startReset (m : ResetMoment) (s : State) : State :=
  match m with
  | .quiet => clearVolatile s
  | .inGrant units => clearVolatile (runUnits units s)
  | .inErase stages =>
    if s.station = .configured ∧ joinErases s = true then clearVolatile (eraseUpTo stages s)
    else clearVolatile s

/-! ## Configuration pieces (R197, R198, Table 11-1) -/

/-- The pieces that hold nothing (R198). -/
def Configuration.empty (c : Configuration) : List PieceName :=
  let pieces : List (Bool × PieceName) :=
    [(c.stationNumber.isNone, .stationNumber),
     (c.lineRate.isNone, .lineRate),
     (c.calendar.isNone, .calendar),
     (c.classTable.isNone, .classTable),
     (c.categoryTable.isNone, .categoryTable),
     (c.holdLife.isNone, .holdLife),
     (c.pickupWindow.isNone, .pickupWindow),
     (c.startDay.isNone, .startDay),
     (c.mapItem.isNone, .mapItem),
     (c.mapTitle.isNone, .mapTitle),
     (c.mapPatron.isNone, .mapPatron),
     (c.eraseFlag.isNone, .eraseFlag)]
  pieces.filterMap fun p => if p.1 then some p.2 else none

/-- What a piece's check gives (R198): malformed; refused at a field; or taken, with the clamped mark. -/
inductive PieceCheck where
  | malformed
  | refused (f : BadField)
  | taken (c : Configuration) (clamped : Bool)

/-- R198: a value set to the nearest end of its range. -/
def clampTo (lo hi n : Nat) : Nat := max lo (min n hi)

/-- Table 11-1: the ranges of a class row. -/
def clampRow (r : ClassRow) : ClassRow :=
  { rate := clampTo 0 2000 r.rate
    grace := clampTo 0 7 r.grace
    cap := clampTo 0 50000 r.cap
    period := clampTo 1 120 r.period
    renewMax := clampTo 0 9 r.renewMax
    lostAfter := clampTo 7 365 r.lostAfter
    replacement := clampTo 0 50000 r.replacement }

/-- The first closed day that is not later than the day before it, by its place in the list. -/
def firstUnordered : Nat → List Nat → Option Nat
  | i, a :: b :: rest => if a < b then firstUnordered (i + 1) (b :: rest) else some (i + 1)
  | _, _ => none

/-- Table 12-8: a quantity code. -/
def quantityOf : Nat → Option Quantity
  | 0 => some .balance
  | 1 => some .loans
  | 2 => some .holds
  | _ => none

/-- Table 12-8: a relation code. -/
def relationOf : Nat → Option Relation
  | 0 => some .eq
  | 1 => some .ne
  | 2 => some .lt
  | 3 => some .le
  | 4 => some .gt
  | 5 => some .ge
  | _ => none

/-- A standing test as taken: its value clamped to 500,000. -/
def takeTest (t : RawTest) (q : Quantity) (r : Relation) : StandingTest :=
  { lend := t.purposes.testBit 0, renew := t.purposes.testBit 1, reserve := t.purposes.testBit 2,
    quantity := q, relation := r, value := clampTo 0 Config.balanceLimit t.value }

/-- The tests of a row, or the first field at fault. -/
def takeTests (row : Nat) : Nat → List RawTest → BadField ⊕ List StandingTest
  | _, [] => .inr []
  | i, t :: rest =>
    match quantityOf t.quantity, relationOf t.relation with
    | none, _ => .inl (.quantity row i)
    | _, none => .inl (.relation row i)
    | some q, some r =>
      match takeTests row (i + 1) rest with
      | .inl f => .inl f
      | .inr ts => .inr (takeTest t q r :: ts)

/-- The rows of a category table, or the first field at fault. -/
def takeRows : Nat → List (List RawTest) → BadField ⊕ List (List StandingTest)
  | _, [] => .inr []
  | i, r :: rest =>
    match takeTests i 0 r with
    | .inl f => .inl f
    | .inr ts =>
      match takeRows (i + 1) rest with
      | .inl f => .inl f
      | .inr rs => .inr (ts :: rs)

/-- Table 12-7: a view octet. -/
def viewOctet (n : Nat) : Option InitialView :=
  if n < 32 then some (.foreign n)
  else if n = 32 then some .home
  else if n = 33 then some .unknown
  else none

/-- The views of an initial map piece, or the first field at fault. -/
def takeViews : Nat → List Nat → BadField ⊕ List InitialView
  | _, [] => .inr []
  | i, n :: rest =>
    match viewOctet n with
    | none => .inl (.view i)
    | some v =>
      match takeViews (i + 1) rest with
      | .inl f => .inl f
      | .inr vs => .inr (v :: vs)

/-- Table 12-7: a line rate code. -/
def rateOf : Nat → Option LineRate
  | 0 => some .r125
  | 1 => some .r250
  | 2 => some .r500
  | 3 => some .r1000
  | _ => none

/-- Table 11-1, R198, R204: a piece checked whole against its row. A day above 65,535 cannot be encoded (the note of
Table 11-1); as an operand it makes the piece malformed, as R189 has it of a day outside 0 to 65,535. -/
def checkPiece (p : Piece) (c : Configuration) : PieceCheck :=
  match p with
  | .stationNumber n =>
    if n < 32 then .taken { c with stationNumber := some n } false else .refused .stationNumber
  | .lineRate n =>
    match rateOf n with
    | some r => .taken { c with lineRate := some r } false
    | none => .refused .lineRate
  | .calendar w m days =>
    if Config.closedDays < days.length ∨ days.any (fun d => decide (lastDay < d)) = true then .malformed
    else if 6 < w then .refused .weekday0
    else
      match firstUnordered 0 days with
      | some i => .refused (.closedDay i)
      | none => .taken { c with calendar := some ⟨w, m % 128, days⟩ } false
  | .classTable rows =>
    if rows.length ≠ 8 then .malformed
    else .taken { c with classTable := some (rows.map clampRow) } (rows.map clampRow != rows)
  | .categoryTable rows =>
    if rows.length ≠ 4 ∨ rows.any (fun r => decide (Config.testsPerRow < r.length)) = true then .malformed
    else
      match takeRows 0 rows with
      | .inl f => .refused f
      | .inr ts =>
        .taken { c with categoryTable := some ts }
          (rows.any fun r => r.any fun t => decide (Config.balanceLimit < t.value))
  | .holdLife n => .taken { c with holdLife := some (clampTo 1 365 n) } (clampTo 1 365 n != n)
  | .pickupWindow n => .taken { c with pickupWindow := some (clampTo 1 21 n) } (clampTo 1 21 n != n)
  | .startDay d => if lastDay < d then .malformed else .taken { c with startDay := some d } false
  | .initialMap sp vs =>
    if vs.length ≠ 256 then .malformed
    else
      match takeViews 0 vs with
      | .inl f => .refused f
      | .inr ws =>
        .taken
          (match sp with
           | .item => { c with mapItem := some ws }
           | .title => { c with mapTitle := some ws }
           | .patron => { c with mapPatron := some ws }) false
  | .eraseFlag m =>
    if m < 2 then .taken { c with eraseFlag := some (m == 1) } false else .malformed

/-- R199: UNCONFIGURED becomes CONFIGURED when the last empty piece is taken. -/
def takeConfiguration (c : Configuration) (s : State) : State :=
  { s with
    conf := c
    station :=
      if s.station = .unconfigured ∧ c.empty = [] then .configured else s.station }

/-! ## The join (R200, R174) -/

/-- R200, step 4: a FOREIGN view naming this station's own number is taken as UNKNOWN. -/
def dropOwnForeign (st : Nat) (views : List (Nat × View)) : List (Nat × View) :=
  views.filter fun p => p.2 != .foreign st

/-- R174, R201: what the pass makes of a view. -/
def passView : View → View
  | .home | .lending _ | .probing => .probing
  | .receiving g => .foreign g
  | .foreign st => .foreign st
  | .unknown => .unknown

/-- The keys of the blocks that hold records. -/
def heldKeys (s : State) : List Nat :=
  (s.store.items.map fun p => (blockOf .item p.1).key) ++
    (s.store.titles.map fun p => (blockOf .title p.1).key) ++
    (s.store.patrons.map fun p => (blockOf .patron p.1).key)

/-- R174: an UNKNOWN view of a block that holds stranded records becomes PROBING. -/
def probeStranded (views : List (Nat × View)) (k : Nat) : List (Nat × View) :=
  match tblGet views k with
  | none => tblSet views k .probing
  | some _ => views

/-- R174: the views after the pass. -/
def passViews (s : State) : List (Nat × View) :=
  (heldKeys s).foldl probeStranded
    ((dropOwnForeign (stationNo s) s.map.views).map fun p => (p.1, passView p.2))

/-- R174: INBOUND entries of the blocks that become PROBING are made OUTBOUND, with failure count 0. Every INBOUND
entry is of such a block in a state that a run reaches (R129, log entry 43). DESIGN CHOICE (log entry 43): one of
another block stays as it is. -/
def passEntry (views : List (Nat × View)) (e : Entry) : Entry :=
  match e.dir, e.disp.block with
  | .inbound, some b =>
    if tblGet views b.key = some .probing then
      { e with dir := .outbound, failures := 0, phase := .queued }
    else e
  | _, _ => e

/-- R174: the pass over the views and the dispatch queue. -/
def joinPass (s : State) : State :=
  let views := passViews s
  { s with
    map := { s.map with views := views }
    queue := { s.queue with entries := s.queue.entries.map (passEntry views) } }

/-- R155, R172, R174: the records left in blocks viewed FOREIGN are freed. The blocks ask for the store in the order of
item, title and patron blocks, each in rising block number. DESIGN CHOICE (log entry 46): they all ask at the join, and
no rule gives the order among them. -/
def freeForeign (s : State) : State :=
  s.map.views.foldl
    (fun s p =>
      match p.2 with
      | .foreign _ => freeStranded (blockOfKey p.1) s
      | _ => s) s

/-- R200, R201: the join, from CONFIGURED. -/
def join (s : State) : State :=
  let s1 := if joinErases s then storeErase s else s
  probeOn (freeForeign (joinPass { s1 with station := .joining }))

end Sys2Proof.Machine
end

