-- ==== Sys2Proof/Machine/KioskPort.lean ====
section
/-! DEFINITION. The kiosk port (chapter 10): the checks of a submitted request, the replies, the reads of answers and
notices, the status record and the masks; and the commands of the port's own exchanges. -/

namespace Sys2Proof.Machine

/-- What the port clocks out in the exchange that completes. -/
def replied (r : Reply) (s : State) : State := { s with port := { s.port with reply := some r } }

/-- An answer given by the port itself (R189). -/
def portAnswer (tag kind : Nat) (o : OutcomeCode) (why : Option Reason) (v : PortValues) (s : State) :
    State :=
  replied (.answer tag kind o why v) s

/-- R188: the port takes one exchange at a time; while a read is in progress no other begins. -/
def portFree (s : State) : Bool := s.port.exchange.isNone

/-! ## Requests that take a context (R189, R95, R92) -/

/-- R95, R189: the port's checks in their order, then a context is taken and `start` begins its first
step. `inRange` says that every argument is in its range. -/
def submit (tag kind : Nat) (f : Framing) (inRange : Bool) (q : Request) (start : Nat → State → State)
    (s : State) : Outcome :=
  if !portFree s then turnedAway s
  else if f = .misshapen ∨ inRange = false then
    finish (portAnswer tag kind .badRequest none .nothing s)
  else if s.station ≠ .online then finish (portAnswer tag kind .notOnline none .nothing s)
  else
    match freeCtx s with
    | none => finish (portAnswer tag kind .busy none .nothing s)
    | some c =>
      let s1 := takeCtx c tag q s
      finish (start c (replied (.taken c (((getCtx c s1).map Ctx.gen).getD 0)) s1))

/-! ## Local requests (R190) -/

/-- A local request: its check against a malformed record, and where `needsOnline`, against the station
state. -/
def submitLocal (tag kind : Nat) (f : Framing) (needsOnline : Bool) (done : State → State) (s : State) :
    Outcome :=
  if !portFree s then turnedAway s
  else if f = .misshapen then finish (portAnswer tag kind .badRequest none .nothing s)
  else if needsOnline ∧ s.station ≠ .online then
    finish (portAnswer tag kind .notOnline none .nothing s)
  else finish (done s)

/-- R196: the status record. -/
def statusOf (s : State) : StatusRecord :=
  { station := s.station
    number := s.conf.stationNumber
    contexts := s.ctxs.countP Ctx.live
    answers := s.port.answers.length
    notices := s.port.notices.length
    queueDepth := s.queue.entries.length
    day := s.day.county
    overflow := s.port.overflow
    locked := s.capture.captured.isSome }

/-- R196: the status record is returned and the overflow mark cleared. -/
def readStatus (s : State) : State :=
  let s1 := replied (.status (statusOf s)) s
  { s1 with port := { s1.port with overflow := false } }

/-- R53: ADVANCE_DAY in ONLINE. -/
def advanceDay (tag d : Nat) (s : State) : State :=
  if s.day.county < d then
    portAnswer tag 18 .done none (.day d) (queueDay (adoptDay d s))
  else portAnswer tag 18 .refused (some .staleDay) (.day s.day.county) s

/-- R186: FAULT_READ returns the capture, empties it and clears the further-faults mark. No rule names the outcome of
its answer: that it is DONE, also for an EMPTY capture, is the model's choice (DESIGN CHOICE, log entry 51). -/
def readFault (tag : Nat) (s : State) : State :=
  { portAnswer tag 20 .done none (.capture s.capture) s with
    capture := { captured := none, further := false } }

/-- R198: CONFIGURE, its record being whole. -/
def configure (tag : Nat) (p : Piece) (s : State) : State :=
  match checkPiece p s.conf with
  | .malformed => portAnswer tag 21 .badRequest none .nothing s
  | .refused f =>
    if s.station = .joining ∨ s.station = .online then
      portAnswer tag 21 .refused (some .wrongState) (.pieces s.conf.empty) s
    else portAnswer tag 21 .refused (some .badValue) (.badValue f s.conf.empty) s
  | .taken c clamped =>
    if s.station = .joining ∨ s.station = .online then
      portAnswer tag 21 .refused (some .wrongState) (.pieces s.conf.empty) s
    else portAnswer tag 21 .done none (.configured clamped c.empty) (takeConfiguration c s)

/-- R200: JOIN. The county day reported is the one held after an erase. -/
def submitJoin (tag : Nat) (s : State) : State :=
  match s.station with
  | .unconfigured => portAnswer tag 22 .refused (some .incomplete) (.pieces s.conf.empty) s
  | .joining | .online => portAnswer tag 22 .refused (some .wrongState) .nothing s
  | .configured =>
    let s1 := join s
    portAnswer tag 22 .done none (.joined (joinErases s) s1.day.county) s1

/-! ## Reads (R191, R193) -/

/-- R191: an answer is read: its number leaves the order and its context becomes FREE, its generation
kept. -/
def takeOutAnswer (c : Nat) (s : State) : State :=
  match getCtx c s with
  | some { gen := g, st := .answered a } =>
    let s1 := replied (.transaction c g a) (setCtx c { gen := g, st := .free } s)
    { s1 with port := { s1.port with answers := s1.port.answers.filter fun n => n != c } }
  | _ => s

/-- R191: a READ_ANSWER begins: the answer at the head of the order is held for it. -/
def beginAnswer (s : State) : State :=
  { s with port := { s.port with exchange := some (.answer s.port.answers.head?) } }

/-- R193: a READ_NOTICE begins: the notice at the head of the queue is held for it. -/
def beginNotice (s : State) : State :=
  { s with port := { s.port with exchange := some (.notice s.port.notices.head?) } }

/-- The exchange in progress ends. -/
def endExchange (s : State) : State := { s with port := { s.port with exchange := none } }

/-- R191: a READ_ANSWER completes. -/
def completeAnswer (held : Option Nat) (s : State) : State :=
  match held with
  | some c => takeOutAnswer c (endExchange s)
  | none => replied .none (endExchange s)

/-- R193: a READ_NOTICE completes: the held notice, still at the head, leaves the queue. -/
def completeNotice (held : Option Notice) (s : State) : State :=
  match held with
  | some n =>
    let s1 := replied (.notice n) (endExchange s)
    { s1 with port := { s1.port with notices := s1.port.notices.tail } }
  | none => replied .none (endExchange s)

/-! ## The commands of the port's exchanges -/

/-- START_RESET (R199, R179, R187). -/
def execStartReset (m : ResetMoment) (s : State) : Outcome := finish (startReset m s)

/-- UNKNOWN_COMMAND (R188); a request record of an unknown kind is answered BAD_REQUEST (R189). -/
def execUnknownCommand (u : UnknownOctet) (s : State) : Outcome :=
  if !portFree s then turnedAway s
  else
    match u with
    | .command _ => finish (replied .unknownCommand s)
    | .requestKind k tag => finish (portAnswer tag k .badRequest none .nothing s)

/-- EXCHANGE_CUT_SHORT (R188): the exchange has no effect; a read in progress ends. -/
def execExchangeCutShort (command : PortCommand) (s : State) : Outcome :=
  match s.port.exchange, command with
  | none, _ => finish s
  | some (.answer _), .readAnswer => finish (endExchange s)
  | some (.notice _), .readNotice => finish (endExchange s)
  | some _, _ => turnedAway s

/-- READ_ANSWER (R191). -/
def execReadAnswer (part : ReadPart) (s : State) : Outcome :=
  match part, s.port.exchange with
  | .begins, none => finish (beginAnswer s)
  | .completes, some (.answer held) => finish (completeAnswer held s)
  | .whole, none => finish (completeAnswer s.port.answers.head? s)
  | _, _ => turnedAway s

/-- READ_NOTICE (R193). -/
def execReadNotice (part : ReadPart) (s : State) : Outcome :=
  match part, s.port.exchange with
  | .begins, none => finish (beginNotice s)
  | .completes, some (.notice held) => finish (completeNotice held s)
  | .whole, none => finish (completeNotice s.port.notices.head? s)
  | _, _ => turnedAway s

/-- READ_STATUS (R196). -/
def execReadStatus (s : State) : Outcome :=
  if !portFree s then turnedAway s else finish (readStatus s)

/-- SET_MASKS (R194), only in ONLINE (R190). -/
def execSetMasks (masks : BitVec 8) (s : State) : Outcome :=
  if !portFree s then turnedAway s
  else if s.station ≠ .online then finish (replied .notOnline s)
  else
    let s1 := replied (.masks masks) s
    finish { s1 with port := { s1.port with masks := masks } }

end Sys2Proof.Machine
end

