-- ==== Sys2Proof/Machine/LineEvents.lean ====
section
/-! DEFINITION. The commands of the circulation line: contention, acceptance, commitment, CLEAR, the ends of frames, the
census window and freed places (chapter 7). -/

namespace Sys2Proof.Machine

/-- CONTENTION (R134, R135): `rivals` are the contention fields the other stations send. -/
def execContention (rivals : List Nat) (s : State) : Outcome :=
  match sendHead s.line.sendq with
  | some i => if mayContend i s then finish (contend i rivals s) else turnedAway s
  | none => turnedAway s

/-- R137: an event by which the hold line has fallen releases the refuse line, where this station drives it (log
entry 31). -/
def holdFell (s : State) : Outcome := if s.line.refuse then finish (releaseRefuse s) else turnedAway s

/-- FRAME_ACCEPTANCE (R136, R137): the octets read, and whether another taking station refuses. A frame that
begins while this station holds one is taken as CLEAR (R141). -/
def execFrameAcceptance (octets : List Octet) (refusedByOther : Bool) (s : State) : Outcome :=
  if !onLine s || s.line.turn.isSome || s.line.window.isSome then turnedAway s
  else if s.line.acc.isSome then finish (withdrawClear (dropAcceptance s))
  else if namesHere octets s then finish (acceptFrame octets refusedByOther s)
  else holdFell s

/-- FRAME_COMMIT (R139). A frame whose clear guard has expired here is committed no more (R142). After a refused frame
the hold line falls with nothing to commit, and the refuse line is released (R137). -/
def execFrameCommit (s : State) : Outcome :=
  match s.line.acc with
  | some a =>
    match a.slot with
    | some k => if s.line.sendq.any SendItem.isClear then turnedAway s else finish (commitFrame a k s)
    | none => turnedAway s
  | none => holdFell s

/-- CLEAR (R141): a CLEAR begins, whichever station it names. -/
def execClear (_station : Nat) (s : State) : Outcome :=
  match s.line.acc with
  | some _ => finish (withdrawClear (dropAcceptance s))
  | none => holdFell s

/-- HOLD_LIMIT (R140). -/
def execHoldLimit (s : State) : Outcome :=
  match s.line.turn, sending s with
  | some t, some i =>
    if t.clearing || i.isClear || s.line.window.isSome then turnedAway s
    else
      let s1 := pushClear (stationNo s) s
      finish { s1 with line := { s1.line with turn := some { t with clearing := true } } }
  | _, _ => turnedAway s

/-- CLEAR_GUARD (R142): the CLEAR names the station whose frame is cleared. -/
def execClearGuard (s : State) : Outcome :=
  match s.line.acc with
  | some a =>
    if s.line.sendq.any SendItem.isClear then turnedAway s
    else finish (pushClear a.frame.src s)
  | none => turnedAway s

/-- FRAME_DELIVERED (R138, R143). -/
def execFrameDelivered (s : State) : Outcome :=
  match sending s with
  | some i =>
    if clearing s || s.line.window.isSome then turnedAway s else finish (frameDelivered i s)
  | none => turnedAway s

/-- FRAME_UNDELIVERED (R143, R144): the result is cleared exactly when the hold limit has expired. -/
def execFrameUndelivered (result : SendResult) (s : State) : Outcome :=
  match sending s with
  | some i =>
    if i.isClear || s.line.window.isSome || (clearing s != (result == .cleared)) then turnedAway s
    else finish (frameUndelivered i result s)
  | none => turnedAway s

/-- SEND_PLACE_FREED (R133). -/
def execSendPlaceFreed (s : State) : Outcome := finish (walk (beginStream (offerPlaces s)))

/-- CENSUS_LANE (R149, R154). -/
def execCensusLane (s : State) : Outcome :=
  match s.line.window with
  | some w => if w.lane.isNone then finish (driveLane w s) else turnedAway s
  | none => turnedAway s

/-- CENSUS_WINDOW_END (R150, R175): `claims` are the lanes the other stations drove. -/
def execCensusWindowEnd (claims : List Claim) (s : State) : Outcome :=
  match s.line.window with
  | some w =>
    match w.lane with
    | some own => finish (windowEnds w own claims s)
    | none => turnedAway s
  | none => turnedAway s

/-- DISPATCH_PLACES_FREED (R121). -/
def execDispatchPlacesFreed (s : State) : Outcome := finish (dispatchPlacesFreed s)

end Sys2Proof.Machine
end

