-- ==== Sys2Proof/Machine/OwnerSteps.lean ====
section
/-! DEFINITION. The owner operations at their grant, one command per operation (Table 5-3). The operation's rule is in
OwnerEngine.lean; its arguments travel in the context or in the REQ whose work holds the grant. -/

namespace Sys2Proof.Machine

/-- ITEM_CREATE at its grant (R7). -/
def execItemCreate (s : State) : Outcome := ownerStep .itemCreate s

/-- ITEM_DELETE at its grant (R8). -/
def execItemDelete (s : State) : Outcome := ownerStep .itemDelete s

/-- LEND_ITEM at its grant (R9, R10). -/
def execLendItem (s : State) : Outcome := ownerStep .lendItem s

/-- EXTEND at its grant (R11, R12, R90). -/
def execExtend (s : State) : Outcome := ownerStep .extend s

/-- TAKE_RETURN at its grant (R13 to R19). -/
def execTakeReturn (s : State) : Outcome := ownerStep .takeReturn s

/-- ITEM_READ at its grant (R20). -/
def execItemRead (s : State) : Outcome := ownerStep .itemRead s

/-- TITLE_CREATE at its grant (R37). -/
def execTitleCreate (s : State) : Outcome := ownerStep .titleCreate s

/-- TITLE_DELETE at its grant (R38). -/
def execTitleDelete (s : State) : Outcome := ownerStep .titleDelete s

/-- COPY_ADD at its grant (R39). -/
def execCopyAdd (s : State) : Outcome := ownerStep .copyAdd s

/-- HOLD_ADD at its grant (R40, R41). -/
def execHoldAdd (s : State) : Outcome := ownerStep .holdAdd s

/-- HOLD_DROP at its grant (R42). -/
def execHoldDrop (s : State) : Outcome := ownerStep .holdDrop s

/-- TITLE_READ at its grant (R43). -/
def execTitleRead (s : State) : Outcome := ownerStep .titleRead s

/-- PATRON_CREATE at its grant (R71). -/
def execPatronCreate (s : State) : Outcome := ownerStep .patronCreate s

/-- PATRON_SET at its grant (R72). -/
def execPatronSet (s : State) : Outcome := ownerStep .patronSet s

/-- PATRON_DELETE at its grant (R73). -/
def execPatronDelete (s : State) : Outcome := ownerStep .patronDelete s

/-- STANDING at its grant (R76). -/
def execStanding (s : State) : Outcome := ownerStep .standing s

/-- LOAN_OPEN at its grant (R77). -/
def execLoanOpen (s : State) : Outcome := ownerStep .loanOpen s

/-- HOLD_OPEN at its grant (R78). -/
def execHoldOpen (s : State) : Outcome := ownerStep .holdOpen s

/-- PAY at its grant (R80). -/
def execPay (s : State) : Outcome := ownerStep .pay s

/-- ACCOUNT_READ at its grant (R81). -/
def execAccountRead (s : State) : Outcome := ownerStep .accountRead s

end Sys2Proof.Machine
end

