-- ==== Sys2Proof/WellFormed.lean ====
section
/-! DEFINITION. Which operands a command can carry: every field within the width Table 12-1 gives it.
A value within the width but outside the range a rule names (a category of 9) is well formed: the
port refuses it by R189. -/

namespace Sys2Proof

/-- A field of one octet. -/
def octetOk (n : Nat) : Bool := decide (n < 256)
/-- A field of two octets (Table 12-1: day, and the two-octet counts). -/
def pairOk (n : Nat) : Bool := decide (n < 65536)
/-- A field of three octets (Table 12-1: number, cents). -/
def tripleOk (n : Nat) : Bool := decide (n < numberLimit)
/-- A station number. -/
def stationOk (n : Nat) : Bool := decide (n < 32)

/-- An optional field, absent or within its width. -/
def optOk (p : Nat → Bool) (o : Option Nat) : Bool := (o.map p).getD true

/-- A block number is 0 to 255 (0.4). -/
def Block.ok (b : Block) : Bool := octetOk b.num

/-- The fields of a class row within their widths (Table 12-7). -/
def ClassRow.fits (r : ClassRow) : Bool :=
  pairOk r.rate && octetOk r.grace && pairOk r.cap && octetOk r.period && octetOk r.renewMax &&
    pairOk r.lostAfter && pairOk r.replacement

/-- The fields of a standing test within their widths (Table 12-7). -/
def RawTest.fits (t : RawTest) : Bool :=
  octetOk t.purposes && octetOk t.quantity && octetOk t.relation && tripleOk t.value

/-- The fields of a configuration piece within their widths (Table 12-7). A list's length is within
its count octet. -/
def Piece.fits : Piece → Bool
  | .stationNumber n => octetOk n
  | .lineRate c => octetOk c
  | .calendar w m ds => octetOk w && octetOk m && octetOk ds.length && ds.all pairOk
  | .classTable rows => rows.all ClassRow.fits
  | .categoryTable rows => rows.all fun r => octetOk r.length && r.all RawTest.fits
  | .holdLife n => pairOk n
  | .pickupWindow n => octetOk n
  | .startDay d => pairOk d
  | .initialMap _ vs => vs.all octetOk
  | .eraseFlag m => octetOk m

/-- The claims read in a window: each from a lane 0 to 31, no lane twice. -/
def claimsOk (cs : List Claim) : Bool :=
  cs.all (fun c => stationOk c.station) && decide (cs.map Claim.station).Nodup

/-- An octet that names none of the five commands (Table 12-5). -/
def UnknownOctet.ok : UnknownOctet → Bool
  | .command o => octetOk o && !(1 ≤ o && o ≤ 5)
  | .requestKind o tag => octetOk o && !(1 ≤ o && o ≤ 22) && octetOk tag

/-- Well-formedness of a command's operands. -/
def Instr.wellFormed : Instr → Bool
  | .unknownCommand u => u.ok
  | .lend tag _ p i | .renew tag _ p i => octetOk tag && tripleOk p && tripleOk i
  | .checkIn tag _ n | .account tag _ n | .itemStatus tag _ n | .withdrawItem tag _ n
  | .withdrawTitle tag _ n | .withdrawPatron tag _ n => octetOk tag && tripleOk n
  | .reserve tag _ p t k => octetOk tag && tripleOk p && tripleOk t && octetOk k
  | .cancel tag _ p t => octetOk tag && tripleOk p && tripleOk t
  | .payRequest tag _ p a => octetOk tag && tripleOk p && tripleOk a
  | .titleStatus tag _ t p => octetOk tag && tripleOk t && optOk tripleOk p
  | .enrolTitle tag _ t h => octetOk tag && tripleOk t && octetOk h
  | .enrolPatron tag _ p c e => octetOk tag && tripleOk p && octetOk c && pairOk e
  | .updatePatron tag _ p c e => octetOk tag && tripleOk p && optOk octetOk c && optOk pairOk e
  | .enrolItem tag _ i t c => octetOk tag && tripleOk i && tripleOk t && octetOk c
  | .handOver tag _ sp b t => octetOk tag && octetOk sp && octetOk b && octetOk t
  | .advanceDay tag _ d => octetOk tag && pairOk d
  | .status tag _ | .faultRead tag _ | .join tag _ => octetOk tag
  | .configure tag _ p => octetOk tag && p.fits
  | .contention rivals => rivals.all fun r => decide (r < 128)
  | .frameAcceptance octets _ => octets.all octetOk
  | .clear st => stationOk st
  | .answerLimit c | .deferralWait c => decide (c < 8)
  | .movedRequeueWait b => b.ok
  | .censusWindowEnd cs => claimsOk cs
  | .startReset _ | .exchangeCutShort _ | .readAnswer _ | .readNotice _ | .readStatus
  | .setMasks _ | .itemCreate | .itemDelete | .lendItem | .extend | .takeReturn | .itemRead
  | .titleCreate | .titleDelete | .copyAdd | .holdAdd | .holdDrop | .titleRead | .patronCreate
  | .patronSet | .patronDelete | .standing | .loanOpen | .holdOpen | .pay | .accountRead | .charge
  | .credit | .loanClose | .holdEnded | .copyState | .copyFree | .holdFilled | .pickupLapsed
  | .copyRemove | .trap | .untrap | .allocate | .redirect | .release | .sweepBurst | .dayFrame
  | .dayRequeueWait | .frameCommit | .holdLimit | .clearGuard | .frameDelivered
  | .frameUndelivered _ | .sendPlaceFreed | .reqProcessing | .ansProcessing | .lateAnsRetry
  | .movedFrame | .censusLane | .probeRetryWait | .retryTick | .dispatchPlacesFreed
  | .handoverFreeze | .drainLimit | .streamUnitRead | .decisionLimit | .blockQueryRetry
  | .lastDecision | .offer | .streamUnitWrite | .streamLast | .idleLimit
  | .confirmationCensusWait | .blockQuery | .recordFreeing => true

end Sys2Proof
end

