-- ==== Sys2Proof/Machine/Requests.lean ====
section
/-! DEFINITION. The commands that submit a request record: those of Table 5-2, which take a context, and the local
requests of Table 10-2. Kinds are those of Table 12-8. -/

namespace Sys2Proof.Machine

/-- LEND (Table 5-2). -/
def execLend (tag : Nat) (f : Framing) (patron item : Nat) (s : State) : Outcome :=
  submit tag 1 f true (.lend patron item) resolveStep s

/-- RENEW (Table 5-2). -/
def execRenew (tag : Nat) (f : Framing) (patron item : Nat) (s : State) : Outcome :=
  submit tag 2 f true (.renew patron item) resolveStep s

/-- CHECK_IN (Table 5-2). -/
def execCheckIn (tag : Nat) (f : Framing) (item : Nat) (s : State) : Outcome :=
  submit tag 3 f true (.checkIn item) resolveStep s

/-- RESERVE (Table 5-2); its pickup station is 0 to 31. -/
def execReserve (tag : Nat) (f : Framing) (patron title pickup : Nat) (s : State) : Outcome :=
  submit tag 4 f (decide (pickup < 32)) (.reserve patron title pickup) resolveStep s

/-- CANCEL (Table 5-2). -/
def execCancel (tag : Nat) (f : Framing) (patron title : Nat) (s : State) : Outcome :=
  submit tag 5 f true (.cancel patron title) resolveStep s

/-- The PAY request (Table 5-2); its amount is 0 to 500,000. -/
def execPayRequest (tag : Nat) (f : Framing) (patron amount : Nat) (s : State) : Outcome :=
  submit tag 6 f (decide (amount ≤ Config.balanceLimit)) (.pay patron amount) resolveStep s

/-- ACCOUNT (Table 5-2). -/
def execAccount (tag : Nat) (f : Framing) (patron : Nat) (s : State) : Outcome :=
  submit tag 7 f true (.account patron) resolveStep s

/-- ITEM_STATUS (Table 5-2). -/
def execItemStatus (tag : Nat) (f : Framing) (item : Nat) (s : State) : Outcome :=
  submit tag 8 f true (.itemStatus item) resolveStep s

/-- TITLE_STATUS (Table 5-2). -/
def execTitleStatus (tag : Nat) (f : Framing) (title : Nat) (patron : Option Nat) (s : State) :
    Outcome :=
  submit tag 9 f true (.titleStatus title patron) resolveStep s

/-- ENROL_TITLE (Table 5-2); its holdable mark is 0 or 1. -/
def execEnrolTitle (tag : Nat) (f : Framing) (title holdable : Nat) (s : State) : Outcome :=
  submit tag 10 f (decide (holdable < 2)) (.enrolTitle title (holdable == 1)) resolveStep s

/-- ENROL_PATRON (Table 5-2); its category is 0 to 3, and its card expiry day 0 to 65,535 (R189). -/
def execEnrolPatron (tag : Nat) (f : Framing) (patron category cardExpiry : Nat) (s : State) : Outcome :=
  submit tag 11 f (decide (category < 4) && decide (cardExpiry ≤ lastDay))
    (.enrolPatron patron category cardExpiry) resolveStep s

/-- UPDATE_PATRON (Table 5-2); it carries a category of 0 to 3, a card expiry day of 0 to 65,535, or both (R189). -/
def execUpdatePatron (tag : Nat) (f : Framing) (patron : Nat) (category cardExpiry : Option Nat)
    (s : State) : Outcome :=
  submit tag 12 f
    (optOk (fun c => decide (c < 4)) category && optOk (fun x => decide (x ≤ lastDay)) cardExpiry &&
      (category.isSome || cardExpiry.isSome))
    (.updatePatron patron category cardExpiry) resolveStep s

/-- ENROL_ITEM (Table 5-2); its class is 0 to 7. -/
def execEnrolItem (tag : Nat) (f : Framing) (item title cls : Nat) (s : State) : Outcome :=
  submit tag 13 f (decide (cls < 8)) (.enrolItem item title cls) resolveStep s

/-- WITHDRAW_ITEM (Table 5-2). -/
def execWithdrawItem (tag : Nat) (f : Framing) (item : Nat) (s : State) : Outcome :=
  submit tag 14 f true (.withdrawItem item) resolveStep s

/-- WITHDRAW_TITLE (Table 5-2). -/
def execWithdrawTitle (tag : Nat) (f : Framing) (title : Nat) (s : State) : Outcome :=
  submit tag 15 f true (.withdrawTitle title) resolveStep s

/-- WITHDRAW_PATRON (Table 5-2). -/
def execWithdrawPatron (tag : Nat) (f : Framing) (patron : Nat) (s : State) : Outcome :=
  submit tag 16 f true (.withdrawPatron patron) resolveStep s

/-- A space code (Table 12-1). -/
def spaceOf : Nat → Option Space
  | 0 => some .item
  | 1 => some .title
  | 2 => some .patron
  | _ => none

/-- HAND_OVER (R99, R160); a space other than the three, a station above 31 or this station as receiver is
malformed (R189). -/
def execHandOver (tag : Nat) (f : Framing) (space block receiver : Nat) (s : State) : Outcome :=
  let b : Block := ⟨(spaceOf space).getD .item, block⟩
  submit tag 17 f
    ((spaceOf space).isSome && decide (block < 256) && decide (receiver < 32) &&
      s.conf.stationNumber != some receiver)
    (.handOver b receiver) (fun c => startHandover c b receiver) s

/-- ADVANCE_DAY (R53); a day is 0 to 65,535. -/
def execAdvanceDay (tag : Nat) (f : Framing) (day : Nat) (s : State) : Outcome :=
  submitLocal tag 18 (if day ≤ lastDay then f else .misshapen) true (advanceDay tag day) s

/-- STATUS submitted as a record (R190, R196). -/
def execStatus (tag : Nat) (f : Framing) (s : State) : Outcome :=
  submitLocal tag 19 f false readStatus s

/-- FAULT_READ (R186). -/
def execFaultRead (tag : Nat) (f : Framing) (s : State) : Outcome :=
  submitLocal tag 20 f true (readFault tag) s

/-- CONFIGURE (R198). -/
def execConfigure (tag : Nat) (f : Framing) (piece : Piece) (s : State) : Outcome :=
  submitLocal tag 21 f false (configure tag piece) s

/-- JOIN (R200). -/
def execJoin (tag : Nat) (f : Framing) (s : State) : Outcome :=
  submitLocal tag 22 f false (submitJoin tag) s

end Sys2Proof.Machine
end

