-- ==== Sys2Proof/Machine/SlotEvents.lean ====
section
/-! DEFINITION. The commands that process the frame at the head of the receive slots (R145, R146): DAY, REQ, ANS, MOVED
and the frames of handover exchanges. -/

namespace Sys2Proof.Machine

/-- R54: a DAY frame's day is compared with the county day. -/
def takeDay (d : Nat) (s : State) : State :=
  if s.day.county < d then postNotice (.day d s.day.county) (adoptDay d s)
  else if d < s.day.county then queueDay s
  else withdrawDay d s

/-- DAY_FRAME (R54). -/
def execDayFrame (s : State) : Outcome :=
  match headSlot s with
  | some (k, _, f) =>
    match f.body with
    | .day d => finish (freeSlot k (takeDay d s))
    | _ => turnedAway s
  | none => turnedAway s

/-- REQ_PROCESSING (R147). -/
def execReqProcessing (s : State) : Outcome :=
  match headSlot s with
  | some (k, age, f) =>
    match f.body with
    | .req _ q => finish (processReq k age f q s)
    | _ => turnedAway s
  | none => turnedAway s

/-- ANS_PROCESSING (R111, R115): an ANS of a kiosk transaction. -/
def execAnsProcessing (s : State) : Outcome :=
  match headSlot s with
  | some (k, age, f) =>
    match f.body with
    | .ans a => if a.isExchange then turnedAway s else finish (processAns k age f a s)
    | _ => turnedAway s
  | none => turnedAway s

/-- LATE_ANS_RETRY (R115): an entry has been freed. The late ANS comes after the waiting local applications and a PAUSED
sweep (R121). -/
def execLateAnsRetry (s : State) : Outcome :=
  match waitingLate s with
  | some _ => finish (retryLate (lateRoom s) s)
  | none => turnedAway s

/-- MOVED_FRAME (R156). -/
def execMovedFrame (s : State) : Outcome :=
  match headSlot s with
  | some (k, _, f) =>
    match f.body with
    | .moved b st => finish (freeSlot k (takeMoved b st f.src s))
    | _ => turnedAway s
  | none => turnedAway s

/-- R164: an ANS of the handover exchange is taken by the handover engine. -/
def takeExchange (a : Ans) (s : State) : State :=
  match a.answer with
  | .exchange o b serial => takeDecision o b serial s
  | _ => s

/-- LAST_DECISION (R164). -/
def execLastDecision (s : State) : Outcome :=
  match headSlot s with
  | some (k, _, f) =>
    match f.body with
    | .ans a => if a.isExchange then finish (freeSlot k (takeExchange a s)) else turnedAway s
    | _ => turnedAway s
  | none => turnedAway s

/-- Whether a frame is an OFFER. -/
def Frame.isOffer (f : Frame) : Bool :=
  match f.body with
  | .req _ (.offer ..) => true
  | _ => false

/-- Whether a frame is a BLOCK_QUERY. -/
def Frame.isBlockQuery (f : Frame) : Bool :=
  match f.body with
  | .req _ (.blockQuery ..) => true
  | _ => false

/-- R167: the OFFER is checked and answered. -/
def answerOffer (k src : Nat) (r : CtxRef) (b : Block) (serial : Nat) (c : Counts) (s : State) : State :=
  let reply (a : StepAnswer) : Ans :=
    { ref := r, op := .offer, patron := 0, item := 0, title := 0, answer := a }
  match offerRefusal b c s with
  | some why => placeAns k src (reply (.refused why .nothing)) .handover s
  | none =>
    placeAns k src (reply (.done .nothing)) .handover (acceptOffer src b serial c s)

/-- OFFER (R167): a REQ in processing that offers a block. -/
def execOffer (s : State) : Outcome :=
  match processingSlot Frame.isOffer s with
  | some (k, _, f) =>
    match f.body with
    | .req r (.offer b serial c) => finish (answerOffer k f.src r b serial c s)
    | _ => turnedAway s
  | none => turnedAway s

/-- R171: a BLOCK_QUERY is answered from the view. -/
def answerQuery (k src : Nat) (r : CtxRef) (b : Block) (serial : Nat) (s : State) : State :=
  placeAns k src
    { ref := r, op := .blockQuery, patron := 0, item := 0, title := 0,
      answer := .exchange (queryAnswer (viewOf b s) src) b serial } .handover s

/-- BLOCK_QUERY (R171): a REQ in processing that asks for a block. -/
def execBlockQuery (s : State) : Outcome :=
  match processingSlot Frame.isBlockQuery s with
  | some (k, _, f) =>
    match f.body with
    | .req r (.blockQuery b serial) => finish (answerQuery k f.src r b serial s)
    | _ => turnedAway s
  | none => turnedAway s

end Sys2Proof.Machine
end

