-- ==== Sys2Proof/Machine/StoreSteps.lean ====
section
/-! DEFINITION. The sweep's and the stream's commands at their grant (Table 9-3). -/

namespace Sys2Proof.Machine

/-- SWEEP_BURST (R59, R60): one burst with the county day of its grant. -/
def execSweepBurst (s : State) : Outcome :=
  match s.arb.held with
  | some ⟨.sweep, day⟩ =>
    let x := runBurst day none s
    finish (endGrant (afterBurst x.2 x.1))
  | _ => turnedAway s

/-- HANDOVER_FREEZE (R161). -/
def execHandoverFreeze (s : State) : Outcome :=
  match heldStream s with
  | some (.freeze, _) => finish (endGrant (freeze s))
  | _ => turnedAway s

/-- STREAM_UNIT_READ (R162). -/
def execStreamUnitRead (s : State) : Outcome :=
  match heldStream s with
  | some (.read, day) => finish (endGrant (streamRead day s))
  | _ => turnedAway s

/-- STREAM_UNIT_WRITE (R168): a unit whose frame has no LAST mark. -/
def execStreamUnitWrite (s : State) : Outcome :=
  match heldStream s with
  | some (.write k, _) =>
    if lastAt k s then turnedAway s else finish (endGrant (streamWrite k s))
  | _ => turnedAway s

/-- STREAM_LAST (R169): the frame with the LAST mark. -/
def execStreamLast (s : State) : Outcome :=
  match heldStream s with
  | some (.write k, _) =>
    if lastAt k s then finish (endGrant (streamWrite k s)) else turnedAway s
  | _ => turnedAway s

/-- RECORD_FREEING (R155). -/
def execRecordFreeing (s : State) : Outcome :=
  match heldStream s with
  | some (.free b, _) => finish (endGrant (freeing b s))
  | _ => turnedAway s

end Sys2Proof.Machine
end

