-- ==== Sys2Proof/Machine/Timers.lean ====
section
/-! DEFINITION. The commands of the part's timers: each is the expiry of a timer that runs. -/

namespace Sys2Proof.Machine

/-- DAY_REQUEUE_WAIT (R55): the DAY frame is queued again with the county day. -/
def execDayRequeueWait (s : State) : Outcome :=
  if s.day.requeueWait then
    finish (queueDay (setRequeueWait false s))
  else turnedAway s

/-- ANSWER_LIMIT (R109): the context's step ends TIMED_OUT; an OFFER's ends the handover (R161). -/
def execAnswerLimit (ctx : Nat) (s : State) : Outcome :=
  match getRun ctx s with
  | some r =>
    if r.phase = .awaiting then
      match r.request with
      | .handOver .. => finish (endOffer .timedOut none s)
      | _ => finish (endTransaction ctx .timedOut none .nothing s)
    else turnedAway s
  | none => turnedAway s

/-- DEFERRAL_WAIT (R105). -/
def execDeferralWait (ctx : Nat) (s : State) : Outcome :=
  match getRun ctx s with
  | some r => if r.phase = .deferring then finish (resumeStep ctx s) else turnedAway s
  | none => turnedAway s

/-- R157: a refused or cleared announcement is queued again if the view still names its station, which only FOREIGN of
that station does: a view RECEIVING from it, the station having offered the block back within the 250 ms, is not taken
to name it as the owner, and the announcement is dropped. DESIGN CHOICE (log entry 45). -/
def requeueMoved (a : Announcement) (s : State) : State :=
  if viewOf a.b s = .foreign a.station then
    placeAnnouncement a.id a.b a.station (setAnnouncementWait a.id false s)
  else dropAnnouncement a.id s

/-- MOVED_REQUEUE_WAIT (R157): the oldest announcement of the block that waits. -/
def execMovedRequeueWait (b : Block) (s : State) : Outcome :=
  match s.map.moved.find? fun a => a.b == b && a.waiting with
  | some a => finish (requeueMoved a s)
  | none => turnedAway s

/-- PROBE_RETRY_WAIT (R175): the probe asks its census again. -/
def execProbeRetryWait (s : State) : Outcome :=
  match s.map.probe with
  | some p =>
    if p.waiting then
      finish (askCensus p.b .probe { s with map := { s.map with probe := some ⟨p.b, false⟩ } })
    else turnedAway s
  | none => turnedAway s

/-- RETRY_TICK (R126), while ONLINE. -/
def execRetryTick (s : State) : Outcome :=
  if s.station = .online then finish (retryTick s) else turnedAway s

/-- R160: the drain limit has expired: with INBOUND entries left the request is refused NOT_QUIET. With none left the
freeze is awaited, and an entry taken before its grant delays it with no limit running. DESIGN CHOICE (log entry 40):
the rule gives no further limit. A DISPATCH in acceptance is no INBOUND entry, and delays the freeze alike (log entry
43). A freeze of the refused handover that waits for the store, or holds it, asks no more: DESIGN CHOICE (log entry
52). -/
def drainEnds (g : Giving) (s : State) : State :=
  if inboundFor g.b s then
    withdrawFreeze (setHand .idle
      (endTransaction g.ctx .refused (some .notQuiet) (.refusedBy (stationNo s)) s))
  else setHand (.giving { g with phase := .draining false }) s

/-- DRAIN_LIMIT (R160). -/
def execDrainLimit (s : State) : Outcome :=
  match s.hand with
  | .giving g =>
    if g.phase = .draining true then finish (drainEnds g s) else turnedAway s
  | _ => turnedAway s

/-- DECISION_LIMIT (R164): the decision limit of DECIDING, or the limit of a delivered query. -/
def execDecisionLimit (s : State) : Outcome :=
  match s.hand with
  | .giving g =>
    match g.phase with
    | .deciding | .querying .awaiting => finish (sendQuery g s)
    | _ => turnedAway s
  | _ => turnedAway s

/-- BLOCK_QUERY_RETRY (R164). -/
def execBlockQueryRetry (s : State) : Outcome :=
  match s.hand with
  | .giving g =>
    match g.phase with
    | .querying .retryWait => finish (sendQuery g s)
    | _ => turnedAway s
  | _ => turnedAway s

/-- IDLE_LIMIT (R168, R172). -/
def execIdleLimit (s : State) : Outcome :=
  match s.hand with
  | .receiving r =>
    match r.phase with
    | .receiving => finish (discardBlock r s)
    | .confirming _ => turnedAway s
  | _ => turnedAway s

/-- CONFIRMATION_CENSUS_WAIT (R170). -/
def execConfirmationCensusWait (s : State) : Outcome :=
  match s.hand with
  | .receiving r =>
    match r.phase with
    | .confirming true =>
      finish (askCensus r.b .confirming (setHand (.receiving { r with phase := .confirming false }) s))
    | _ => turnedAway s
  | _ => turnedAway s

end Sys2Proof.Machine
end

