-- ==== Sys2Proof/Machine/Dispatch.lean ====
section
/-! DEFINITION. The meaning of every command: one arm per constructor of `Instr`, one meaning per arm. -/

namespace Sys2Proof.Machine

def exec (i : Instr) (s : State) : Host.Outcome State Fault Refusal :=
  match i with
  | .startReset moment => Sys2Proof.Machine.execStartReset moment s
  | .unknownCommand u => Sys2Proof.Machine.execUnknownCommand u s
  | .exchangeCutShort command => Sys2Proof.Machine.execExchangeCutShort command s
  | .readAnswer part => Sys2Proof.Machine.execReadAnswer part s
  | .readNotice part => Sys2Proof.Machine.execReadNotice part s
  | .readStatus => Sys2Proof.Machine.execReadStatus s
  | .setMasks masks => Sys2Proof.Machine.execSetMasks masks s
  | .lend tag f patron item => Sys2Proof.Machine.execLend tag f patron item s
  | .renew tag f patron item => Sys2Proof.Machine.execRenew tag f patron item s
  | .checkIn tag f item => Sys2Proof.Machine.execCheckIn tag f item s
  | .reserve tag f patron title pickup => Sys2Proof.Machine.execReserve tag f patron title pickup s
  | .cancel tag f patron title => Sys2Proof.Machine.execCancel tag f patron title s
  | .payRequest tag f patron amount => Sys2Proof.Machine.execPayRequest tag f patron amount s
  | .account tag f patron => Sys2Proof.Machine.execAccount tag f patron s
  | .itemStatus tag f item => Sys2Proof.Machine.execItemStatus tag f item s
  | .titleStatus tag f title patron => Sys2Proof.Machine.execTitleStatus tag f title patron s
  | .enrolTitle tag f title holdable => Sys2Proof.Machine.execEnrolTitle tag f title holdable s
  | .enrolPatron tag f patron category cardExpiry => Sys2Proof.Machine.execEnrolPatron tag f patron category cardExpiry s
  | .updatePatron tag f patron category cardExpiry => Sys2Proof.Machine.execUpdatePatron tag f patron category cardExpiry s
  | .enrolItem tag f item title cls => Sys2Proof.Machine.execEnrolItem tag f item title cls s
  | .withdrawItem tag f item => Sys2Proof.Machine.execWithdrawItem tag f item s
  | .withdrawTitle tag f title => Sys2Proof.Machine.execWithdrawTitle tag f title s
  | .withdrawPatron tag f patron => Sys2Proof.Machine.execWithdrawPatron tag f patron s
  | .handOver tag f space block receiver => Sys2Proof.Machine.execHandOver tag f space block receiver s
  | .advanceDay tag f day => Sys2Proof.Machine.execAdvanceDay tag f day s
  | .status tag f => Sys2Proof.Machine.execStatus tag f s
  | .faultRead tag f => Sys2Proof.Machine.execFaultRead tag f s
  | .configure tag f piece => Sys2Proof.Machine.execConfigure tag f piece s
  | .join tag f => Sys2Proof.Machine.execJoin tag f s
  | .itemCreate => Sys2Proof.Machine.execItemCreate s
  | .itemDelete => Sys2Proof.Machine.execItemDelete s
  | .lendItem => Sys2Proof.Machine.execLendItem s
  | .extend => Sys2Proof.Machine.execExtend s
  | .takeReturn => Sys2Proof.Machine.execTakeReturn s
  | .itemRead => Sys2Proof.Machine.execItemRead s
  | .titleCreate => Sys2Proof.Machine.execTitleCreate s
  | .titleDelete => Sys2Proof.Machine.execTitleDelete s
  | .copyAdd => Sys2Proof.Machine.execCopyAdd s
  | .holdAdd => Sys2Proof.Machine.execHoldAdd s
  | .holdDrop => Sys2Proof.Machine.execHoldDrop s
  | .titleRead => Sys2Proof.Machine.execTitleRead s
  | .patronCreate => Sys2Proof.Machine.execPatronCreate s
  | .patronSet => Sys2Proof.Machine.execPatronSet s
  | .patronDelete => Sys2Proof.Machine.execPatronDelete s
  | .standing => Sys2Proof.Machine.execStanding s
  | .loanOpen => Sys2Proof.Machine.execLoanOpen s
  | .holdOpen => Sys2Proof.Machine.execHoldOpen s
  | .pay => Sys2Proof.Machine.execPay s
  | .accountRead => Sys2Proof.Machine.execAccountRead s
  | .charge => Sys2Proof.Machine.execCharge s
  | .credit => Sys2Proof.Machine.execCredit s
  | .loanClose => Sys2Proof.Machine.execLoanClose s
  | .holdEnded => Sys2Proof.Machine.execHoldEnded s
  | .copyState => Sys2Proof.Machine.execCopyState s
  | .copyFree => Sys2Proof.Machine.execCopyFree s
  | .holdFilled => Sys2Proof.Machine.execHoldFilled s
  | .pickupLapsed => Sys2Proof.Machine.execPickupLapsed s
  | .copyRemove => Sys2Proof.Machine.execCopyRemove s
  | .trap => Sys2Proof.Machine.execTrap s
  | .untrap => Sys2Proof.Machine.execUntrap s
  | .allocate => Sys2Proof.Machine.execAllocate s
  | .redirect => Sys2Proof.Machine.execRedirect s
  | .release => Sys2Proof.Machine.execRelease s
  | .sweepBurst => Sys2Proof.Machine.execSweepBurst s
  | .dayFrame => Sys2Proof.Machine.execDayFrame s
  | .dayRequeueWait => Sys2Proof.Machine.execDayRequeueWait s
  | .contention rivals => Sys2Proof.Machine.execContention rivals s
  | .frameAcceptance octets refusedByOther => Sys2Proof.Machine.execFrameAcceptance octets refusedByOther s
  | .frameCommit => Sys2Proof.Machine.execFrameCommit s
  | .clear station => Sys2Proof.Machine.execClear station s
  | .holdLimit => Sys2Proof.Machine.execHoldLimit s
  | .clearGuard => Sys2Proof.Machine.execClearGuard s
  | .frameDelivered => Sys2Proof.Machine.execFrameDelivered s
  | .frameUndelivered result => Sys2Proof.Machine.execFrameUndelivered result s
  | .sendPlaceFreed => Sys2Proof.Machine.execSendPlaceFreed s
  | .reqProcessing => Sys2Proof.Machine.execReqProcessing s
  | .ansProcessing => Sys2Proof.Machine.execAnsProcessing s
  | .lateAnsRetry => Sys2Proof.Machine.execLateAnsRetry s
  | .answerLimit ctx => Sys2Proof.Machine.execAnswerLimit ctx s
  | .deferralWait ctx => Sys2Proof.Machine.execDeferralWait ctx s
  | .movedFrame => Sys2Proof.Machine.execMovedFrame s
  | .movedRequeueWait b => Sys2Proof.Machine.execMovedRequeueWait b s
  | .censusLane => Sys2Proof.Machine.execCensusLane s
  | .censusWindowEnd claims => Sys2Proof.Machine.execCensusWindowEnd claims s
  | .probeRetryWait => Sys2Proof.Machine.execProbeRetryWait s
  | .retryTick => Sys2Proof.Machine.execRetryTick s
  | .dispatchPlacesFreed => Sys2Proof.Machine.execDispatchPlacesFreed s
  | .handoverFreeze => Sys2Proof.Machine.execHandoverFreeze s
  | .drainLimit => Sys2Proof.Machine.execDrainLimit s
  | .streamUnitRead => Sys2Proof.Machine.execStreamUnitRead s
  | .decisionLimit => Sys2Proof.Machine.execDecisionLimit s
  | .blockQueryRetry => Sys2Proof.Machine.execBlockQueryRetry s
  | .lastDecision => Sys2Proof.Machine.execLastDecision s
  | .offer => Sys2Proof.Machine.execOffer s
  | .streamUnitWrite => Sys2Proof.Machine.execStreamUnitWrite s
  | .streamLast => Sys2Proof.Machine.execStreamLast s
  | .idleLimit => Sys2Proof.Machine.execIdleLimit s
  | .confirmationCensusWait => Sys2Proof.Machine.execConfirmationCensusWait s
  | .blockQuery => Sys2Proof.Machine.execBlockQuery s
  | .recordFreeing => Sys2Proof.Machine.execRecordFreeing s

end Sys2Proof.Machine
end

