-- ==== Sys2Proof/Machine/CheckWords.lean ====
section
/-! DEFINITION. The check words of the record store (R180): the fields each part's word covers, the word computed over
them, and the word stored. The function is a free value (log entry 2). The quarantine mark is covered by no word: it is
not one of the record's contents (R181), and a record whose mark is set is not checked. -/

namespace Sys2Proof.Machine

/-- An optional field as it is covered: whether it is present, and its value. -/
def covered : Option Nat → List Nat
  | some n => [1, n]
  | none => [0]

/-- A mark as it is covered. -/
def coveredMark (b : Bool) : Nat := if b then 1 else 0

/-- A hold target as it is covered. -/
def HoldTarget.covered (t : HoldTarget) : List Nat := [t.patron, t.pickup]

/-- The state of an item with the fields present in it (Table 1-1). -/
def ItemState.covered : ItemState → List Nat
  | .onShelf => [0]
  | .onLoan b due ren tr => [1, b, due, ren, coveredMark tr]
  | .awaitRoute => [2]
  | .pull t => 3 :: t.covered
  | .inTransit (some t) d => [4, 1] ++ t.covered ++ [d]
  | .inTransit none d => [4, 0, d]
  | .held t ready by_ lapsed => 5 :: t.covered ++ [ready, by_, coveredMark lapsed]
  | .lost b due fine replacement => [6, b, due, fine, replacement]

/-- R180: what an item record's check word covers: its place in the index (its space and number) and every stored
field. -/
def Item.covered (n : Nat) (r : Item) : List Nat :=
  [Space.item.code, n, r.title, r.cls, r.shelf] ++ r.state.covered ++ [r.at_, r.currentTo]

/-- R180: what a patron record's check word covers. -/
def Patron.covered (n : Nat) (p : Patron) : List Nat :=
  [Space.patron.code, n, p.category, p.cardExpiry, p.balance, coveredMark p.saturated, p.loans, p.holds]

/-- R180: what a title header's check word covers. -/
def Title.headerCovered (n : Nat) (t : Title) : List Nat :=
  [Space.title.code, n, coveredMark t.holdable, t.currentTo]

/-- The view state of a copy reference with the fields present in it (Table 2-2). -/
def CopyView.covered : CopyView → List Nat
  | .shelf => [0]
  | .loan due tr => [1, due, coveredMark tr]
  | .away p => 2 :: Machine.covered p
  | .lost => [3]

/-- R180: what a copy reference's check word covers: the title it belongs to, its position in the title's list, and
every stored field. -/
def CopyRef.covered (title position : Nat) (c : CopyRef) : List Nat :=
  [title, position, c.item] ++ c.view.covered

/-- R180: what a hold entry's check word covers: the title it belongs to, its position in the title's queue, and every
stored field. -/
def HoldEntry.covered (title position : Nat) (h : HoldEntry) : List Nat :=
  [title, position, h.patron, h.pickup, h.placed, h.expiry] ++ Machine.covered h.item

/-- The word stored with a part that the function covers so (R180): a marker has none (R168). -/
def CheckWord.storedWord (coverage : List Nat) : CheckWord → Option (BitVec 16)
  | .off d => some (Config.checkWord coverage ^^^ d)
  | .absent => none

/-- R180: the check of a part: the stored word is the word computed over what it covers now. -/
def wordAgrees (coverage : List Nat) (c : CheckWord) : Prop :=
  c.storedWord coverage = some (Config.checkWord coverage)

/-- R180: the check of an item record. -/
def Item.wordAgrees (n : Nat) (r : Item) : Prop := Machine.wordAgrees (r.covered n) r.check

/-- R180: the check of a patron record. -/
def Patron.wordAgrees (n : Nat) (p : Patron) : Prop := Machine.wordAgrees (p.covered n) p.check

/-- R180: the check of a title, whole: its header, every copy reference and every hold entry, each in its place. -/
def Title.wordsAgree (n : Nat) (t : Title) : Prop :=
  Machine.wordAgrees (t.headerCovered n) t.check ∧
    (∀ (k : Nat) (c : CopyRef), t.copies[k]? = some c → Machine.wordAgrees (c.covered n k) c.check) ∧
    (∀ (k : Nat) (h : HoldEntry), t.holds[k]? = some h → Machine.wordAgrees (h.covered n k) h.check)

end Sys2Proof.Machine
end

