-- ==== Sys2Proof/Safety.lean ====
section
/-! DEFINITION. What counts as a well-kept state of the part, in the terms the statements use. -/

namespace Sys2Proof.Machine

/-- The record tables and the view table are in their canonical form: keys strictly rising, and no listed view is
UNKNOWN (R178, R153). -/
abbrev State.tablesOk (s : State) : Prop :=
  tblRising s.store.items = true ∧ tblRising s.store.titles = true ∧
    tblRising s.store.patrons = true ∧ tblRising s.map.views = true ∧
    (s.map.views.all fun p => p.2 != .unknown) = true

/-- The attention output follows its three conditions (R195). -/
abbrev State.attentionOk (s : State) : Prop := s.port.attention = s.port.wantsAttention

/-- A title is balanced: no SHELF copy while an entry waits (R33), and as many trapped loans as R34 gives. -/
def Title.balanced (t : Title) : Prop :=
  (t.oldestWaiting = none ∨ t.shelfCopy = none) ∧ t.trapped = t.trapTarget

/-- The part holds 8 contexts (R91) and 2 receive slots (R145), at most 32 notices (R192) and at most 16 census places
(R158). -/
abbrev State.boundsOk (s : State) : Prop :=
  s.ctxs.length = Config.contexts ∧ s.line.slots.length = 2 ∧
    s.port.notices.length ≤ Config.notices ∧ s.map.census.length ≤ Config.censusPlaces

/-- The destination an entry's frame is in flight to. -/
def Entry.flight (e : Entry) : Option Nat :=
  match e.phase with
  | .inFlight st => some st
  | _ => none

/-- The dispatch queue is well kept: its entries have distinct names, all of them used, and at most one DISPATCH frame
is in flight to each destination (R124). -/
def DispatchQueue.ok (q : DispatchQueue) : Prop :=
  (q.entries.map Entry.id).Nodup ∧ (∀ e ∈ q.entries, e.id < q.nextId) ∧
    (q.entries.filterMap Entry.flight).Nodup

/-- An entry's work waits for the store or holds the grant (R182). -/
def State.asksStore (s : State) (id : Nat) : Prop :=
  .entry id ∈ s.arb.line ∨ ∃ E, s.arb.held = some ⟨.line (.entry id), E⟩

/-- The other blocks hold the entries of the dispatch queue as the dispatch engine left them: a DISPATCH frame queued
for an entry is that of an OUTBOUND one (R125), and an INBOUND entry that has asked for the store keeps its 2 places
(R127). -/
structure State.EntriesKept (s : State) : Prop where
  sent : ∀ i ∈ s.line.sendq, ∀ id, i.owner = .entry id →
    id < s.queue.nextId ∧ ∀ e ∈ s.queue.entries, e.id = id → e.dir = .outbound
  asked : ∀ e ∈ s.queue.entries, e.dir = .inbound → s.asksStore e.id → e.phase = .applying

/-- The dispatch queue holds its capacity: entries and reservations are at most 96, and a DISPATCH frame held here has
its 3 places (R121, R127). -/
structure State.RoomKept (s : State) : Prop where
  room : s.queue.entries.length + reservations s ≤ 96
  held : ∀ a, s.line.acc = some a → a.frame.isDispatch = true → a.room = true

/-- The handover engine, the views and the dispatches taken agree, and a station off the line is as a start reset leaves
it. -/
structure State.HandoverKept (s : State) : Prop where
  /-- an INBOUND entry is of a block viewed HOME (R129) -/
  inbound : ∀ e ∈ s.queue.entries, e.dir = .inbound → ∀ b, e.disp.block = some b → viewOf b s = .home
  /-- so is the DISPATCH in acceptance (R127) -/
  accepted : ∀ a d b, s.line.acc = some a → a.frame.body = .dispatch d → d.block = some b → viewOf b s = .home
  /-- a giver views its block HOME while it drains, and LENDING to the receiver from the freeze to the decision (R160,
  R161, R165, R166) -/
  giving : ∀ g, s.hand = .giving g →
    (∀ l, g.phase = .draining l → viewOf g.b s = .home) ∧
    ((∀ l, g.phase ≠ .draining l) → g.phase ≠ .freeing → viewOf g.b s = .lending g.receiver)
  /-- a receiver views its block RECEIVING from the giver, and HOME once it has taken it (R167, R169) -/
  receiving : ∀ r, s.hand = .receiving r →
    (r.phase = .receiving → viewOf r.b s = .receiving r.giver) ∧ (r.phase ≠ .receiving → viewOf r.b s = .home)
  /-- off the line every volatile state is as a start reset leaves it (R120, R199) -/
  offLine : s.station ≠ .joining → s.station ≠ .online →
    s.ctxs = Ctx.atReset ∧ s.line = LineEngine.atReset ∧ s.arb = Arbiter.atReset ∧ s.hand = .idle ∧
      s.day = (clearVolatile s).day ∧ s.map = (clearVolatile s).map ∧ s.queue = (clearVolatile s).queue

/-- A title as its rules leave it: balanced, no two copies of an item (R28) and no two entries of a patron (R29). -/
structure Title.Settled (t : Title) : Prop where
  balanced : t.balanced
  items : (t.copies.map CopyRef.item).Nodup
  patrons : (t.holds.map HoldEntry.patron).Nodup

/-- Every title without the quarantine mark whose block is viewed HOME is as its rules leave it. -/
def State.homeSettled (s : State) : Prop :=
  ∀ n x, getTitle n s = some x → x.quarantined = false → viewOf (blockOf .title n) s = .home → x.Settled

/-- The send queue and the slots are well kept (R132, R133, R140, R142, R147). -/
structure LineEngine.Kept (l : LineEngine) : Prop where
  /-- the frames have distinct names, all of them used -/
  ids : (l.sendq.map SendItem.id).Nodup ∧ ∀ i ∈ l.sendq, i.id < l.nextId
  /-- the day unit queues DAY frames -/
  days : ∀ i ∈ l.sendq, i.owner = .dayUnit → ∃ d, i.frame.body = .day d
  /-- frames other than CLEAR and the places kept for an ANS leave the last of the 24 places -/
  places : (l.sendq.filter fun i => !i.isClear).length + (l.slots.filter Slot.keepsAnsPlace).length ≤ 23
  /-- frames other than ANS and CLEAR keep to their share -/
  share : (l.sendq.filter fun i => !i.isClear && !i.isAns).length ≤ 20
  /-- at most one CLEAR is queued -/
  clears : (l.sendq.filter SendItem.isClear).length ≤ 1
  /-- a queued CLEAR is that of the frame held here, of this station's turn, or the frame being sent -/
  clearing : ∀ i ∈ l.sendq, i.isClear = true →
    l.acc.isSome = true ∨ ∃ t, l.turn = some t ∧ (t.clearing = true ∨ t.id = i.id)
  /-- a station that sends holds no frame -/
  turn : l.turn.isSome = true → l.acc = none
  /-- the hold limit has not expired while the window of this station's CENSUS runs -/
  window : ∀ w t, l.window = some w → w.sender = true → l.turn = some t → t.clearing = false
  /-- a REQ and a LAST frame in processing keep a place for their ANS -/
  answers : ∀ age f p, .processing age f p ∈ l.slots →
    ((∃ r q, f.body = .req r q) ∨ ∃ b n k u, f.body = .stream b n (some k) u) → p = true

/-- The values of a class row lie in the ranges of Table 11-1. -/
def ClassRow.inRange (r : ClassRow) : Bool :=
  decide (r.rate ≤ 2000) && decide (r.grace ≤ 7) && decide (r.cap ≤ 50000) &&
    decide (1 ≤ r.period) && decide (r.period ≤ 120) && decide (r.renewMax ≤ 9) &&
    decide (7 ≤ r.lostAfter) && decide (r.lostAfter ≤ 365) && decide (r.replacement ≤ 50000)

/-- A standing test as a category row takes it (Table 11-1, Table 12-7, Table 12-8): its codes lie in their tables, and
its value is clamped to 500,000. -/
def testTakenAs (x : RawTest) (y : StandingTest) : Prop :=
  [Quantity.balance, .loans, .holds][x.quantity]? = some y.quantity ∧
    [Relation.eq, .ne, .lt, .le, .gt, .ge][x.relation]? = some y.relation ∧
    y.value = min x.value 500000 ∧ y.lend = x.purposes.testBit 0 ∧ y.renew = x.purposes.testBit 1 ∧
    y.reserve = x.purposes.testBit 2

/-- A calendar as Table 11-1 allows it: at most 64 closed days, in rising order, each a day. -/
def Calendar.inRange (c : Calendar) : Bool :=
  decide (c.weekday0 ≤ 6) && decide (c.closedMask < 128) && decide (c.closedDays.length ≤ 64) &&
    decide (c.closedDays.Pairwise (· < ·)) && c.closedDays.all fun d => decide (d ≤ 65535)

/-- An initial map as Table 11-1 allows it: 256 views, a FOREIGN one naming a station 0 to 31. -/
def mapInRange (vs : List InitialView) : Bool :=
  decide (vs.length = 256) && vs.all fun v =>
    match v with
    | .foreign st => decide (st ≤ 31)
    | _ => true

/-- A category row as Table 11-1 allows it: at most 4 tests, their values at most 500,000. -/
def testsInRange (ts : List StandingTest) : Bool :=
  decide (ts.length ≤ 4) && ts.all fun t => decide (t.value ≤ Config.balanceLimit)

/-- Every piece the configuration record holds lies in the range its row of Table 11-1 gives (R198). -/
def Configuration.inRange (c : Configuration) : Bool :=
  c.stationNumber.all (fun n => decide (n < 32)) && c.calendar.all Calendar.inRange &&
    c.classTable.all (fun rows => decide (rows.length = 8) && rows.all ClassRow.inRange) &&
    c.categoryTable.all (fun rows => decide (rows.length = 4) && rows.all testsInRange) &&
    c.holdLife.all (fun n => decide (1 ≤ n) && decide (n ≤ 365)) &&
    c.pickupWindow.all (fun n => decide (1 ≤ n) && decide (n ≤ 21)) &&
    c.startDay.all (fun d => decide (d ≤ 65535)) &&
    c.mapItem.all mapInRange && c.mapTitle.all mapInRange && c.mapPatron.all mapInRange

/-! ## Grants -/

/-- The part after the grant of an owner operation that leaves the state `u` and the answer `a`: the answer is delivered
and the grant ends (R101, R147, R183). -/
def afterAnswer (a : StepAnswer) (u : State) : State :=
  refreshAttention (endGrant (deliverAnswer a u))

/-- The part after the grant of an entry's application that leaves the state `u`: a draining giver looks again at its
INBOUND entries (R160), and the grant ends. -/
def afterApplication (e : Entry) (u : State) : State :=
  refreshAttention (endGrant (if e.dir = .inbound then askFreeze u else u))

/-- An owner operation holds the grant, and passes the checks of the view and of the room (R3, R30, R69). -/
abbrev granted (o : OwnerOp) (who : Requester) (E : Nat) (s : State) : Prop :=
  heldOp s = some ⟨o, who, E⟩ ∧ viewOf o.block s = .home ∧ 3 ≤ freePlaces s

/-- The command of an owner operation's row. -/
def OwnerOp.row : OwnerOp → Instr
  | .itemCreate .. => .itemCreate
  | .itemDelete _ => .itemDelete
  | .lendItem .. => .lendItem
  | .extend .. => .extend
  | .takeReturn .. => .takeReturn
  | .itemRead _ => .itemRead
  | .titleCreate .. => .titleCreate
  | .titleDelete _ => .titleDelete
  | .copyAdd .. => .copyAdd
  | .holdAdd .. => .holdAdd
  | .holdDrop .. => .holdDrop
  | .titleRead .. => .titleRead
  | .patronCreate .. => .patronCreate
  | .patronSet .. => .patronSet
  | .patronDelete _ => .patronDelete
  | .standing _ => .standing
  | .loanOpen _ => .loanOpen
  | .holdOpen _ => .holdOpen
  | .pay .. => .pay
  | .accountRead _ => .accountRead

/-- The operations a LENDING block serves (R3, R30, R69). -/
def OwnerOp.isRead : OwnerOp → Bool
  | .itemRead _ | .titleRead .. | .standing _ | .accountRead _ => true
  | _ => false

/-- The operations that make a record. -/
def OwnerOp.isCreate : OwnerOp → Bool
  | .itemCreate .. | .titleCreate .. | .patronCreate .. => true
  | _ => false

/-- The operations that remove a record. -/
def OwnerOp.isDelete : OwnerOp → Bool
  | .itemDelete _ | .titleDelete _ | .patronDelete _ => true
  | _ => false

/-- The quarantine mark of the record an operation is about, and nothing without a record. -/
def OwnerOp.mark (o : OwnerOp) (s : State) : Option Bool :=
  match o.target.1 with
  | .item => (getItem o.target.2 s).map Item.quarantined
  | .title => (getTitle o.target.2 s).map Title.quarantined
  | .patron => (getPatron o.target.2 s).map Patron.quarantined

/-- Every check word of the record an operation is about agrees (R180). -/
def OwnerOp.passesCheck (o : OwnerOp) (s : State) : Bool :=
  match o.target.1 with
  | .item => ((getItem o.target.2 s).map fun r => r.check == .agrees).getD false
  | .title => ((getTitle o.target.2 s).map Title.checks).getD false
  | .patron => ((getPatron o.target.2 s).map fun p => p.check == .agrees).getD false

/-- A dispatch entry holds the grant and is applied (R128). -/
abbrev applied (e : Entry) (E : Nat) (s : State) : Prop :=
  heldEntry s = some (e, E) ∧
    (e.dir = .inbound ∨
      (∃ b, e.disp.block = some b ∧ viewOf b s = .home) ∧ 2 ≤ freePlaces s)

/-- An item record that is whole and current to the day. -/
abbrev itemAt (n : Nat) (r : Item) (E : Nat) (s : State) : Prop :=
  getItem n s = some r ∧ r.quarantined = false ∧ r.check = .agrees ∧ r.currentTo = E

/-- A title is what the sweep leaves of it at a day, with the dispatches of the removals: it is passed over or the sweep
stops at it, its current-to day is written once no expired entry waits, or its first expired WAITING entry is removed
and the title settled (R63, R60). -/
inductive Title.SweptTo (E n : Nat) : Title → List Dispatch → Title → Prop
  /-- as it stands -/
  | stays (t : Title) : SweptTo E n t [] t
  /-- current to the day -/
  | current (t : Title) : t.expired E = none → SweptTo E n t [] { t with currentTo := E }
  /-- with an entry removed -/
  | removes (t u : Title) (h : HoldEntry) (ds : List Dispatch) : t.expired E = some h →
      SweptTo E n (settle n (t.dropEntry h.patron)).1 ds u →
      SweptTo E n t (.holdEnded h.patron n .expired :: ((settle n (t.dropEntry h.patron)).2 ++ ds)) u

/-- The rows of the dispatch kinds, each with its kind (Table 12-8). -/
def dispatchRows : List (Instr × DispatchKind) :=
  [(.charge, .charge), (.credit, .credit), (.loanClose, .loanClose), (.holdEnded, .holdEnded),
    (.copyState, .copyState), (.copyFree, .copyFree), (.holdFilled, .holdFilled),
    (.pickupLapsed, .pickupLapsed), (.copyRemove, .copyRemove), (.trap, .trap), (.untrap, .untrap),
    (.allocate, .allocate), (.redirect, .redirect), (.release, .release)]

/-- The quarantine mark of a record set, its fields and check words as stored (R181). -/
def markItem (n : Nat) (r : Item) (s : State) : State :=
  { s with store := { s.store with items := tblSet s.store.items n { r with quarantined := true } } }

/-- The quarantine mark of a title set (R181). -/
def markTitle (n : Nat) (t : Title) (s : State) : State :=
  { s with store := { s.store with titles := tblSet s.store.titles n { t with quarantined := true } } }

/-- The quarantine mark of a patron record set (R181). -/
def markPatron (n : Nat) (p : Patron) (s : State) : State :=
  { s with store := { s.store with patrons := tblSet s.store.patrons n { p with quarantined := true } } }

/-- The quarantine mark set on a record of a state whose check fails, and nothing else (R181). -/
def State.MarkedAt (sp : Space) (n : Nat) (s u : State) : Prop :=
  match sp with
  | .item => ∃ r, getItem n s = some r ∧ r.quarantined = false ∧ r.check ≠ .agrees ∧ u = markItem n r s
  | .title => ∃ x, getTitle n s = some x ∧ x.quarantined = false ∧ x.checks = false ∧ u = markTitle n x s
  | .patron => ∃ p, getPatron n s = some p ∧ p.quarantined = false ∧ p.check ≠ .agrees ∧ u = markPatron n p s

/-- A record comes before another in the walk of the sweep: items before titles, each in rising number (R59). -/
def sweptBefore (a b : Space × Nat) : Prop := (a.1 = .item ∧ b.1 = .title) ∨ (a.1 = b.1 ∧ a.2 < b.2)

/-- What a burst of the sweep at the day `E` does to the records and the dispatch queue: `out` names, in the order of
the walk, the records it brings up, each with the dispatches queued for it (R59 to R63, R181). -/
structure State.SweptBy (E : Nat) (out : List ((Space × Nat) × List Dispatch)) (s t : State) : Prop where
  order : (out.map Prod.fst).Pairwise sweptBefore
  /-- the dispatches of the records in `out` are queued in their order, and no others -/
  entries : ∃ new, t.queue.entries = s.queue.entries ++ new ∧
    (∀ e ∈ new, e.dir = .outbound ∧ e.failures = 0 ∧ e.phase = .queued) ∧
    new.map Entry.disp = out.flatMap Prod.snd
  /-- an item in `out` is brought up to the day, with the dispatches of its transition -/
  items : ∀ n ds, ((.item, n), ds) ∈ out → ∃ r, getItem n s = some r ∧ viewOf (blockOf .item n) s = .home ∧
    r.quarantined = false ∧ r.check = .agrees ∧ r.currentTo ≠ E ∧
    getItem n t = some (bringUp (classRow s r.cls) (calendarOf s) E n r).1 ∧
    (bringUp (classRow s r.cls) (calendarOf s) E n r).2 = ds.map .send
  /-- a title in `out` has lost expired entries, or is current to the day, with the dispatches of the removals -/
  titles : ∀ n ds, ((.title, n), ds) ∈ out → ∃ x y, getTitle n s = some x ∧ viewOf (blockOf .title n) s = .home ∧
    x.quarantined = false ∧ x.checks = true ∧ x.currentTo ≠ E ∧ x.SweptTo E n ds y ∧ getTitle n t = some y
  /-- every other record is as it was, or marked because its check failed -/
  otherItems : ∀ n, (.item, n) ∉ out.map Prod.fst → getItem n t = getItem n s ∨
    ∃ r, getItem n s = some r ∧ viewOf (blockOf .item n) s = .home ∧ r.quarantined = false ∧ r.check ≠ .agrees ∧
      getItem n t = some { r with quarantined := true }
  otherTitles : ∀ n, (.title, n) ∉ out.map Prod.fst → getTitle n t = getTitle n s ∨
    ∃ x, getTitle n s = some x ∧ viewOf (blockOf .title n) s = .home ∧ x.quarantined = false ∧ x.checks = false ∧
      getTitle n t = some { x with quarantined := true }
  patrons : t.store.patrons = s.store.patrons
  rest : t.store.stamp = s.store.stamp ∧ t.map = s.map ∧ t.day.county = s.day.county ∧ t.free = s.free

/-- The records that a burst can examine from a position onward, in the order of the walk: item records in rising
number, then title records in rising number (R59). -/
def State.sweepWalk (s : State) : SweepPos → List (Space × Nat)
  | .item n =>
    (((s.store.items.map Prod.fst).filter fun m => n ≤ m).map fun m => (.item, m)) ++
      s.store.titles.map fun p => (.title, p.1)
  | .title n => ((s.store.titles.map Prod.fst).filter fun m => n ≤ m).map fun m => (.title, m)

/-- The item or title record that the walk of the sweep names is the same in two states. -/
def State.sameRecord (s t : State) (r : Space × Nat) : Prop :=
  match r.1 with
  | .item => getItem r.2 s = getItem r.2 t
  | .title => getTitle r.2 s = getTitle r.2 t
  | .patron => True

/-- The sweep has nothing to do at a record: its block is not viewed HOME, or it is quarantined, or it passes its check
and is current to the day (R59). -/
def State.sweptAt (s : State) (E : Nat) (r : Space × Nat) : Prop :=
  viewOf (blockOf r.1 r.2) s ≠ .home ∨
    match r.1 with
    | .item => ∃ x, getItem r.2 s = some x ∧ (x.quarantined = true ∨ x.check = .agrees ∧ x.currentTo = E)
    | .title => ∃ x, getTitle r.2 s = some x ∧ (x.quarantined = true ∨ x.checks = true ∧ x.currentTo = E)
    | .patron => True

/-- How many commit units of a burst lead from the records of `s` to those of `u`: one for each item record brought
current or marked, one for each hold entry removed, and one for each title made current or marked (R179, R181). -/
def State.burstUnits (s u : State) : Nat :=
  (s.store.items.countP fun p => getItem p.1 u != some p.2) +
    (s.store.titles.map fun p =>
      match getTitle p.1 u with
      | some y =>
        p.2.holds.length - y.holds.length +
          if y.currentTo = p.2.currentTo ∧ y.quarantined = p.2.quarantined then 0 else 1
      | none => 0).sum

/-- The sweep is started from its first record, in ONLINE: a burst that holds the grant starts again at its end, a
PAUSED sweep stays PAUSED there, and any other asks the store (R58). -/
def State.sweepRestarts (s t : State) : Prop :=
  s.station = .online →
    (burstHeld s = true → t.day.restart = true) ∧
    (burstHeld s = false → t.day.pos = some (.item 0) ∧
      t.day.sweep = (if s.day.sweep = .paused then .paused else .running) ∧
      (s.day.sweep ≠ .paused → t.arb.sweep = true ∨ ∃ E, t.arb.held = some ⟨.sweep, E⟩))

/-- A title record that is whole and current to the day. -/
abbrev titleAt (n : Nat) (t : Title) (E : Nat) (s : State) : Prop :=
  getTitle n s = some t ∧ t.quarantined = false ∧ t.checks = true ∧ t.currentTo = E

/-- A patron record that is whole. -/
abbrev patronAt (n : Nat) (p : Patron) (s : State) : Prop :=
  getPatron n s = some p ∧ p.quarantined = false ∧ p.check = .agrees

/-- A CHARGE is queued when the fine is above 0. -/
def chargeIf (fine borrower n : Nat) (s : State) : State :=
  if 0 < fine then enqueue (.charge borrower fine n .overdue) s else s

/-- A test of a category row is true of a patron's record for a purpose: its purpose set includes the purpose and its
relation holds between the quantity read and its value (R75, Table 4-3). -/
def StandingTest.trueOf (t : StandingTest) (purpose : Purpose) (p : Patron) : Prop :=
  (match purpose with | .lend => t.lend | .renew => t.renew | .reserve => t.reserve) = true ∧
    (let q := match t.quantity with | .balance => p.balance | .loans => p.loans | .holds => p.holds
     match t.relation with
     | .eq => q = t.value | .ne => q ≠ t.value | .lt => q < t.value
     | .le => q ≤ t.value | .gt => t.value < q | .ge => t.value ≤ q)

/-! ## Send places -/

/-- The frame that a waiting census, announcement or context's step places, and the block that queues it (R133). -/
def Waiter.frame (s : State) : Waiter → Option (Frame × Owner)
  | .census b => some (⟨stationNo s, .all, .census b⟩, .census b)
  | .announcement id b st => some (⟨stationNo s, .all, .moved b st⟩, .announcement id b st)
  | .context c dest =>
    match getRun c s with
    | some r =>
      match r.request with
      | .handOver .. => none
      | _ => (r.op (stationNo s)).map fun o =>
        (⟨stationNo s, .station dest, .req (ctxRef c r s) (.op o)⟩, .context c)
    | none => none
  | _ => none

/-- The places free for frames other than ANS and CLEAR: of the share of 20, and of the 24 but the last, the places kept
for an ANS counting as taken (R132, R133). -/
def State.sendRoom (s : State) : Nat :=
  min (20 - (s.line.sendq.filter fun i => !i.isClear && !i.isAns).length)
    (23 - ((s.line.sendq.filter fun i => !i.isClear).length +
      (s.line.slots.filter Slot.keepsAnsPlace).length))

/-- The REQ or the LAST frame in a slot has the place of its ANS now: one is free for it, and no block that began to
wait before it could use a place (R133, R147). -/
def State.ansPlaceFor (k : Nat) (s : State) : Prop :=
  s.line.roomForAns = true ∧
    ∀ l w r, s.line.waiters = l ++ w :: r → .reqSlot k ∉ l ++ [w] → w.hasRoom s.line = false

/-- The day unit has met an occasion to send a day: its own DAY frame carrying the day is in the send queue, it waits
for a place, or an own frame is being sent and the next is queued when that one has left (R55). -/
def State.daySent (d : Nat) (s : State) : Prop :=
  (∃ j ∈ s.line.sendq, j.owner = .dayUnit ∧ j.frame.body = .day d ∧ j.frame.dest = .all) ∨ .day ∈ s.line.waiters ∨
    (s.day.again = true ∧ ∃ j ∈ s.line.sendq, j.owner = .dayUnit ∧ isBeingSent j s = true)

/-! ## Requests -/

/-- The phase a context's step is taken to by a view (R100). -/
def firstPhase : View → Phase
  | .home | .lending _ => .local_
  | .foreign _ => .sending
  | .unknown => .census
  | .receiving _ | .probing => .deferring

/-- A requester is among those of a block's census, or of the one that follows it, or waits for a place of the census
table (R158). -/
def State.censusAsked (b : Block) (a : Asker) (t : State) : Prop :=
  (∃ p ∈ t.map.census, p.b = b ∧ (a ∈ p.askers ∨ a ∈ p.later)) ∨ (b, a) ∈ t.map.censusWait

/-- What the step `o` of a context waits for once it is taken, by the view it is taken with (R100): its work at the
store, which waits or holds the grant (R101); its REQ in the send queue, or a send place for it (R102); or the census of
its block (R107). -/
def State.stepTaken (c : Nat) (o : OwnerOp) (v : View) (t : State) : Prop :=
  match v with
  | .home | .lending _ => c ∈ t.arb.kiosk ∨ ∃ E, t.arb.held = some ⟨.kiosk c, E⟩
  | .foreign st =>
    (∃ r, getRun c t = some r ∧ ∃ i ∈ t.line.sendq, i.owner = .context c ∧
      i.frame = ⟨stationNo t, .station st, .req (ctxRef c r t) (.op o)⟩) ∨ .context c st ∈ t.line.waiters
  | .unknown => t.censusAsked o.block (.context c)
  | .receiving _ | .probing => True

/-- The answer `a` reaches the step of a context: from the owner engine at the end of the context's own grant (R101), or
in the ANS at the head of the slots that matches the context (R111). -/
def State.answered (c : Nat) (a : StepAnswer) (u t : State) : Prop :=
  (∃ E, u.arb.held = some ⟨.kiosk c, E⟩ ∧ t = afterAnswer a u) ∨
    ∃ k age f x r, headSlot u = some (k, age, f) ∧ f.body = .ans x ∧ x.isExchange = false ∧ x.answer = a ∧
      x.ref.ctx = c ∧ getCtx c u = some ⟨x.ref.gen, .running r⟩ ∧ r.phase = .awaiting ∧ r.step = x.ref.step ∧
      r.awaits (stationNo u) = some (x.op, x.patron, x.item, x.title) ∧
      (∀ b st, r.request ≠ .handOver b st) ∧ exec .ansProcessing u = .next t

/-- A submitted request is taken into the lowest FREE context, which begins its step `o` (R92, R100). -/
def takesContext (i : Instr) (tag : Nat) (q : Request) (o : OwnerOp) (s : State) : Prop :=
  ∀ c, freeCtx s = some c → ∃ (t : State) (r : Run) (g : Nat),
    exec i s = .next t ∧ getRun c t = some r ∧ r.tag = tag ∧ r.request = q ∧ r.step = 1 ∧
      r.phase = firstPhase (viewOf o.block s) ∧ (getCtx c s).map Ctx.gen = some g ∧
      (getCtx c t).map Ctx.gen = some ((g + 1) % 256) ∧
      t.stepTaken c o (viewOf o.block s) ∧
      t.port.reply = some (.taken c ((g + 1) % 256)) ∧ t.store = s.store ∧
      ∀ d, d ≠ c → getCtx d t = getCtx d s

/-- A submitted request is answered by the port itself: it takes no context, changes no record and queues no frame (R95,
R189). -/
def answeredByPort (i : Instr) (tag kind : Nat) (o : OutcomeCode) (s : State) : Prop :=
  ∃ t : State, exec i s = .next t ∧ t.port.reply = some (.answer tag kind o none .nothing) ∧
    t.ctxs = s.ctxs ∧ t.store = s.store ∧ t.queue = s.queue ∧ t.line = s.line ∧ t.map = s.map ∧
    t.hand = s.hand ∧ t.day = s.day

/-- The port's three checks of a request that takes a context, in their order (R95, R189). -/
def portChecks (mk : Framing → Instr) (tag kind : Nat) (s : State) : Prop :=
  answeredByPort (mk .misshapen) tag kind .badRequest s ∧
    (s.station ≠ .online → answeredByPort (mk .whole) tag kind .notOnline s) ∧
    (s.station = .online → freeCtx s = none → answeredByPort (mk .whole) tag kind .busy s)

/-! ## Octets -/

/-- A dispatch whose fields fit the octets of its body (Table 12-1, Table 12-3). -/
def Dispatch.fits : Dispatch → Bool
  | .charge p c i _ | .credit p c i =>
    tripleOk p && decide (c ≤ Config.balanceLimit) && tripleOk i
  | .loanClose p => tripleOk p
  | .holdEnded p t _ => tripleOk p && tripleOk t
  | .copyState t i r _ =>
    tripleOk t && tripleOk i &&
      (match r with
       | .loan d => pairOk d
       | _ => true)
  | .copyFree t i a => tripleOk t && tripleOk i && stationOk a
  | .holdFilled t p i | .pickupLapsed t p i => tripleOk t && tripleOk p && tripleOk i
  | .copyRemove t i => tripleOk t && tripleOk i
  | .trap i | .untrap i | .release i => tripleOk i
  | .allocate i t p k => tripleOk i && tripleOk t && tripleOk p && stationOk k
  | .redirect i p k => tripleOk i && tripleOk p && stationOk k
  | .kioskNote st i r p =>
    stationOk st && tripleOk i && optOk tripleOk p &&
      (match r with
       | .send x | .pull x => stationOk x
       | _ => true)
  | .abandon st b serial => stationOk st && b.ok && octetOk serial

/-- An operation whose arguments fit the octets of a REQ (Table 5-3, Table 12-1). -/
def OwnerOp.fits : OwnerOp → Bool
  | .itemCreate i t c st => tripleOk i && tripleOk t && decide (c < 8) && stationOk st
  | .itemDelete n | .itemRead n | .titleDelete n | .patronDelete n | .standing n | .loanOpen n
  | .holdOpen n | .accountRead n => tripleOk n
  | .lendItem i p x st => tripleOk i && tripleOk p && pairOk x && stationOk st
  | .extend i p x => tripleOk i && tripleOk p && pairOk x
  | .takeReturn i st => tripleOk i && stationOk st
  | .titleCreate t _ => tripleOk t
  | .copyAdd t i => tripleOk t && tripleOk i
  | .holdAdd t p st => tripleOk t && tripleOk p && stationOk st
  | .holdDrop t p => tripleOk t && tripleOk p
  | .titleRead t p => tripleOk t && optOk tripleOk p
  | .patronCreate p c x => tripleOk p && decide (c < 4) && pairOk x
  | .patronSet p c x => tripleOk p && optOk (fun n => decide (n < 4)) c && optOk pairOk x
  | .pay p a => tripleOk p && decide (a ≤ Config.balanceLimit)

/-- What a REQ asks fits its octets. -/
def Query.fits : Query → Bool
  | .op o => o.fits
  | .offer b serial c =>
    b.ok && octetOk serial && pairOk c.records && pairOk c.copies && pairOk c.holds
  | .blockQuery b serial => b.ok && octetOk serial

/-- The amounts of money that octets carry (Table 12-1). -/
def centsOk (n : Nat) : Bool := decide (n ≤ Config.balanceLimit)

/-- The fields of an item's state fit their octets (Table 1-1). -/
def ItemState.fits : ItemState → Bool
  | .onShelf | .awaitRoute => true
  | .onLoan b due ren _ => tripleOk b && pairOk due && decide (ren < 16)
  | .pull t => tripleOk t.patron && stationOk t.pickup
  | .inTransit t d => (match t with | some x => tripleOk x.patron && stationOk x.pickup | none => true) && stationOk d
  | .held t ready by_ _ => tripleOk t.patron && stationOk t.pickup && pairOk ready && pairOk by_
  | .lost b due fine repl => tripleOk b && pairOk due && centsOk fine && centsOk repl

/-- The values of a DONE answer are those of its operation's rule, and fit their octets (Table 12-3). -/
def Values.fitDone : OpCode → Values → Bool
  | .itemCreate, .itemCreated i t => tripleOk i && tripleOk t
  | .itemDelete, .itemDeleted i t _ => tripleOk i && tripleOk t
  | .lendItem, .lent due _ t => pairOk due && tripleOk t
  | .extend, .extended due _ fine ren => pairOk due && centsOk fine && octetOk ren
  | .takeReturn, .returned _ _ route fine p _ =>
    (match route with | .send st | .pull st => stationOk st | _ => true) && centsOk fine && optOk tripleOk p
  | .itemRead, .itemSummary r =>
    tripleOk r.title && decide (r.cls < 8) && stationOk r.shelf && stationOk r.at_ && pairOk r.currentTo &&
      r.state.fits
  | .titleCreate, .titleCreated t => tripleOk t
  | .titleDelete, .titleDeleted t c h =>
    tripleOk t && decide (c ≤ Config.copiesPerTitle) && decide (h ≤ Config.holdsPerTitle)
  | .copyAdd, .copyAdded n => decide (n ≤ Config.copiesPerTitle)
  | .holdAdd, .holdAdded pos _ => octetOk pos
  | .holdDrop, .holdDropped i => optOk tripleOk i
  | .titleRead, .titleSummary r =>
    pairOk r.currentTo && [r.entries, r.waiting, r.allocated].all (fun n => decide (n ≤ Config.holdsPerTitle)) &&
      [r.shelf, r.loan, r.away, r.lost, r.trapped].all (fun n => decide (n ≤ Config.copiesPerTitle)) &&
      (match r.entry with | some e => octetOk e.position && stationOk e.pickup && pairOk e.expiry | none => true)
  | .patronCreate, .patronCreated p x => tripleOk p && pairOk x
  | .patronSet, .patronSet c x => decide (c < 4) && pairOk x
  | .patronDelete, .patronDeleted p => tripleOk p
  | .standing, .standing x b => pairOk x && centsOk b
  | .loanOpen, .loanOpened x b n | .holdOpen, .holdOpened x b n => pairOk x && centsOk b && octetOk n
  | .pay, .paid a b _ => centsOk a && centsOk b
  | .accountRead, .account b _ l h x c => centsOk b && octetOk l && octetOk h && pairOk x && decide (c < 4)
  | .offer, .nothing => true
  | _, _ => false

/-- The values of a refusal are those its reason carries, and fit their octets (R98). -/
def Values.fitRefused (op : OpCode) (why : Reason) (v : Values) : Bool :=
  match why, v with
  | .blocked, .blocked i _ n => octetOk i && tripleOk n
  | .blocked, _ => false
  | .cardExpired, .cardExpired x => pairOk x
  | .cardExpired, _ => false
  | .notEmpty, .notEmpty l h b => decide (op = .patronDelete) && octetOk l && octetOk h && centsOk b
  | .notEmpty, .nothing => decide (op ≠ .patronDelete)
  | .notEmpty, _ => false
  | _, .nothing => true
  | _, _ => false

/-- An answer to an operation fits its octets: an exchange is that of a BLOCK_QUERY or a decision, and an outcome that
no owner gives is none of those that one gives (R111, log entry 26). -/
def StepAnswer.fits (op : OpCode) (a : StepAnswer) : Bool :=
  if op = .blockQuery ∨ op = .lastDecision then
    match a with
    | .exchange _ b serial => b.ok && octetOk serial
    | _ => false
  else
    match a with
    | .done v => v.fitDone op
    | .refused why v => v.fitRefused op why
    | .deferred | .notOwner => true
    | .movedTo st => stationOk st
    | .exchange .. => false
    | .other o why =>
      decide (o ∉ [OutcomeCode.done, .deferred, .movedTo, .notOwner]) && decide (o = .refused → why = none)

/-- The fields of a streamed unit fit their octets, its records without the quarantine mark and with check words that
agree (Table 12-4, log entry 41). -/
def StreamUnit.fits : StreamUnit → Bool
  | .item n r =>
    tripleOk n && tripleOk r.title && decide (r.cls < 8) && stationOk r.shelf && stationOk r.at_ && r.state.fits &&
      pairOk r.currentTo && !r.quarantined && decide (r.check = .agrees)
  | .patron n p =>
    tripleOk n && decide (p.category < 4) && pairOk p.cardExpiry && centsOk p.balance && octetOk p.loans &&
      octetOk p.holds && !p.quarantined && decide (p.check = .agrees)
  | .titleHeader n _ day => tripleOk n && pairOk day
  | .copyRef c =>
    tripleOk c.item && decide (c.check = .agrees) &&
      (match c.view with
       | .loan due _ => pairOk due
       | .away (some p) => tripleOk p
       | _ => true)
  | .holdEntry h =>
    tripleOk h.patron && stationOk h.pickup && pairOk h.placed && pairOk h.expiry && decide (h.check = .agrees) &&
      (match h.state with
       | .waiting => true
       | .allocated i => tripleOk i)
  | .marker _ n => tripleOk n

/-- A frame whose fields fit its octets. -/
def Frame.fits (f : Frame) : Bool :=
  stationOk f.src &&
    (match f.dest with
     | .station n => stationOk n
     | .all => true) &&
    (match f.body with
     | .clear st => stationOk st
     | .req r q => octetOk r.ctx && octetOk r.gen && octetOk r.step && q.fits
     | .dispatch d => d.fits
     | .day d => pairOk d
     | .census b => b.ok
     | .moved b st => b.ok && stationOk st
     | .ans a =>
       octetOk a.ref.ctx && octetOk a.ref.gen && octetOk a.ref.step && tripleOk a.patron && tripleOk a.item &&
         tripleOk a.title && a.answer.fits a.op
     | .stream b serial last u =>
       b.ok && octetOk serial && optOk pairOk last && (last.isSome || u.isSome) &&
         (match u with
          | some x => x.fits
          | none => true))

end Sys2Proof.Machine

namespace Sys2Proof

/-- A configuration piece with the number of entries its layout holds (Table 12-7), each list within its capacity
(R204). -/
def Piece.shaped : Piece → Bool
  | .calendar _ _ days => decide (days.length ≤ 64)
  | .classTable rows => decide (rows.length = 8)
  | .categoryTable rows => decide (rows.length = 4) && rows.all fun r => decide (r.length ≤ 4)
  | .initialMap _ vs => decide (vs.length = 256)
  | _ => true

/-- A command whose record has the number of entries its layout holds. -/
def Instr.shaped : Instr → Bool
  | .configure _ _ p => p.shaped
  | _ => true

end Sys2Proof
end

