-- ==== Sys2Proof/Certificates/Slice0/Obligations.lean ====
section
/-! DEFINITION. The statements for the provers. Each docstring names the rules of spec/ that the statement formalises.
-/

open Sys2Proof Sys2Proof.Machine

/-! ## The whole part -/

/-- A step takes the command at the front of the queue and carries it out with the queue's rest. With no command waiting
the part idles, which is the model's choice (log entry 9). -/
def Obligations.StepTakesFrontCommand : Prop :=
  (∀ (c : Instr) (rest : List Instr) (s : State),
    step { s with pending := c :: rest } = exec c { s with pending := rest }) ∧
  (∀ s : State, s.pending = [] → step s = .next s)

/-- The part after reset is UNCONFIGURED with every piece of the configuration empty (R197, R199), 8 FREE contexts of
generation 0 (R91), both slots FREE and an empty send queue (R151), no mask set, no notice, no answer and attention
released (R192, R194, R195), no grant held and the stream last granted (Table 9-2), an EMPTY capture (R185) and the
sweep IDLE (R58); and it is well kept in every sense of Safety.lean. START_RESET completes in every state and at every
moment, and leaves all of the volatile state so (R199). -/
def Obligations.ResetIsWellKept : Prop :=
  State.reset.station = .unconfigured ∧ State.reset.conf.empty.length = 12 ∧
    State.reset.ctxs = List.replicate 8 ⟨0, .free⟩ ∧
    State.reset.line.slots = [.free, .free] ∧ State.reset.line.sendq = [] ∧
    State.reset.port.masks = 0#8 ∧ State.reset.port.notices = [] ∧ State.reset.port.answers = [] ∧
    State.reset.port.attention = false ∧ State.reset.port.overflow = false ∧
    State.reset.arb.held = none ∧ State.reset.arb.last = .stream ∧
    State.reset.capture = ⟨none, false⟩ ∧ State.reset.day.sweep = .idle ∧
    State.reset.hand = .idle ∧ State.reset.map.census = [] ∧
    State.reset.attentionOk ∧ State.reset.boundsOk ∧ State.reset.tablesOk ∧
    State.reset.queue.ok ∧ State.reset.conf.inRange = true ∧
    State.reset.line.Kept ∧ State.reset.EntriesKept ∧ State.reset.RoomKept ∧ State.reset.HandoverKept ∧
    State.reset.homeSettled ∧
    ∀ (m : ResetMoment) (s : State), ∃ t, exec (.startReset m) s = .next t ∧ t.station = State.reset.station ∧
      t.conf = State.reset.conf ∧ t.ctxs = State.reset.ctxs ∧ t.line = State.reset.line ∧
      t.port = State.reset.port ∧ t.arb = State.reset.arb ∧ t.capture = State.reset.capture ∧
      t.hand = State.reset.hand ∧ t.day = { State.reset.day with county := t.day.county } ∧
      t.map = { State.reset.map with views := t.map.views, serial := t.map.serial }

/-- The attention output follows its three conditions through every step (R195). Every step keeps 8 contexts (R91), 2
receive slots (R145), at most 32 notices (R192) and at most 16 census places (R158). Every step keeps the send queue
well kept: at most 20 places taken by frames other than ANS and CLEAR, the last of the 24 left for the one CLEAR that
can be queued, and a place kept for the ANS of each REQ and LAST frame in processing (R132, R133); it then holds at most
24 frames. -/
def Obligations.AttentionAndBoundsKeptByEveryStep : Prop :=
  (∀ s t : State, s.attentionOk → step s = .next t → t.attentionOk) ∧
  (∀ s t : State, s.boundsOk → step s = .next t → t.boundsOk) ∧
  (∀ s t : State, s.line.Kept → step s = .next t → t.line.Kept) ∧
  (∀ l : LineEngine, l.Kept → l.sendq.length ≤ 24)

/-- Every step keeps the record tables and the view table in their canonical form, and a step whose command is well
formed keeps every configuration piece in the range its row of Table 11-1 gives: the station number, the calendar with
its closed days, the class and category tables, the hold life, the pickup window, the start day, and the initial maps
with the stations of their FOREIGN views; the line rate and the erase flag hold no other value (R198). -/
def Obligations.TablesAndConfigurationKeptByEveryStep : Prop :=
  (∀ s t : State, s.tablesOk → s.conf.inRange = true → step s = .next t → t.tablesOk) ∧
  (∀ s t : State, s.conf.inRange = true → (∀ c, s.pending.head? = some c → c.wellFormed = true) →
    step s = .next t → t.conf.inRange = true)

/-- Every step keeps the entries of the dispatch queue distinct, and at most one DISPATCH frame in flight to each
destination station (R124). Every step keeps the queued entries and the reservations within 96 (R121), where every title
of a block viewed HOME without the quarantine mark is settled as its rules leave it, so that an operation or a dispatch
on it, with its settle, queues at most 3 dispatches (R32, R44). Every step leaves such a title settled, but for one that
writes a unit of a stream, which makes or changes no title but the one the receiver has open and the one the unit names
(R168). An INBOUND entry that has asked for the store keeps its 2 places through every step (R127). Every step keeps the
handover engine in accord with the views: INBOUND entries and the DISPATCH in acceptance are of blocks viewed HOME
(R129), the giver's block is HOME while it drains and LENDING from the freeze to the decision (R160, R161), the
receiver's is RECEIVING until it is taken and HOME from then on (R167, R169), and a station off the line is as a start
reset leaves it (R120, R199). That the freeze waits for a DISPATCH in acceptance is the model's reading (log entry
43). -/
def Obligations.OneFlightPerDestination : Prop :=
  (∀ s t : State, s.queue.ok → step s = .next t → t.queue.ok) ∧
  (∀ s t : State, s.queue.ok → s.EntriesKept → step s = .next t → t.EntriesKept) ∧
  (∀ s t : State, s.queue.ok → s.EntriesKept → s.RoomKept → s.HandoverKept → s.homeSettled →
    step s = .next t → t.RoomKept) ∧
  (∀ s t : State, s.tablesOk → s.HandoverKept → step s = .next t → t.HandoverKept) ∧
  (∀ s t : State, s.tablesOk → s.queue.ok → s.HandoverKept → s.homeSettled →
    (∀ k E, s.arb.held ≠ some ⟨.stream (.write k), E⟩) → step s = .next t →
    ∀ n x, getTitle n t = some x → viewOf (blockOf .title n) s = .home → x.quarantined = false → x.Settled) ∧
  (∀ (s t : State) (k E age : Nat) (f : Frame) (kept : Bool) (b : Block) (serial : Nat) (last : Option Nat)
     (u : Option StreamUnit) (r : Receiving), s.tablesOk → s.arb.held = some ⟨.stream (.write k), E⟩ →
    getSlot k s = .processing age f kept → f.body = .stream b serial last u → s.hand = .receiving r →
    step s = .next t →
    ∀ n x, getTitle n t = some x → n ≠ r.title → (∀ h day, u ≠ some (.titleHeader n h day)) →
      u ≠ some (.marker .title n) → getTitle n s = some x)

/-- The county day never decreases, except that a store erase, made at JOIN or cut short within it, sets it to the start
day (R52). While no grant of the store arbiter is held, only such an erase changes the store (R5, R32, R70, R182). An
erase is made by a JOIN, or by a start reset within one, where the erase flag is set or the format stamp is absent
(R200). -/
def Obligations.DayAndRecordsChangeOnlyAsGranted : Prop :=
  (∀ (i : Instr) (s t : State), exec i s = .next t → t.day.county < s.day.county →
     ((∃ tag f, i = .join tag f) ∨ ∃ n, i = .startReset (.inErase n)) ∧ joinErases s = true ∧
       s.station = .configured ∧ t.day.county = s.conf.startDay.getD 0) ∧
  (∀ (i : Instr) (s t : State), s.arb.held = none → exec i s = .next t → t.store ≠ s.store →
     ((∃ tag f, i = .join tag f) ∨ ∃ n, i = .startReset (.inErase n)) ∧ joinErases s = true ∧
       s.station = .configured)

/-! ## Octets -/

/-- The octets of an exchange decode to the command they were written from, for every well-formed command that is a
whole exchange whose lists are within their capacities (12.3, 12.4, R203). An unknown request kind is its octets 1,
kind, tag, which is the model's choice (log entry 12). A count octet above the capacity of its list, 64 closed days or
the 4 tests of a category row, makes a CONFIGURE misshapen, which is answered BAD_REQUEST (R204, statement
ConfigureTakesPieces). That it does so whatever octets follow, also too few for the entries it counts, is the model's
reading (log entry 12). -/
def Obligations.ExchangeDecodesToItsCommand : Prop :=
  (∀ (i : Instr) (l : List Nat), i.wellFormed = true → i.shaped = true → encodeExchange i = some l →
    decodeExchange l = some i) ∧
  (∀ (tag w m n : Nat) (rest : List Nat), 64 < n →
    ∃ p, decodeExchange (submitOctets 21 tag ([3, w, m, n] ++ rest)) = some (.configure tag .misshapen p)) ∧
  (∀ (tag n : Nat) (rows : List (List RawTest)) (rest : List Nat), rows.length < 4 →
    (∀ r ∈ rows, r.length ≤ 4 ∧ ∀ x ∈ r, x.fits = true) → 4 < n →
    ∃ p, decodeExchange (submitOctets 21 tag ([5] ++ (rows.map (putList putTest)).flatten ++ n :: rest)) =
      some (.configure tag .misshapen p))

/-- The octets of a frame decode to the frame, check included, for every frame of each of the eight kinds whose fields
fit their octets (R131, R203). Where chapter 12 gives a field order by reference only, the layout is the model's (log
entries 20, 21, 22 and 23); that a unit streamed with a quarantine mark is read without it (log entry 41) and that an
outcome no owner gives is read as such (log entry 26) is the model's choice. -/
def Obligations.FrameDecodesToItself : Prop :=
  ∀ f : Frame, f.fits = true → decodeFrame (encodeFrame f) = some f

/-! ## Items at their home (chapter 1) -/

/-- ITEM_CREATE at its grant: refused EXISTS where a record of the number exists, then POOL_FULL where no record is
free; otherwise the record is made ON_SHELF at its shelf station, current to the event day, no dispatch is queued, and
the answer is DONE with the item and title numbers (R7). ITEM_DELETE at its grant removes an ON_SHELF record, and a
quarantined record in any state and without a touch: it queues COPY_REMOVE with the record's title and answers the state
the record held. In every other state of a record without the mark it is refused WRONG_STATE and the record stands (R8).
The checks that every owner operation of an item, a title or a patron passes first, in their order (R3, R30, R69): a
RECEIVING or PROBING view answers DEFERRED, as LENDING does but to a read; FOREIGN(s) answers MOVED_TO(s) and UNKNOWN
NOT_OWNER; without a record all but a CREATE are refused NOT_FOUND, COPY_ADD NOT_ENROLLED; a quarantined record refuses
all but a DELETE DAMAGED; and fewer than 3 free entries answer DEFERRED. There the operation itself changes no record
and queues no dispatch. A record one of whose stored check words is not the word computed over what it covers is marked
quarantined, its fields as stored, and the failure enters the fault capture; the operation is then refused DAMAGED, and
a DELETE removes the record (R180, R181). That ITEM_CREATE checks no word of the record it finds, and so sets no mark on
one that would fail, is the model's choice (log entry 42). -/
def Obligations.ItemsAreMadeAndRemoved : Prop :=
  (∀ (s : State) (o : OwnerOp) (who : Requester) (E : Nat), heldOp s = some ⟨o, who, E⟩ →
     let view := viewOf o.block s
     let lending := ∃ st, view = .lending st
     let answers := fun a => exec o.row s = .next (afterAnswer a s)
     (view = .probing ∨ (∃ st, view = .receiving st) ∨ (lending ∧ o.isRead = false) → answers .deferred) ∧
     (∀ st, view = .foreign st → answers (.movedTo st)) ∧
     (view = .unknown → answers .notOwner) ∧
     (view = .home ∨ (lending ∧ o.isRead = true) →
       (o.isCreate = false → o.mark s = none →
         answers (.refused (if o.code = .copyAdd then .notEnrolled else .notFound) .nothing)) ∧
       (o.isCreate = false → o.isDelete = false → o.mark s = some true →
         answers (.refused .damaged .nothing))) ∧
     (view = .home → freePlaces s < 3 →
       o.isCreate = true ∨ (o.isDelete = true ∧ o.mark s = some true) ∨
         (o.mark s = some false ∧ o.passesCheck s = true) →
       answers .deferred)) ∧
  (∀ (s : State) (who : Requester) (E n title cls shelf : Nat),
     granted (.itemCreate n title cls shelf) who E s →
     exec .itemCreate s = .next
       (if (getItem n s).isSome then afterAnswer (.refused .exists_ .nothing) s
        else if freeItems s = 0 then afterAnswer (.refused .poolFull .nothing) s
        else
         afterAnswer (.done (.itemCreated n title))
           (putItem n ⟨title, cls, shelf, .onShelf, shelf, E, false, .agrees⟩ s))) ∧
  (∀ (s : State) (who : Requester) (E n : Nat) (r : Item), granted (.itemDelete n) who E s →
     (itemAt n r E s → r.state ≠ .onShelf →
       exec .itemDelete s = .next (afterAnswer (.refused .wrongState .nothing) s)) ∧
     ((itemAt n r E s ∧ r.state = .onShelf) ∨ (getItem n s = some r ∧ r.quarantined = true) →
       exec .itemDelete s = .next
         (afterAnswer (.done (.itemDeleted n r.title r.state.code))
           (enqueue (.copyRemove r.title n) (dropItem n s))))) ∧
  (∀ (s : State) (o : OwnerOp) (who : Requester) (E n : Nat), heldOp s = some ⟨o, who, E⟩ →
     viewOf o.block s = .home ∨ ((∃ st, viewOf o.block s = .lending st) ∧ o.isRead = true) →
     o.isCreate = false →
     let found := fun (sp : Space) (v : Values) (u gone : State) =>
       (o.isDelete = false → exec o.row s = .next (afterAnswer (.refused .damaged .nothing) u)) ∧
         (o.isDelete = true → 3 ≤ freePlaces s → o.target.1 = sp →
           exec o.row s = .next (afterAnswer (.done v) gone))
     (∀ r, o.target = (.item, n) → getItem n s = some r → r.quarantined = false → ¬ r.wordAgrees n →
       let u := recordFault ⟨.checkFailed, .item, n, who, E, none⟩ (markItem n r s)
       found .item (.itemDeleted n r.title r.state.code) u (enqueue (.copyRemove r.title n) (dropItem n u))) ∧
     (∀ t, o.target = (.title, n) → getTitle n s = some t → t.quarantined = false → ¬ t.wordsAgree n →
       let u := recordFault ⟨.checkFailed, .title, n, who, E, none⟩ (markTitle n t s)
       found .title (.titleDeleted n t.copies.length t.holds.length) u (dropTitle n u)) ∧
     (∀ p, o.target = (.patron, n) → getPatron n s = some p → p.quarantined = false → ¬ p.wordAgrees n →
       let u := recordFault ⟨.checkFailed, .patron, n, who, E, none⟩ (markPatron n p s)
       found .patron (.patronDeleted n) u (dropPatron n u)))

/-- LEND_ITEM at its grant, the record being current. An ON_SHELF item is lent: ON_LOAN to the patron until the due day
computed from base E, with no renewal used, at the lending station, and COPY_STATE(LOAN) is queued (R9). A HELD item is
refused HELD_FOR_OTHER, HOLD_LAPSED or WRONG_STATE, in this order of checks, or is lent with HOLD_FILLED queued before
the COPY_STATE (R10). In every other state LEND_ITEM is refused WRONG_STATE. -/
def Obligations.LendItemLendsOrRefuses : Prop :=
  ∀ (s : State) (who : Requester) (E n p x st : Nat) (r : Item),
    granted (.lendItem n p x st) who E s → itemAt n r E s →
    let d := dueDay (calendarOf s) E (classRow s r.cls).period x
    let lent := putItem n { r with state := .onLoan p d.1 0 false, at_ := st } s
    (r.state = .onShelf →
      exec .lendItem s = .next
        (afterAnswer (.done (.lent d.1 d.2 r.title))
          (enqueue (.copyState r.title n (.loan d.1) false) lent))) ∧
    (∀ t ready by_ lapsed, r.state = .held t ready by_ lapsed →
      exec .lendItem s = .next
        (if t.patron ≠ p then afterAnswer (.refused .heldForOther .nothing) s
         else if lapsed = true then afterAnswer (.refused .holdLapsed .nothing) s
         else if t.pickup ≠ st then afterAnswer (.refused .wrongState .nothing) s
         else
          afterAnswer (.done (.lent d.1 d.2 r.title))
            (enqueue (.copyState r.title n (.loan d.1) false)
              (enqueue (.holdFilled r.title p n) lent)))) ∧
    (r.state.code ≠ .onShelf → r.state.code ≠ .held →
      exec .lendItem s = .next (afterAnswer (.refused .wrongState .nothing) s))

/-- EXTEND at its grant, the record being current: the five checks in their order, each refusing and leaving the record
(R11); past them the fine from D to E is charged when above 0, the due day becomes the new one, the renewals used rise
by 1, and COPY_STATE(LOAN) is queued after the CHARGE (R12). -/
def Obligations.ExtendChecksThenRenews : Prop :=
  ∀ (s : State) (who : Requester) (E n p x : Nat) (r : Item),
    granted (.extend n p x) who E s → itemAt n r E s →
    (r.state.code ≠ .onLoan →
      exec .extend s = .next (afterAnswer (.refused .wrongState .nothing) s)) ∧
    (∀ b due ren trapped, r.state = .onLoan b due ren trapped →
      let d := dueDay (calendarOf s) (max due E) (classRow s r.cls).period x
      let fine := overdueFine (classRow s r.cls) (calendarOf s) due E
      exec .extend s = .next
        (if p ≠ b then afterAnswer (.refused .notBorrower .nothing) s
         else if trapped = true then afterAnswer (.refused .trapped .nothing) s
         else if (classRow s r.cls).renewMax ≤ ren then
          afterAnswer (.refused .renewLimit .nothing) s
         else if d.1 ≤ due then afterAnswer (.refused .noGain .nothing) s
         else
          afterAnswer (.done (.extended d.1 d.2 fine (ren + 1)))
            (enqueue (.copyState r.title n (.loan d.1) false)
              (chargeIf fine b n
                (putItem n { r with state := .onLoan b d.1 (ren + 1) false } s)))))

/-- TAKE_RETURN of a current ON_LOAN record closes the loan: CHARGE when the fine is above 0, then LOAN_CLOSE. With the
trapped mark clear the item goes to its shelf or into transit to it, with COPY_STATE SHELF or AWAY (R14); with the mark
set it becomes AWAIT_ROUTE and COPY_FREE is queued in place of COPY_STATE (R15). TAKE_RETURN of a current LOST record:
CREDIT of the replacement charge when above 0, then LOAN_CLOSE, no fine, and the item goes to its shelf or into transit
to it (R16). -/
def Obligations.ReturnEndsTheLoan : Prop :=
  (∀ (s : State) (who : Requester) (E n sc : Nat) (r : Item) (b due ren : Nat) (trapped : Bool),
     granted (.takeReturn n sc) who E s → itemAt n r E s → r.state = .onLoan b due ren trapped →
     let fine := overdueFine (classRow s r.cls) (calendarOf s) due E
     let closed := fun st => enqueue (.loanClose b) (chargeIf fine b n
       (putItem n { r with state := st, at_ := sc } s))
     exec .takeReturn s = .next
       (if trapped = true then
         afterAnswer (.done (.returned .onLoan .awaitRoute .setAside fine none false))
           (enqueue (.copyFree r.title n sc) (closed .awaitRoute))
        else if sc = r.shelf then
         afterAnswer (.done (.returned .onLoan .onShelf .shelve fine none false))
           (enqueue (.copyState r.title n .shelf false) (closed .onShelf))
        else
         afterAnswer (.done (.returned .onLoan .inTransit (.send r.shelf) fine none false))
           (enqueue (.copyState r.title n .away false) (closed (.inTransit none r.shelf))))) ∧
  (∀ (s : State) (who : Requester) (E n sc : Nat) (r : Item) (b due fine repl : Nat),
     granted (.takeReturn n sc) who E s → itemAt n r E s → r.state = .lost b due fine repl →
     let closed := fun st =>
       let u := putItem n { r with state := st, at_ := sc } s
       enqueue (.loanClose b) (if 0 < repl then enqueue (.credit b repl n) u else u)
     exec .takeReturn s = .next
       (if sc = r.shelf then
         afterAnswer (.done (.returned .lost .onShelf .shelve 0 none false))
           (enqueue (.copyState r.title n .shelf false) (closed .onShelf))
        else
         afterAnswer (.done (.returned .lost .inTransit (.send r.shelf) 0 none false))
           (enqueue (.copyState r.title n .away false) (closed (.inTransit none r.shelf)))))

/-- TAKE_RETURN of a current record in PULL or IN_TRANSIT. A PULL item and an IN_TRANSIT item with a hold become HELD
with a pickup window from E at the pickup station or destination; elsewhere the PULL item begins its transit and the
IN_TRANSIT item goes on. An item without a hold goes on its shelf at its destination with COPY_STATE(SHELF); no other of
these cases queues a dispatch (R17, R18). TAKE_RETURN of a current record in ON_SHELF, AWAIT_ROUTE or HELD changes no
field and queues no dispatch: it answers the route with the no-change mark (R19). -/
def Obligations.ReturnRoutesTheItem : Prop :=
  (∀ (s : State) (who : Requester) (E n sc : Nat) (r : Item),
     granted (.takeReturn n sc) who E s → itemAt n r E s →
     let held := fun t => ItemState.held t E (capDay (E + pickupWindow s)) false
     (∀ t, r.state = .pull t →
       exec .takeReturn s = .next
         (if sc = t.pickup then
           afterAnswer (.done (.returned .pull .held .holdShelf 0 (some t.patron) false))
             (putItem n { r with state := held t, at_ := sc } s)
          else
           afterAnswer (.done (.returned .pull .inTransit (.send t.pickup) 0 (some t.patron) false))
             (putItem n { r with state := .inTransit (some t) t.pickup, at_ := sc } s))) ∧
     (∀ t dest, r.state = .inTransit (some t) dest →
       exec .takeReturn s = .next
         (if sc = dest then
           afterAnswer (.done (.returned .inTransit .held .holdShelf 0 (some t.patron) false))
             (putItem n { r with state := held t, at_ := sc } s)
          else
           afterAnswer (.done (.returned .inTransit .inTransit (.send dest) 0 (some t.patron)
               (decide (r.at_ = sc))))
             (putItem n { r with at_ := sc } s))) ∧
     (∀ dest, r.state = .inTransit none dest →
       exec .takeReturn s = .next
         (if sc = dest then
           afterAnswer (.done (.returned .inTransit .onShelf .shelve 0 none false))
             (enqueue (.copyState r.title n .shelf false)
               (putItem n { r with state := .onShelf, at_ := sc } s))
          else
           afterAnswer (.done (.returned .inTransit .inTransit (.send dest) 0 none
               (decide (r.at_ = sc))))
             (putItem n { r with at_ := sc } s)))) ∧
  (∀ (s : State) (who : Requester) (E n sc : Nat) (r : Item),
     s.tablesOk → granted (.takeReturn n sc) who E s → itemAt n r E s →
     (r.state = .onShelf →
       exec .takeReturn s = .next
         (afterAnswer (.done (.returned .onShelf .onShelf
           (if sc = r.shelf then .shelve else .send r.shelf) 0 none true)) s)) ∧
     (r.state = .awaitRoute →
       exec .takeReturn s = .next
         (afterAnswer (.done (.returned .awaitRoute .awaitRoute .setAside 0 none true)) s)) ∧
     (∀ t ready by_ lapsed, r.state = .held t ready by_ lapsed →
       exec .takeReturn s = .next
         (afterAnswer (.done (.returned .held .held
           (if sc = t.pickup then .holdShelf else .send t.pickup) 0 (some t.patron) true)) s)))

/-- ITEM_READ answers the summary of a current record, changing nothing; in a LENDING block it is served from the record
as stored, whatever its current-to day and without room for dispatches (R20). -/
def Obligations.ItemReadAnswersTheRecord : Prop :=
  ∀ (s : State) (who : Requester) (E n : Nat) (r : Item), s.tablesOk →
    (granted (.itemRead n) who E s ∧ itemAt n r E s) ∨
      (heldOp s = some ⟨.itemRead n, who, E⟩ ∧ (∃ st, viewOf (blockOf .item n) s = .lending st) ∧
        getItem n s = some r ∧ r.quarantined = false ∧ r.check = .agrees) →
    exec .itemRead s = .next
      (afterAnswer (.done (.itemSummary
        ⟨r.title, r.cls, r.shelf, r.state, r.at_, r.currentTo, false⟩)) s)

/-- The transitions of a day, as a touch and the sweep apply them: a loan falls LOST when the day reaches its due day
plus the class lost-after period, with CHARGE (reason LOST, the frozen fine plus the replacement charge, when above 0)
and COPY_STATE(LOST) queued (R61); a HELD item whose pickup-by day is earlier than the day gets the lapsed mark, with
PICKUP_LAPSED queued (R62); in every other case only the current-to day is written. Sweep-on-touch: an item operation on
a record that is not current gives what it gives once the record has been brought up to the day and the dispatches of
that queued, ahead of its own (R4, R64), and so does a dispatch for an item (R23). -/
def Obligations.TouchAppliesTheDayTransitions : Prop :=
  (∀ (row : ClassRow) (cal : Calendar) (day n : Nat) (r : Item),
     (∀ b due ren tr, r.state = .onLoan b due ren tr → due + row.lostAfter ≤ day →
       let fine := overdueFine row cal due day
       bringUp row cal day n r =
         ({ r with state := .lost b due fine row.replacement, currentTo := day },
           (if 0 < fine + row.replacement then
             [.send (.charge b (fine + row.replacement) n .lost)] else []) ++
             [.send (.copyState r.title n .lost false)])) ∧
     (∀ t ready by_, r.state = .held t ready by_ false → by_ < day →
       bringUp row cal day n r =
         ({ r with state := .held t ready by_ true, currentTo := day },
           [.send (.pickupLapsed r.title t.patron n)])) ∧
     ((∀ b due ren tr, r.state = .onLoan b due ren tr → day < due + row.lostAfter) →
       (∀ t ready by_, r.state = .held t ready by_ false → day ≤ by_) →
       bringUp row cal day n r = ({ r with currentTo := day }, []))) ∧
  (∀ (s : State) (o : OwnerOp) (who : Requester) (E n : Nat) (r : Item),
     o.target = (.item, n) → (∀ t c st, o ≠ .itemCreate n t c st) →
     viewOf o.block s = .home → 3 ≤ freePlaces s →
     getItem n s = some r → r.quarantined = false → r.check = .agrees → r.currentTo ≠ E →
     let b := bringUp (classRow s r.cls) (calendarOf s) E n r
     applyOp o who E s = applyOp o who E (emitAll b.2 (putItem n b.1 s))) ∧
  (∀ (s : State) (e : Entry) (E n : Nat) (r : Item) (i : Instr), applied e E s →
     (i, e.disp.kind) ∈ dispatchRows → e.disp.target = some (.item, n) →
     getItem n s = some r → r.quarantined = false → r.check = .agrees → r.currentTo ≠ E →
     let b := bringUp (classRow s r.cls) (calendarOf s) E n r
     exec i s = .next (afterApplication e
       (applyDispatch e.disp E (emitAll b.2 (putItem n b.1 (dropEntry e.id s))))))

/-- A burst of the sweep changes no patron record, makes and removes no item or title record, and leaves each item
record as it was, or brought up to the day of the burst's grant, in a HOME block and not quarantined, or with the
quarantine mark set because its check failed (R59, R60, R181). It leaves each title as it was or with the mark, or, in a
HOME block and not quarantined, with expired WAITING entries removed, the first one first, each with HOLD_ENDED(EXPIRED)
and a settle, and the current-to day written once no such entry is left (R63). It queues the dispatches of the records
it brings up, those of a loss, of a lapse and of the removals (R61, R62, R63), in the order of the walk, and no others.
The item at the position is brought up, its dispatches the first queued, or with fewer than 3 free entries the burst
ends and the sweep pauses at it (R59, R60). The same of a title that is the last record: with no expired entry its
current-to day is written, and with one the entry is removed before that. That the sweep pauses so also where only the
current-to day would be written is the model's reading (log entry 10). With no record left to examine the sweep becomes
IDLE (R59). A burst examines the records of the walk from its position onward, at most 64, each one examined counting
toward the 64 whatever the burst does with it. It leaves at each of them nothing for the sweep to do, and every record
beyond as it was. After 64 records it leaves the position at the next record not yet examined, the sweep asking for its
next grant; after the last title record the sweep is IDLE; and at a record for which 3 entries are not free it is PAUSED
with the position at that record (R59, R60). A start taken meanwhile makes the position the first record (R58). -/
def Obligations.SweepBurstOnlyBringsUp : Prop :=
  ∀ (s : State) (E : Nat), s.arb.held = some ⟨.sweep, E⟩ →
    (∃ t out, exec .sweepBurst s = .next t ∧ s.SweptBy E out t ∧ t.ctxs = s.ctxs ∧ t.line = s.line) ∧
    (s.tablesOk → ∃ t k, exec .sweepBurst s = .next t ∧
      let walk := s.sweepWalk (s.day.pos.getD (.item 0))
      let leaves := fun (sweep : SweepState) (pos : Option SweepPos) =>
        t.day = { s.day with sweep := sweep, pos := pos, restart := false }
      let asks := t.arb.sweep = true ∨ ∃ E', t.arb.held = some ⟨.sweep, E'⟩
      k ≤ 64 ∧ k ≤ walk.length ∧ (∀ r ∈ walk.take k, t.sweptAt E r) ∧
        ((k = min 64 walk.length ∧ (∀ r, r ∉ walk.take k → s.sameRecord t r) ∧
            (s.day.restart = true → leaves .running (some (.item 0)) ∧ asks) ∧
            (s.day.restart = false →
              (walk[k]? = none → leaves .idle none) ∧
              (∀ n, walk[k]? = some (.item, n) → leaves .running (some (.item n)) ∧ asks) ∧
              (∀ n, walk[k]? = some (.title, n) → leaves .running (some (.title n)) ∧ asks))) ∨
          (∃ r, k < 64 ∧ walk[k]? = some r ∧ ¬ t.sweptAt E r ∧
            freePlaces s + s.queue.entries.length < 3 + t.queue.entries.length ∧
            (r.1 = .item → s.sameRecord t r) ∧ (∀ r', r' ∉ walk.take (k + 1) → s.sameRecord t r') ∧
            (s.day.restart = true → leaves .paused (some (.item 0))) ∧
            (s.day.restart = false →
              leaves .paused (some (match r with
                | (.title, n) => .title n
                | (_, n) => .item n)))))) ∧
    (nextRecord s (s.day.pos.getD .first) = none → s.day.restart = false →
      exec .sweepBurst s = .next (refreshAttention (endGrant
        { s with day := { s.day with sweep := .idle, pos := none, restart := false } }))) ∧
    (∀ n r, nextRecord s (s.day.pos.getD .first) = some (.item, n) → viewOf (blockOf .item n) s = .home →
      getItem n s = some r → r.quarantined = false → r.check = .agrees → r.currentTo ≠ E →
      let b := bringUp (classRow s r.cls) (calendarOf s) E n r
      (freePlaces s < 3 → exec .sweepBurst s = .next (refreshAttention (endGrant
        { s with day := { s.day with
          sweep := .paused, pos := some (if s.day.restart then .item 0 else .item n), restart := false } }))) ∧
      (3 ≤ freePlaces s → ∃ t more, exec .sweepBurst s = .next t ∧ getItem n t = some b.1 ∧
        t.queue.entries = (emitAll b.2 s).queue.entries ++ more)) ∧
    (∀ n x, nextRecord s (s.day.pos.getD .first) = some (.title, n) → (∀ p ∈ s.store.titles, p.1 ≤ n) →
      s.day.restart = false → viewOf (blockOf .title n) s = .home → getTitle n s = some x →
      x.quarantined = false → x.checks = true → x.currentTo ≠ E →
      let done := fun u : State => .next (refreshAttention (endGrant
        { u with day := { u.day with sweep := .idle, pos := none, restart := false } }))
      (freePlaces s < 3 → exec .sweepBurst s = .next (refreshAttention (endGrant
        { s with day := { s.day with sweep := .paused, pos := some (.title n), restart := false } }))) ∧
      (3 ≤ freePlaces s → x.expired E = none →
        exec .sweepBurst s = done (putTitle n { x with currentTo := E } s)) ∧
      (∀ h, 3 ≤ freePlaces s → x.expired E = some h →
        let c := settle n (x.dropEntry h.patron)
        let u := enqueueAll (.holdEnded h.patron n .expired :: c.2) (putTitle n c.1 s)
        c.1.expired E = none → 3 ≤ freePlaces u →
          exec .sweepBurst s = done (putTitle n { c.1 with currentTo := E } u)))

/-- TRAP and UNTRAP of a current record: the trapped mark of an ON_LOAN item is set or cleared and nothing is queued. In
any other state the record is unchanged; TRAP queues COPY_STATE reporting the real state, without the refused mark
(R21), and UNTRAP queues nothing (R22). ALLOCATE of a current record: an ON_SHELF item of the carried title becomes PULL
for the hold, a PULL notice goes to its at station and COPY_STATE(AWAY) is queued; in any other state COPY_STATE reports
the real state with the refused mark; another title, or no record, is answered to the carried title with
COPY_STATE(AWAY) and the refused mark, the record standing (R24). That a record of another title is answered so in every
state, and not with its real state, is the model's choice (log entry 37). A routing notice is posted here when the at
station is this station, as PULL for the route PULL and as ROUTE for any other, a full notice queue setting the overflow
mark instead, and leaves as a KIOSK_NOTE to the at station otherwise (R6, R192). -/
def Obligations.TrapUntrapAndAllocate : Prop :=
  (∀ (s : State) (e : Entry) (E n : Nat) (r : Item), s.tablesOk → applied e E s → itemAt n r E s →
     (e.disp = .trap n →
       (∀ b due ren m, r.state = .onLoan b due ren m →
         exec .trap s = .next (afterApplication e
           (putItem n { r with state := .onLoan b due ren true } (dropEntry e.id s)))) ∧
       (r.state.code ≠ .onLoan →
         exec .trap s = .next (afterApplication e
           (enqueue (.copyState r.title n r.state.report false) (dropEntry e.id s))))) ∧
     (e.disp = .untrap n →
       (∀ b due ren m, r.state = .onLoan b due ren m →
         exec .untrap s = .next (afterApplication e
           (putItem n { r with state := .onLoan b due ren false } (dropEntry e.id s)))) ∧
       (r.state.code ≠ .onLoan →
         exec .untrap s = .next (afterApplication e (dropEntry e.id s))))) ∧
  (∀ (s : State) (e : Entry) (E n title p k : Nat), s.tablesOk → applied e E s →
     e.disp = .allocate n title p k →
     (∀ r, itemAt n r E s →
       exec .allocate s = .next (afterApplication e
         (if r.title ≠ title then enqueue (.copyState title n .away true) (dropEntry e.id s)
          else if r.state = .onShelf then
           enqueue (.copyState title n .away false)
             (emit (.notice r.at_ n (.pull k) (some p))
               (putItem n { r with state := .pull ⟨p, k⟩ } (dropEntry e.id s)))
          else enqueue (.copyState title n r.state.report true) (dropEntry e.id s)))) ∧
     (getItem n s = none →
       exec .allocate s = .next (afterApplication e
         (enqueue (.copyState title n .away true) (dropEntry e.id s))))) ∧
  (∀ (u : State) (st n : Nat) (route : Route) (p : Option Nat),
     let posted := emit (.notice st n route p) u
     (st = stationNo u → u.port.notices.length < 32 →
       posted = { u with port := { u.port with
         notices := u.port.notices ++ [match route with
           | .pull _ => .pull n route p
           | _ => .route n route p] } }) ∧
     (st = stationNo u → 32 ≤ u.port.notices.length →
       posted = { u with port := { u.port with overflow := true } }) ∧
     (st ≠ stationNo u → posted = { u with queue :=
       ⟨u.queue.entries ++ [⟨u.queue.nextId, .outbound, .kioskNote st n route p, 0, .queued⟩],
         u.queue.nextId + 1⟩ }))

/-- REDIRECT of a current record: an item set apart from its shelf is placed by its location for the new hold (HELD with
a window from E at the pickup station, in transit to it elsewhere), a PULL item keeps its state with the new target, and
a routing notice goes to the at station; in ON_SHELF, ON_LOAN and LOST the record is unchanged and COPY_STATE reports
the real state with the refused mark (R25). RELEASE of a current record: the hold target is removed and the item goes
back toward its shelf, with a routing notice without a patron and COPY_STATE of the new state; in ON_SHELF, ON_LOAN and
LOST the record is unchanged and COPY_STATE reports the real state without the refused mark (R26). A TRAP, UNTRAP,
REDIRECT or RELEASE that finds no record is dropped, and a dispatch of these kinds or an ALLOCATE that finds a
quarantined record is discarded and entered as a fault (R23). One that finds a check word that fails marks the record
and gives two faults, the failed check first and then the discard (R181, R185). The first fault fills the EMPTY capture
and posts a FAULT notice; a later one only sets the further-faults mark (R185). -/
def Obligations.RedirectAndReleasePlaceTheCopy : Prop :=
  (∀ (s : State) (e : Entry) (E n p k : Nat) (r : Item), s.tablesOk → applied e E s → itemAt n r E s →
     e.disp = .redirect n p k →
     let q := dropEntry e.id s
     (r.state.code = .awaitRoute ∨ r.state.code = .inTransit ∨ r.state.code = .held →
       exec .redirect s = .next (afterApplication e
         (if r.at_ = k then
           emit (.notice r.at_ n .holdShelf (some p))
             (putItem n { r with state := .held ⟨p, k⟩ E (capDay (E + pickupWindow s)) false } q)
          else
           emit (.notice r.at_ n (.send k) (some p))
             (putItem n { r with state := .inTransit (some ⟨p, k⟩) k } q)))) ∧
     (r.state.code = .pull →
       exec .redirect s = .next (afterApplication e
         (emit (.notice r.at_ n (.pull k) (some p)) (putItem n { r with state := .pull ⟨p, k⟩ } q)))) ∧
     (r.state.code = .onShelf ∨ r.state.code = .onLoan ∨ r.state.code = .lost →
       exec .redirect s = .next (afterApplication e
         (enqueue (.copyState r.title n r.state.report true) q)))) ∧
  (∀ (s : State) (e : Entry) (E n : Nat), s.tablesOk → applied e E s → e.disp = .release n →
     let q := dropEntry e.id s
     (∀ r, itemAt n r E s →
       (r.state.code = .awaitRoute ∨ r.state.code = .held →
         exec .release s = .next (afterApplication e
           (if r.at_ = r.shelf then
             enqueue (.copyState r.title n .shelf false)
               (emit (.notice r.at_ n .shelve none) (putItem n { r with state := .onShelf } q))
            else
             enqueue (.copyState r.title n .away false)
               (emit (.notice r.at_ n (.send r.shelf) none)
                 (putItem n { r with state := .inTransit none r.shelf } q))))) ∧
       (r.state.code = .pull →
         exec .release s = .next (afterApplication e
           (enqueue (.copyState r.title n .shelf false)
             (emit (.notice r.at_ n .shelve none) (putItem n { r with state := .onShelf } q))))) ∧
       (r.state.code = .inTransit →
         exec .release s = .next (afterApplication e
           (enqueue (.copyState r.title n .away false)
             (emit (.notice r.at_ n (.send r.shelf) none)
               (putItem n { r with state := .inTransit none r.shelf } q))))) ∧
       (r.state.code = .onShelf ∨ r.state.code = .onLoan ∨ r.state.code = .lost →
         exec .release s = .next (afterApplication e
           (enqueue (.copyState r.title n r.state.report false) q))))) ∧
  (∀ (s : State) (e : Entry) (E n : Nat) (i : Instr), s.tablesOk → applied e E s →
     let q := dropEntry e.id s
     ((i = .trap ∧ e.disp = .trap n) ∨ (i = .untrap ∧ e.disp = .untrap n) ∨
         (i = .redirect ∧ ∃ p k, e.disp = .redirect n p k) ∨ (i = .release ∧ e.disp = .release n) →
       getItem n s = none → exec i s = .next (afterApplication e q)) ∧
     ((i = .trap ∧ e.disp = .trap n) ∨ (i = .untrap ∧ e.disp = .untrap n) ∨
         (i = .redirect ∧ ∃ p k, e.disp = .redirect n p k) ∨ (i = .release ∧ e.disp = .release n) ∨
         (i = .allocate ∧ ∃ x p k, e.disp = .allocate n x p k) →
       ∀ r, getItem n s = some r →
         let discarded := fun u => exec i s = .next (afterApplication e
           (recordFault ⟨.dispatchDiscarded, .item, n, .line, E, some e.disp⟩ u))
         (r.quarantined = true → discarded q) ∧
         (r.quarantined = false → ¬ r.wordAgrees n →
           discarded (recordFault ⟨.checkFailed, .item, n, .line, E, none⟩ (markItem n r q))))) ∧
  (∀ (u : State) (f : CapturedFault),
     (u.capture.captured = none → u.port.notices.length < 32 →
       recordFault f u = { u with
         capture := ⟨some f, u.capture.further⟩
         port := { u.port with notices := u.port.notices ++ [.fault f.cause f.space f.number] } }) ∧
     (u.capture.captured ≠ none →
       recordFault f u = { u with capture := { u.capture with further := true } }))

/-! ## Titles at their home (chapter 2) -/

/-- The settle leaves a title balanced, whatever it was: no copy on the shelf while a hold waits (R33), and as many
loans trapped as the smaller of the WAITING entries and the copies in LOAN (R34). The copies have distinct items, as R28
says. It changes no number of copies or of holds. With the copies in ascending order of their items (R28) and one entry
to a patron (R29): the WAITING entries, oldest first, are paired with the SHELF copies, lowest item first, each entry
becoming ALLOCATED and its copy AWAY for its patron (R33); the loans trapped are the untrapped ones of the earliest due
days, the lowest items first among equal days, and those untrapped are the trapped ones of the latest due days, the
highest items first (R34). No other copy or entry changes, and the dispatches are exactly the ALLOCATE of each pair, the
TRAP of each loan trapped and the UNTRAP of each loan untrapped, in that order. -/
def Obligations.SettleLeavesTheTitleBalanced : Prop :=
  (∀ (n : Nat) (t : Title), (t.copies.map CopyRef.item).Nodup →
    (settle n t).1.balanced ∧
      (settle n t).1.copies.map CopyRef.item = t.copies.map CopyRef.item ∧
      (settle n t).1.holds.map HoldEntry.patron = t.holds.map HoldEntry.patron) ∧
  (∀ (n : Nat) (t : Title), (t.copies.map CopyRef.item).Pairwise (· < ·) →
    (t.holds.map HoldEntry.patron).Nodup →
    let waiting := t.holds.filter fun h => h.state == .waiting
    let pairs := waiting.zip (t.copies.filter fun c => c.view == .shelf)
    let loans := t.copies.filter CopyRef.onLoan
    let marked := t.copies.filter CopyRef.isTrapped
    let target := min (waiting.length - pairs.length) loans.length
    let sooner := fun a b : CopyRef => a.due < b.due ∨ (a.due = b.due ∧ a.item < b.item)
    ∃ traps untraps : List CopyRef,
      (settle n t).2 = pairs.map (fun p => .allocate p.2.item n p.1.patron p.1.pickup) ++
        traps.map (fun c => .trap c.item) ++ untraps.map (fun c => .untrap c.item) ∧
      traps.length = target - marked.length ∧ untraps.length = marked.length - target ∧
      traps.Pairwise sooner ∧ (∀ c ∈ traps, c ∈ loans ∧ c ∉ marked) ∧
      (∀ c ∈ loans, c ∉ marked → c ∉ traps → ∀ d ∈ traps, sooner d c) ∧
      untraps.Pairwise (fun a b => sooner b a) ∧ (∀ c ∈ untraps, c ∈ marked) ∧
      (∀ c ∈ marked, c ∉ untraps → ∀ d ∈ untraps, sooner c d) ∧
      (settle n t).1 = { t with
        holds := t.holds.map fun h =>
          match pairs.find? fun p => p.1.patron == h.patron with
          | some p => { h with state := .allocated p.2.item }
          | none => h
        copies := t.copies.map fun c =>
          match pairs.find? fun p => p.2.item == c.item with
          | some p => { c with view := .away (some p.1.patron) }
          | none =>
            if c ∈ traps then { c with view := .loan c.due true }
            else if c ∈ untraps then { c with view := .loan c.due false }
            else c })

/-- The touch of a title that is not current, before an operation: with no expired WAITING entry the current-to day is
set; otherwise the oldest expired entry is removed with HOLD_ENDED(EXPIRED) and a settle, and the operation goes on from
there; and where 2 places beyond the 3 cannot be reserved, the touch stops and the operation is answered DEFERRED (R31).
A dispatch for a title is touched in the same way, and where its touch stops it is still applied to the title as the
touch left it, the current-to day unchanged (R44). -/
def Obligations.TouchRemovesExpiredHoldsFirst : Prop :=
  (∀ (s : State) (o : OwnerOp) (who : Requester) (E n : Nat) (t : Title),
    o.target = (.title, n) → (∀ h, o ≠ .titleCreate n h) →
    viewOf o.block s = .home → 3 ≤ freePlaces s →
    getTitle n s = some t → t.quarantined = false → t.checks = true → t.currentTo ≠ E →
    (t.expired E = none →
      applyOp o who E s = applyOp o who E (putTitle n { t with currentTo := E } s)) ∧
    (∀ h, t.expired E = some h →
      let c := settle n (t.dropEntry h.patron)
      let s1 := enqueueAll (.holdEnded h.patron n .expired :: c.2) (putTitle n c.1 s)
      (freePlaces s < 5 → applyOp o who E s = (s, .deferred)) ∧
      (5 ≤ freePlaces s → 3 ≤ freePlaces s1 → applyOp o who E s = applyOp o who E s1))) ∧
  (∀ (s : State) (e : Entry) (E n : Nat) (t : Title) (i : Instr), applied e E s →
    (i, e.disp.kind) ∈ dispatchRows → e.disp.target = some (.title, n) →
    getTitle n s = some t → t.quarantined = false → t.checks = true → t.currentTo ≠ E →
    let q := dropEntry e.id s
    let out := fun (day : Nat) (u : State) =>
      exec i s = .next (afterApplication e (applyDispatch e.disp day u))
    (t.expired E = none → out E (putTitle n { t with currentTo := E } q)) ∧
    (∀ h, t.expired E = some h →
      let c := settle n (t.dropEntry h.patron)
      (freePlaces q < 5 → out t.currentTo q) ∧
      (5 ≤ freePlaces q →
        out E (enqueueAll (.holdEnded h.patron n .expired :: c.2) (putTitle n c.1 q)))))

/-- TITLE_CREATE at its grant: refused EXISTS, then POOL_FULL, else an empty title is made (R37). TITLE_DELETE removes a
title whose lists are both empty, and a quarantined one whatever it holds, answering the numbers removed; otherwise it
is refused NOT_EMPTY (R38). TITLE_READ answers the counts of a current record and, when asked, the patron's entry,
absent when the patron has none; each count is the number of list entries it counts, and the position is the entry's
place in the queue, the first being 1. In a LENDING block it is served from the record as stored (R43). That
TITLE_CREATE checks no word of the title it finds, and so sets no mark on one that would fail, is the model's choice
(log entry 42). -/
def Obligations.TitlesAreMadeReadAndRemoved : Prop :=
  (∀ (s : State) (who : Requester) (E n : Nat),
     (∀ h, granted (.titleCreate n h) who E s →
       exec .titleCreate s = .next
         (if (getTitle n s).isSome then afterAnswer (.refused .exists_ .nothing) s
          else if freeTitles s = 0 then afterAnswer (.refused .poolFull .nothing) s
          else afterAnswer (.done (.titleCreated n)) (putTitle n ⟨h, [], [], E, false, .agrees⟩ s))) ∧
     (∀ t, granted (.titleDelete n) who E s →
       (titleAt n t E s ∧ t.copies = [] ∧ t.holds = []) ∨
         (getTitle n s = some t ∧ t.quarantined = true) →
       exec .titleDelete s = .next
         (afterAnswer (.done (.titleDeleted n t.copies.length t.holds.length)) (dropTitle n s))) ∧
     (∀ t, granted (.titleDelete n) who E s → titleAt n t E s → (t.copies ≠ [] ∨ t.holds ≠ []) →
       exec .titleDelete s = .next (afterAnswer (.refused .notEmpty .nothing) s))) ∧
  (∀ (s : State) (who : Requester) (E n : Nat) (asked : Option Nat) (t : Title),
     (granted (.titleRead n asked) who E s ∧ titleAt n t E s) ∨
       (heldOp s = some ⟨.titleRead n asked, who, E⟩ ∧
         (∃ st, viewOf (blockOf .title n) s = .lending st) ∧ getTitle n s = some t ∧
         t.quarantined = false ∧ t.checks = true) →
     ∃ (u : State) (a : TitleSummary), exec .titleRead s = .next (afterAnswer (.done (.titleSummary a)) u) ∧
       (u = s ∨ u = putTitle n t s) ∧
       a.holdable = t.holdable ∧ a.currentTo = t.currentTo ∧ a.entries = t.holds.length ∧
       a.waiting = (t.holds.filter fun h => h.state == .waiting).length ∧
       a.allocated = (t.holds.filter fun h => h.state != .waiting).length ∧
       a.shelf = (t.copies.filter fun c => c.view == .shelf).length ∧
       a.loan = (t.copies.filter fun c => match c.view with | .loan .. => true | _ => false).length ∧
       a.away = (t.copies.filter fun c => match c.view with | .away _ => true | _ => false).length ∧
       a.lost = (t.copies.filter fun c => c.view == .lost).length ∧
       a.trapped = (t.copies.filter fun c => match c.view with | .loan _ m => m | _ => false).length ∧
       (asked = none → a.entry = none) ∧
       (∀ p, asked = some p → t.entryOf p = none → a.entry = none) ∧
       (∀ p h, asked = some p → t.entryOf p = some h → ∃ x, a.entry = some x ∧ x.pickup = h.pickup ∧
         x.expiry = h.expiry ∧ (x.allocated = true ↔ h.state ≠ .waiting) ∧
         ∃ l r, t.holds = l ++ h :: r ∧ x.position = l.length + 1))

/-- COPY_ADD at its grant: refused NOT_ENROLLED without a record, EXISTS, COPIES_FULL and POOL_FULL in this order; past
them the copy joins in SHELF in its place by item number, the list staying in ascending order, the title is settled, and
the answer is the number of copies (R39, R28). HOLD_ADD at its grant: refused NOT_HOLDABLE, NO_COPIES, DUPLICATE_HOLD,
QUEUE_FULL and POOL_FULL in this order (R40); past them the entry joins the tail WAITING, placed at E and expiring after
the hold life, the title is settled, and the answer is the entry's position and whether the settle allocated it
(R41). -/
def Obligations.CopyAddAndHoldAdd : Prop :=
  (∀ (s : State) (who : Requester) (E n item : Nat), granted (.copyAdd n item) who E s →
     (getTitle n s = none →
       exec .copyAdd s = .next (afterAnswer (.refused .notEnrolled .nothing) s)) ∧
     (∀ t, titleAt n t E s →
       let added : Title := { t with copies := insertCopy ⟨item, .shelf, .agrees⟩ t.copies }
       let c := settle n added
       (exec .copyAdd s = .next
         (if (t.copyOf item).isSome then afterAnswer (.refused .exists_ .nothing) s
          else if 16 ≤ t.copies.length then afterAnswer (.refused .copiesFull .nothing) s
          else if freeCopies s = 0 then afterAnswer (.refused .poolFull .nothing) s
          else
           afterAnswer (.done (.copyAdded (t.copies.length + 1)))
             (enqueueAll c.2 (putTitle n c.1 s)))) ∧
       ((t.copies.map CopyRef.item).Pairwise (· < ·) → t.copyOf item = none →
         (c.1.copies.map CopyRef.item).Pairwise (· < ·)))) ∧
  (∀ (s : State) (who : Requester) (E n p k : Nat) (t : Title),
     granted (.holdAdd n p k) who E s → titleAt n t E s →
     let c := settle n
       { t with holds := t.holds ++ [⟨p, k, E, capDay (E + holdLife s), .waiting, .agrees⟩] }
     exec .holdAdd s = .next
       (if t.holdable = false then afterAnswer (.refused .notHoldable .nothing) s
        else if ∀ c ∈ t.copies, c.view = .lost then afterAnswer (.refused .noCopies .nothing) s
        else if (t.entryOf p).isSome then afterAnswer (.refused .duplicateHold .nothing) s
        else if 32 ≤ t.holds.length then afterAnswer (.refused .queueFull .nothing) s
        else if freeHolds s = 0 then afterAnswer (.refused .poolFull .nothing) s
        else
         afterAnswer
           (.done (.holdAdded (t.holds.length + 1) ((c.1.entryOf p).bind HoldEntry.item).isSome))
           (enqueueAll c.2 (putTitle n c.1 s))))

/-- HOLD_DROP at its grant: refused NOT_FOUND without an entry of the patron; otherwise the entry leaves the queue with
HOLD_ENDED(CANCELLED), the copy of an ALLOCATED entry goes to the oldest WAITING entry by REDIRECT or is released, and
the title is settled (R42, R36). -/
def Obligations.HoldDropReassignsTheCopy : Prop :=
  ∀ (s : State) (who : Requester) (E n p : Nat) (t : Title),
    granted (.holdDrop n p) who E s → titleAt n t E s →
    let left := t.dropEntry p
    let ended := Dispatch.holdEnded p n .cancelled
    (t.entryOf p = none →
      exec .holdDrop s = .next (afterAnswer (.refused .notFound .nothing) s)) ∧
    (∀ h, t.entryOf p = some h → h.state = .waiting →
      let c := settle n left
      exec .holdDrop s = .next (afterAnswer (.done (.holdDropped none))
        (enqueueAll (ended :: c.2) (putTitle n c.1 s)))) ∧
    (∀ h i, t.entryOf p = some h → h.state = .allocated i →
      (left.oldestWaiting = none →
        let c := settle n (left.setCopy i (.away none))
        exec .holdDrop s = .next (afterAnswer (.done (.holdDropped (some i)))
          (enqueueAll (ended :: .release i :: c.2) (putTitle n c.1 s)))) ∧
      (∀ w, left.oldestWaiting = some w →
        let c := settle n
          ((left.setEntry w.patron (.allocated i)).setCopy i (.away (some w.patron)))
        exec .holdDrop s = .next (afterAnswer (.done (.holdDropped (some i)))
          (enqueueAll (ended :: .redirect i w.patron w.pickup :: c.2) (putTitle n c.1 s)))))

/-- COPY_STATE of a current title: without a reference for the item only the settle is made; otherwise the reference
takes the reported view (a loan that stays a loan keeps its trapped mark, a copy that stays AWAY without the refused
mark keeps its allocation), an allocation ends, its entry WAITING again in its place, at a refused report or one other
than AWAY, and the title is settled (R45, R46, R35). Without a record the COPY_STATE is dropped (R44). A dispatch of any
kind for a title that finds a quarantined record is discarded and entered as a fault (R44), and one that finds a check
word that fails marks the record and gives two faults, the failed check first (R181, R185). -/
def Obligations.CopyStateMovesTheView : Prop :=
  (∀ (s : State) (e : Entry) (E n : Nat) (i : Instr), applied e E s → (i, e.disp.kind) ∈ dispatchRows →
    e.disp.target = some (.title, n) →
    let q := dropEntry e.id s
    let discarded := fun u => exec i s = .next (afterApplication e
      (recordFault ⟨.dispatchDiscarded, .title, n, .line, E, some e.disp⟩ u))
    (e.disp.kind = .copyState → getTitle n s = none → exec i s = .next (afterApplication e q)) ∧
    (∀ t, getTitle n s = some t → t.quarantined = true → discarded q) ∧
    (∀ t, getTitle n s = some t → t.quarantined = false → ¬ t.wordsAgree n →
      discarded (recordFault ⟨.checkFailed, .title, n, .line, E, none⟩ (markTitle n t q)))) ∧
  (∀ (s : State) (e : Entry) (E n item : Nat) (rep : CopyReport) (refused : Bool) (t : Title),
    applied e E s → titleAt n t E s → e.disp = .copyState n item rep refused →
    let out := fun t1 => exec .copyState s = .next (afterApplication e
      (enqueueAll (settle n t1).2 (putTitle n (settle n t1).1 (dropEntry e.id s))))
    (t.copyOf item = none → out t) ∧
    (∀ c, t.copyOf item = some c →
      let ended := match c.allocatedTo with
        | some p => t.setEntry p .waiting
        | none => t
      (rep = .shelf → out (ended.setCopy item .shelf)) ∧
      (rep = .lost → out (ended.setCopy item .lost)) ∧
      (∀ d, rep = .loan d → out (ended.setCopy item (.loan d c.isTrapped))) ∧
      (rep = .away → refused = true → out (ended.setCopy item (.away none))) ∧
      (rep = .away → refused = false → out (t.setCopy item (.away c.allocatedTo)))))

/-- COPY_FREE of a current title whose list holds the copy, in LOAN: the reference becomes AWAY and goes to the oldest
WAITING entry by REDIRECT, or RELEASE is queued, and the title is settled; without a reference, and without a record,
RELEASE is queued (R47). HOLD_FILLED of a current title: the patron's entry leaves the queue with HOLD_ENDED(FILLED);
the carried copy loses its allocation and stays AWAY, and another copy the entry was allocated to is reassigned; without
an entry nothing changes but the settle (R48, R36), and without a record the dispatch is dropped (R44). -/
def Obligations.CopyFreeAndHoldFilled : Prop :=
  (∀ (s : State) (e : Entry) (E n item st : Nat), applied e E s → e.disp = .copyFree n item st →
     (getTitle n s = none →
       exec .copyFree s = .next (afterApplication e
         (enqueue (.release item) (dropEntry e.id s)))) ∧
     (∀ t, titleAt n t E s →
       let out := fun ds t1 => exec .copyFree s = .next (afterApplication e
         (enqueueAll (ds ++ (settle n t1).2) (putTitle n (settle n t1).1 (dropEntry e.id s))))
       (t.copyOf item = none → out [.release item] t) ∧
       (∀ c, t.copyOf item = some c → c.allocatedTo = none →
         (t.oldestWaiting = none → out [.release item] (t.setCopy item (.away none))) ∧
         (∀ w, t.oldestWaiting = some w →
           out [.redirect item w.patron w.pickup]
             ((t.setEntry w.patron (.allocated item)).setCopy item (.away (some w.patron))))))) ∧
  (∀ (s : State) (e : Entry) (E n p item : Nat), applied e E s → e.disp = .holdFilled n p item →
     getTitle n s = none → exec .holdFilled s = .next (afterApplication e (dropEntry e.id s))) ∧
  (∀ (s : State) (e : Entry) (E n p item : Nat) (t : Title),
     applied e E s → titleAt n t E s → e.disp = .holdFilled n p item →
     let out := fun ds t1 => exec .holdFilled s = .next (afterApplication e
       (enqueueAll (ds ++ (settle n t1).2) (putTitle n (settle n t1).1 (dropEntry e.id s))))
     let ended := Dispatch.holdEnded p n .filled
     let left := t.dropEntry p
     (t.entryOf p = none → out [] t) ∧
     (∀ h, t.entryOf p = some h →
       (h.state = .waiting → out [ended] left) ∧
       (h.state = .allocated item → out [ended] (left.setCopy item (.away none))) ∧
       (∀ i, h.state = .allocated i → i ≠ item →
         (left.oldestWaiting = none → out [ended, .release i] (left.setCopy i (.away none))) ∧
         (∀ w, left.oldestWaiting = some w →
           out [ended, .redirect i w.patron w.pickup]
             ((left.setEntry w.patron (.allocated i)).setCopy i (.away (some w.patron)))))))

/-- PICKUP_LAPSED of a current title: an entry ALLOCATED to the carried copy leaves the queue with HOLD_ENDED(LAPSED)
and the copy is reassigned; otherwise the copy is released unless it is allocated. Without a record the copy is released
(R49, R36). COPY_REMOVE takes the reference out of the list, its entry WAITING again (R50, R35). Each is settled. -/
def Obligations.PickupLapsedAndCopyRemove : Prop :=
  ∀ (s : State) (e : Entry) (E n item : Nat), applied e E s →
    (∀ p, e.disp = .pickupLapsed n p item →
      (getTitle n s = none →
        exec .pickupLapsed s = .next (afterApplication e
          (enqueue (.release item) (dropEntry e.id s)))) ∧
      (∀ t, titleAt n t E s →
        let out := fun ds t1 => exec .pickupLapsed s = .next (afterApplication e
          (enqueueAll (ds ++ (settle n t1).2) (putTitle n (settle n t1).1 (dropEntry e.id s))))
        let left := t.dropEntry p
        (∀ h, t.entryOf p = some h → h.state = .allocated item →
          (left.oldestWaiting = none →
            out [.holdEnded p n .lapsed, .release item] (left.setCopy item (.away none))) ∧
          (∀ w, left.oldestWaiting = some w →
            out [.holdEnded p n .lapsed, .redirect item w.patron w.pickup]
              ((left.setEntry w.patron (.allocated item)).setCopy item (.away (some w.patron))))) ∧
        ((∀ h, t.entryOf p = some h → h.state ≠ .allocated item) →
          ((∃ c q, t.copyOf item = some c ∧ c.allocatedTo = some q) → out [] t) ∧
          ((∀ c, t.copyOf item = some c → c.allocatedTo = none) → out [.release item] t)))) ∧
    (e.disp = .copyRemove n item →
      (getTitle n s = none → exec .copyRemove s = .next (afterApplication e (dropEntry e.id s))) ∧
      (∀ t, titleAt n t E s →
        let out := fun t1 => exec .copyRemove s = .next (afterApplication e
          (enqueueAll (settle n t1).2 (putTitle n (settle n t1).1 (dropEntry e.id s))))
        (t.copyOf item = none → out t) ∧
        (∀ c, t.copyOf item = some c →
          (c.allocatedTo = none → out (t.dropCopy item)) ∧
          (∀ p, c.allocatedTo = some p → out ((t.setEntry p .waiting).dropCopy item)))))

/-! ## Patrons at their home (chapter 4) -/

/-- PATRON_CREATE at its grant: refused EXISTS, then POOL_FULL, else a record with balance and counts 0 and both marks
clear is made (R71). PATRON_SET replaces each field carried and keeps the others (R72). PATRON_DELETE removes a record
whose counts and balance are 0, and a quarantined one whatever it holds; otherwise it is refused NOT_EMPTY with the
three values and the record stands (R73). PAY takes the smaller of the amount and the balance, and clears the saturated
mark when it takes money (R67, R80). ACCOUNT_READ answers the fields of the record and changes nothing; a LENDING block
serves it from the record as stored (R81, R69). That PATRON_CREATE checks no word of the record it finds, and so sets no
mark on one that would fail, is the model's choice (log entry 42), and that a PATRON_SET carrying neither field is
answered DONE is its reading (log entry 13). -/
def Obligations.PatronRecordsAndPayments : Prop :=
  (∀ (s : State) (who : Requester) (E n : Nat),
     (∀ c x, granted (.patronCreate n c x) who E s →
       exec .patronCreate s = .next
         (if (getPatron n s).isSome then afterAnswer (.refused .exists_ .nothing) s
          else if freePatrons s = 0 then afterAnswer (.refused .poolFull .nothing) s
          else
           afterAnswer (.done (.patronCreated n x)) (putPatron n ⟨c, x, 0, false, 0, 0, false, .agrees⟩ s))) ∧
     (∀ p c x, granted (.patronSet n c x) who E s → patronAt n p s →
       exec .patronSet s = .next
         (afterAnswer (.done (.patronSet (c.getD p.category) (x.getD p.cardExpiry)))
           (putPatron n { p with category := c.getD p.category, cardExpiry := x.getD p.cardExpiry } s))) ∧
     (∀ p, granted (.patronDelete n) who E s →
       (patronAt n p s ∧ p.loans = 0 ∧ p.holds = 0 ∧ p.balance = 0) ∨
         (getPatron n s = some p ∧ p.quarantined = true) →
       exec .patronDelete s = .next (afterAnswer (.done (.patronDeleted n)) (dropPatron n s))) ∧
     (∀ p, granted (.patronDelete n) who E s → patronAt n p s →
       (0 < p.loans ∨ 0 < p.holds ∨ 0 < p.balance) →
       exec .patronDelete s = .next
         (afterAnswer (.refused .notEmpty (.notEmpty p.loans p.holds p.balance)) s))) ∧
  (∀ (s : State) (who : Requester) (E n : Nat) (p : Patron), s.tablesOk → patronAt n p s →
     (∀ amount, granted (.pay n amount) who E s →
       let taken := min amount p.balance
       let sat := p.saturated && decide (taken = 0)
       exec .pay s = .next
         (afterAnswer (.done (.paid taken (p.balance - taken) sat))
           (putPatron n { p with balance := p.balance - taken, saturated := sat } s))) ∧
     (granted (.accountRead n) who E s ∨
         (heldOp s = some ⟨.accountRead n, who, E⟩ ∧ ∃ st, viewOf (blockOf .patron n) s = .lending st) →
       exec .accountRead s = .next
         (afterAnswer
           (.done (.account p.balance p.saturated p.loans p.holds p.cardExpiry p.category)) s)))

/-- The standing decision of STANDING (purpose RENEW), LOAN_OPEN (LEND) and HOLD_OPEN (RESERVE): a card whose expiry day
is not later than E is refused CARD_EXPIRED with that day (R74); the first true test of the category row refuses BLOCKED
with its index, its quantity and the value read (R75); otherwise the answer is DONE, and LOAN_OPEN raises the loan count
and HOLD_OPEN the hold count by 1, staying at 255 (R76, R77, R78, R68). STANDING is decided in the same way from the
record as stored in a LENDING block, with or without room for dispatches (R76, R69). -/
def Obligations.StandingDecisions : Prop :=
  ∀ (s : State) (who : Requester) (E n : Nat) (p : Patron) (i : Instr) (o : OwnerOp) (purpose : Purpose),
    (i = .standing ∧ o = .standing n ∧ purpose = .renew) ∨
      (i = .loanOpen ∧ o = .loanOpen n ∧ purpose = .lend) ∨
      (i = .holdOpen ∧ o = .holdOpen n ∧ purpose = .reserve) →
    s.tablesOk → patronAt n p s →
    granted o who E s ∨ (i = .standing ∧ heldOp s = some ⟨o, who, E⟩ ∧
      ∃ st, viewOf (blockOf .patron n) s = .lending st) →
    let row := (s.conf.categoryTable.getD []).getD p.category []
    (p.cardExpiry ≤ E →
      exec i s = .next (afterAnswer (.refused .cardExpired (.cardExpired p.cardExpiry)) s)) ∧
    (∀ k t, E < p.cardExpiry → row[k]? = some t → t.trueOf purpose p →
      (∀ j u, j < k → row[j]? = some u → ¬ u.trueOf purpose p) →
      ∃ v, exec i s = .next (afterAnswer (.refused .blocked (.blocked k t.quantity v)) s) ∧
        (t.quantity = .balance → v = p.balance) ∧ (t.quantity = .loans → v = p.loans) ∧
        (t.quantity = .holds → v = p.holds)) ∧
    (E < p.cardExpiry → (∀ t ∈ row, ¬ t.trueOf purpose p) →
      exec i s = .next
        (match purpose with
         | .renew => afterAnswer (.done (.standing p.cardExpiry p.balance)) s
         | .lend =>
           let c := if p.loans < 255 then p.loans + 1 else p.loans
           afterAnswer (.done (.loanOpened p.cardExpiry p.balance c)) (putPatron n { p with loans := c } s)
         | .reserve =>
           let c := if p.holds < 255 then p.holds + 1 else p.holds
           afterAnswer (.done (.holdOpened p.cardExpiry p.balance c))
             (putPatron n { p with holds := c } s)))

/-- The patron dispatches: CHARGE raises the balance, clamped at 500,000 with the saturated mark set when the sum
exceeds it (R83, R67); CREDIT lowers it to no less than 0 and leaves the mark (R84); LOAN_CLOSE and HOLD_ENDED lower a
count to no less than 0 (R85, R68). They queue nothing. Without a record the dispatch is dropped, and a quarantined
record makes it a captured fault (R82). A check word that fails marks the record and gives two faults, the failed check
first and then the discard (R181, R185). -/
def Obligations.PatronDispatchesChangeTheAccount : Prop :=
  ∀ (s : State) (e : Entry) (E n : Nat) (i : Instr) (change : Patron → Patron), applied e E s →
    (∃ c item why, i = .charge ∧ e.disp = .charge n c item why ∧ change = fun p =>
        if 500000 < p.balance + c then { p with balance := 500000, saturated := true }
        else { p with balance := p.balance + c }) ∨
      (∃ c item, i = .credit ∧ e.disp = .credit n c item ∧
        change = fun p => { p with balance := p.balance - c }) ∨
      (i = .loanClose ∧ e.disp = .loanClose n ∧ change = fun p => { p with loans := p.loans - 1 }) ∨
      (∃ t why, i = .holdEnded ∧ e.disp = .holdEnded n t why ∧
        change = fun p => { p with holds := p.holds - 1 }) →
    let q := dropEntry e.id s
    (∀ p, patronAt n p s → exec i s = .next (afterApplication e (putPatron n (change p) q))) ∧
    (getPatron n s = none → exec i s = .next (afterApplication e q)) ∧
    (∀ p, getPatron n s = some p →
      let discarded := fun u => exec i s = .next (afterApplication e
        (recordFault ⟨.dispatchDiscarded, .patron, n, .line, E, some e.disp⟩ u))
      (p.quarantined = true → discarded q) ∧
      (p.quarantined = false → ¬ p.wordAgrees n →
        discarded (recordFault ⟨.checkFailed, .patron, n, .line, E, none⟩ (markPatron n p q))))

/-- The overdue fine: the open count is the number of open days after the due day up to the event day (R86), and the
fine is 0 when that count is at most the grace, else the smaller of rate times count and the cap (R87). The due day: the
base plus the period, limited to 65,535; else moved to the first open day among it and the 14 days after it, or by 14
days when all fifteen are closed, and limited to 65,535; then cut to the card expiry day, with the "shortened by card"
mark exactly when the card expiry day is smaller (R89). A day is open unless its weekday or the day itself is closed
(R57). -/
def Obligations.FineAndDueDay : Prop :=
  (∀ (row : ClassRow) (cal : Calendar) (due event : Nat),
     let n := ((List.range (event + 1)).filter fun d => decide (due < d) && isOpen cal d).length
     openCount cal due event = n ∧
       overdueFine row cal due event = if n ≤ row.grace then 0 else min (row.rate * n) row.cap) ∧
  (∀ (cal : Calendar) (base period x : Nat),
     let c := dueCandidate cal base period
     (dueDay cal base period x).1 = min c x ∧
       ((dueDay cal base period x).2 = true ↔ x < c) ∧
       (65535 < base + period → c = 65535) ∧
       (∀ k, base + period ≤ 65535 → k ≤ 14 → isOpen cal (base + period + k) = true →
         (∀ j, j < k → isOpen cal (base + period + j) = false) → c = min (base + period + k) 65535) ∧
       (base + period ≤ 65535 → (∀ j, j ≤ 14 → isOpen cal (base + period + j) = false) →
         c = min (base + period + 14) 65535) ∧
       ∀ d, isOpen cal d = true ↔
         cal.closedMask.testBit ((cal.weekday0 + d) % 7) = false ∧ d ∉ cal.closedDays)

/-! ## Start reset, configuration and join (chapters 9 and 11) -/

/-- A start reset between grants leaves the records, the format stamp, the views, the serial, the county day and the
dispatch queue, with every entry QUEUED, and everything else as State.reset has it (R199, R178, R153, R52, R120). At
every moment it clears every volatile state. A start reset within a grant leaves the part as one between grants does
after the whole commit units that were complete, records, dispatch queue, views and serial together (R5, R179): none of
the grant's work with none; of an owner operation or an application the quarantine mark of a failed check alone, the
operation without its answer, or all of it; the freeze, the read or the write of a unit whole; of a LAST frame its unit
alone, or the decision with it; and of a freeing the records freed so far. Of a sweep's burst it leaves exactly as many
units as were complete, those that come first in the walk, or the whole burst where that has no more: one for each item
brought current and each record marked, one for each expired entry removed with its settle, one for each title made
current, each with its dispatches (R59, R63, R179, R181); so the first item that needs its transition is brought up once
1 unit is complete. Within the store erase of a JOIN it leaves the format stamp absent until the last stage, so that the
next join erases again, whatever its erase flag; after the last stage the erase stands whole (R187). The erase's
division into five stages, an operation's into its mark, its change and its answer, and a title's last unit in a burst,
its current-to day, are the model's (log entry 30), and so is the order in which a freeing takes the records (log entry
44). -/
def Obligations.StartResetKeepsWholeUnits : Prop :=
  (∀ s : State,
     exec (.startReset .quiet) s = .next
       { State.reset with
         store := s.store
         day := { State.reset.day with county := s.day.county }
         queue := { s.queue with entries := s.queue.entries.map fun e => { e with phase := .queued } }
         map := { State.reset.map with views := s.map.views, serial := s.map.serial }
         free := s.free
         pending := s.pending } ∧
     ∀ m, ∃ t, exec (.startReset m) s = .next t ∧ t.station = .unconfigured ∧ t.conf = {} ∧
       t.ctxs = State.reset.ctxs ∧ t.line = State.reset.line ∧ t.port = State.reset.port ∧
       t.arb = State.reset.arb ∧ t.capture = State.reset.capture ∧ t.hand = .idle ∧
       t.map.census = [] ∧ t.map.censusWait = [] ∧ t.map.moved = [] ∧ t.map.probe = none ∧
       t.day.sweep = .idle ∧ t.day.pos = none ∧ t.day.requeueWait = false ∧ t.day.again = false ∧
       ∀ e ∈ t.queue.entries, e.phase = .queued) ∧
  (∀ (s : State) (units : Nat),
     let left := fun u : State => exec (.startReset (.inGrant units)) s = exec (.startReset .quiet) u
     let done := fun i : Instr => ∃ u, exec i s = .next u ∧ left u
     (units = 0 → left s) ∧
     (∀ h, heldOp s = some h →
       (1 ≤ units → done h.op.row ∨ left (applyOp h.op h.who h.day s).1 ∨
         ∃ u, s.MarkedAt h.op.target.1 h.op.target.2 u ∧ left u) ∧
       (3 ≤ units → done h.op.row)) ∧
     (∀ e E i, heldEntry s = some (e, E) → (i, e.disp.kind) ∈ dispatchRows →
       (1 ≤ units → done i ∨ ∃ sp n u, e.disp.target = some (sp, n) ∧ s.MarkedAt sp n u ∧ left u) ∧
       (2 ≤ units → done i)) ∧
     (∀ E, s.arb.held = some ⟨.sweep, E⟩ → ∃ u out, out.length ≤ units ∧ s.SweptBy E out u ∧ left u ∧
       (s.tablesOk → s.homeSettled → ∃ t, exec .sweepBurst s = .next t ∧
         s.burstUnits u ≤ units ∧
         (s.burstUnits u < units → left t ∧ u.store = t.store ∧ u.queue = t.queue) ∧
         (∀ a b, sweptBefore a b → ¬ s.sameRecord u b → u.sameRecord t a) ∧
         (1 ≤ units → ∀ l n rest, s.sweepWalk (s.day.pos.getD (.item 0)) = l ++ (.item, n) :: rest →
           l.length < 64 → (∀ r ∈ l, s.sweptAt E r) → viewOf (blockOf .item n) s = .home → 3 ≤ freePlaces s →
           ∀ r, getItem n s = some r → r.quarantined = false → r.check = .agrees → r.currentTo ≠ E →
             getItem n u = some (bringUp (classRow s r.cls) (calendarOf s) E n r).1))) ∧
     (∀ E, s.arb.held = some ⟨.stream .freeze, E⟩ → 1 ≤ units → done .handoverFreeze) ∧
     (∀ E, s.arb.held = some ⟨.stream .read, E⟩ → 1 ≤ units → done .streamUnitRead) ∧
     (∀ k E age f p b serial u, s.arb.held = some ⟨.stream (.write k), E⟩ → getSlot k s = .processing age f p →
       (f.body = .stream b serial none u → 1 ≤ units → done .streamUnitWrite) ∧
       (∀ total, f.body = .stream b serial (some total) u →
         let bare := setSlot k (.processing age { f with body := .stream b serial none u } p) s
         (1 ≤ units → done .streamLast ∨ ∃ v, exec .streamUnitWrite bare = .next v ∧ left v) ∧
         (2 ≤ units → done .streamLast))) ∧
     (∀ b E, s.arb.held = some ⟨.stream (.free b), E⟩ → s.tablesOk →
       (viewOf b s = .unknown ∨ (∃ st, viewOf b s = .foreign st) ∨ (∃ st, viewOf b s = .receiving st) →
         ∃ u, left u ∧ u.queue = s.queue ∧ u.map = s.map ∧ u.day = s.day ∧ u.store.stamp = s.store.stamp ∧
           recordsOf b u = (recordsOf b s).drop (min units 64) ∧
           ∀ n, (blockOf .item n ≠ b → getItem n u = getItem n s) ∧
             (blockOf .title n ≠ b → getTitle n u = getTitle n s) ∧
             (blockOf .patron n ≠ b → getPatron n u = getPatron n s)) ∧
       (viewOf b s = .home ∨ viewOf b s = .probing ∨ (∃ st, viewOf b s = .lending st) → left s))) ∧
  (∀ s : State,
     (∀ n : Nat, s.station = .configured → joinErases s = true → 1 ≤ n →
       ∃ t, exec (.startReset (.inErase n)) s = .next t ∧
         (n < 5 → t.store.stamp = false ∧ ∀ c : Configuration, joinErases { t with conf := c } = true) ∧
         (5 ≤ n → t.store = ⟨[], [], [], true⟩ ∧ t.queue.entries = [] ∧ t.map.serial = 0 ∧
           t.map.views = initialMap s.conf ∧ t.day.county = s.conf.startDay.getD 0)))

/-- A piece taken in UNCONFIGURED or CONFIGURED replaces what the record held and answers the pieces still empty; a
value beyond a clamped range is set to the nearest end of it with the clamped mark; a refused value changes nothing and
names the first field at fault; and the last empty piece makes the part CONFIGURED. In JOINING and ONLINE the piece is
refused WRONG_STATE. A misshapen record, and a closed-day list of more than 64, a start day or a closed day above
65,535, a row of more than 4 tests or a map of other than 256 views, is answered BAD_REQUEST in every state (R198, R199,
R189, R204). That an erase mark above 1 is answered BAD_REQUEST (log entries 13 and 15), that a station number, a line
rate, a quantity or a relation outside its range is refused BAD_VALUE, and that the state is tested before the value, is
the model's reading (log entry 15). -/
def Obligations.ConfigureTakesPieces : Prop :=
  ∀ (s : State) (tag : Nat), s.port.exchange = none →
    let takes := fun (p : Piece) (c : Configuration) (clamped : Bool) =>
      ∃ t, exec (.configure tag .whole p) s = .next t ∧ t.conf = c ∧
        t.port.reply = some (.answer tag 21 .done none (.configured clamped c.empty)) ∧
        t.station = (if s.station = .unconfigured ∧ c.empty = [] then .configured else s.station) ∧
        t.store = s.store ∧ t.map = s.map ∧ t.day = s.day ∧ t.queue = s.queue
    let refuses := fun (p : Piece) (why : Reason) (v : PortValues) =>
      ∃ t, exec (.configure tag .whole p) s = .next t ∧ t.conf = s.conf ∧ t.station = s.station ∧
        t.port.reply = some (.answer tag 21 .refused (some why) v) ∧ t.store = s.store ∧ t.map = s.map
    (s.station = .unconfigured ∨ s.station = .configured →
      (∀ n, n < 32 → takes (.stationNumber n) { s.conf with stationNumber := some n } false) ∧
      (∀ n, 32 ≤ n → refuses (.stationNumber n) .badValue (.badValue .stationNumber s.conf.empty)) ∧
      (∀ n, takes (.holdLife n) { s.conf with holdLife := some (max 1 (min n 365)) }
        (decide (n < 1 ∨ 365 < n))) ∧
      (∀ n, takes (.pickupWindow n) { s.conf with pickupWindow := some (max 1 (min n 21)) }
        (decide (n < 1 ∨ 21 < n))) ∧
      (∀ rows : List ClassRow, rows.length = 8 →
        let cut := rows.map fun r =>
          ({ rate := min r.rate 2000, grace := min r.grace 7, cap := min r.cap 50000,
             period := max 1 (min r.period 120), renewMax := min r.renewMax 9,
             lostAfter := max 7 (min r.lostAfter 365),
             replacement := min r.replacement 50000 } : ClassRow)
        takes (.classTable rows) { s.conf with classTable := some cut } (decide (cut ≠ rows))) ∧
      (∀ k r, [LineRate.r125, .r250, .r500, .r1000][k]? = some r →
        takes (.lineRate k) { s.conf with lineRate := some r } false) ∧
      (∀ k, 4 ≤ k → refuses (.lineRate k) .badValue (.badValue .lineRate s.conf.empty)) ∧
      (∀ w m days, w ≤ 6 → m < 128 → days.length ≤ 64 → (∀ d ∈ days, d ≤ 65535) → days.Pairwise (· < ·) →
        takes (.calendar w m days) { s.conf with calendar := some ⟨w, m, days⟩ } false) ∧
      (∀ w m days, 6 < w → days.length ≤ 64 → (∀ d ∈ days, d ≤ 65535) →
        refuses (.calendar w m days) .badValue (.badValue .weekday0 s.conf.empty)) ∧
      (∀ w m days k, w ≤ 6 → days.length ≤ 64 → (∀ d ∈ days, d ≤ 65535) → (days.take k).Pairwise (· < ·) →
        ¬ (days.take (k + 1)).Pairwise (· < ·) →
        refuses (.calendar w m days) .badValue (.badValue (.closedDay k) s.conf.empty)) ∧
      (∀ rows : List (List RawTest), rows.length = 4 → (∀ row ∈ rows, row.length ≤ 4) →
        (∀ ts, List.Forall₂ (List.Forall₂ testTakenAs) rows ts →
          takes (.categoryTable rows) { s.conf with categoryTable := some ts }
            (decide (∃ row ∈ rows, ∃ x ∈ row, 500000 < x.value))) ∧
        (∀ i j row x, rows[i]? = some row → row[j]? = some x → 3 ≤ x.quantity ∨ 6 ≤ x.relation →
          (∀ row' ∈ rows.take i, ∀ y ∈ row', ∃ z, testTakenAs y z) → (∀ y ∈ row.take j, ∃ z, testTakenAs y z) →
          refuses (.categoryTable rows) .badValue
            (.badValue (if 3 ≤ x.quantity then .quantity i j else .relation i j) s.conf.empty))) ∧
      (∀ n, n ≤ 65535 → takes (.startDay n) { s.conf with startDay := some n } false) ∧
      (∀ (sp : Space) (vs : List Nat), vs.length = 256 →
        ((∀ v ∈ vs, v ≤ 33) →
          let ws := vs.map fun v =>
            if v < 32 then InitialView.foreign v else if v = 32 then .home else .unknown
          takes (.initialMap sp vs)
            (match sp with
             | .item => { s.conf with mapItem := some ws }
             | .title => { s.conf with mapTitle := some ws }
             | .patron => { s.conf with mapPatron := some ws }) false) ∧
        (∀ k v, vs[k]? = some v → 33 < v → (∀ u ∈ vs.take k, u ≤ 33) →
          refuses (.initialMap sp vs) .badValue (.badValue (.view k) s.conf.empty))) ∧
      (∀ m, m < 2 → takes (.eraseFlag m) { s.conf with eraseFlag := some (m == 1) } false)) ∧
    (s.station = .joining ∨ s.station = .online →
      let turnedAway := fun p => refuses p .wrongState (.pieces s.conf.empty)
      (∀ n, turnedAway (.stationNumber n) ∧ turnedAway (.lineRate n) ∧ turnedAway (.holdLife n) ∧
        turnedAway (.pickupWindow n) ∧ (n ≤ 65535 → turnedAway (.startDay n)) ∧
        (n < 2 → turnedAway (.eraseFlag n))) ∧
      (∀ w m days, days.length ≤ 64 → (∀ d ∈ days, d ≤ 65535) → turnedAway (.calendar w m days)) ∧
      (∀ rows, rows.length = 8 → turnedAway (.classTable rows)) ∧
      (∀ rows, rows.length = 4 → (∀ row ∈ rows, row.length ≤ 4) → turnedAway (.categoryTable rows)) ∧
      ∀ sp vs, vs.length = 256 → turnedAway (.initialMap sp vs)) ∧
    (∀ p, answeredByPort (.configure tag .misshapen p) tag 21 .badRequest s) ∧
    (∀ n, 65535 < n → answeredByPort (.configure tag .whole (.startDay n)) tag 21 .badRequest s) ∧
    (∀ w m days, 64 < days.length ∨ (∃ d ∈ days, 65535 < d) →
      answeredByPort (.configure tag .whole (.calendar w m days)) tag 21 .badRequest s) ∧
    (∀ m, 2 ≤ m → answeredByPort (.configure tag .whole (.eraseFlag m)) tag 21 .badRequest s) ∧
    (∀ rows : List (List RawTest), (∃ row ∈ rows, 4 < row.length) →
      answeredByPort (.configure tag .whole (.categoryTable rows)) tag 21 .badRequest s) ∧
    (∀ sp vs, vs.length ≠ 256 →
      answeredByPort (.configure tag .whole (.initialMap sp vs)) tag 21 .badRequest s)

/-- JOIN in CONFIGURED, the configuration being in the ranges that every step keeps (R198, statement
TablesAndConfigurationKeptByEveryStep): with the erase flag set or the format stamp absent the store is erased, the
serial is 0 and the county day is the start day; otherwise store, serial and county day are kept (R200, R187). The pass
is made over the views kept, or over the initial maps after an erase: a FOREIGN view of this station's own number is
taken as UNKNOWN (R200); HOME, LENDING and PROBING become PROBING, as does UNKNOWN where the block holds records;
RECEIVING of a giver becomes FOREIGN of it; and the other views are kept (R174, R175). The INBOUND entries of the blocks
that become PROBING are made OUTBOUND with failure count 0 (R174), and the records of the blocks then FOREIGN are freed
(R155, R172). The part is JOINING while a block is PROBING, and it probes the first PROBING block, item blocks first,
then title and patron blocks, each in rising number: the census of that block is asked, its CENSUS frame in the send
queue where that is as a start reset left it (R200, R174, R158). It is ONLINE at once when the pass left no block
PROBING: its own DAY frame with the county day is queued; and in a state that HandoverKept admits, as every step keeps
it (statement OneFlightPerDestination), the sweep starts from the first record and asks for the store, and the dispatch
engine walks the queue from the oldest entry, sending that of a FOREIGN block and asking a census for that of an UNKNOWN
one (R201). In the other states JOIN is refused and changes nothing. -/
def Obligations.JoinStartsFromTheConfiguration : Prop :=
  ∀ (s : State) (tag : Nat), s.port.exchange = none →
    (s.station = .configured → s.hand = .idle → s.tablesOk → s.conf.inRange = true →
      ∃ t, exec (.join tag .whole) s = .next t ∧
        (joinErases s = true → t.store = ⟨[], [], [], true⟩ ∧ t.map.serial = 0 ∧
          t.queue.entries = [] ∧ t.day.county = s.conf.startDay.getD 0) ∧
        (joinErases s = false →
          t.store = s.store ∧ t.map.serial = s.map.serial ∧ t.day.county = s.day.county) ∧
        t.port.reply = some (.answer tag 22 .done none (.joined (joinErases s) t.day.county)) ∧
        t.conf = s.conf ∧ t.ctxs = s.ctxs ∧
        (∀ p ∈ t.map.views, p.2 = .probing ∨ ∃ st, p.2 = .foreign st) ∧
        (let inRange := fun n : Nat => n < 16777216
         (∀ p ∈ s.store.items, inRange p.1) → (∀ p ∈ s.store.titles, inRange p.1) →
         (∀ p ∈ s.store.patrons, inRange p.1) → ∀ b, b.num < 256 →
         let before := if joinErases s = true then (tblGet (initialMap s.conf) b.key).getD .unknown else viewOf b s
         let unowned := if joinErases s = false ∧ recordsOf b s ≠ [] then View.probing else .unknown
         viewOf b t = (match before with
           | .home | .lending _ | .probing => .probing
           | .receiving g => .foreign g
           | .foreign st => if st = stationNo s then unowned else .foreign st
           | .unknown => unowned) ∧
         (joinErases s = false → (∃ st, viewOf b t = .foreign st) → recordsOf b s ≠ [] →
           streamAsked (.free b) t = true)) ∧
        (joinErases s = false → t.station = .joining →
          t.queue.entries = s.queue.entries.map fun e =>
            match e.disp.block with
            | some b => if e.dir = .inbound ∧ viewOf b t = .probing then
                { e with dir := .outbound, failures := 0, phase := .queued } else e
            | none => e) ∧
        (t.station = .joining → ∀ b : Block, b.num < 256 → viewOf b t = .probing →
          (∀ p ∈ t.map.views, p.2 = .probing → b.key ≤ p.1) →
          t.map.probe = some ⟨b, false⟩ ∧ t.censusAsked b .probe ∧
            (s.HandoverKept → ∃ j ∈ t.line.sendq, j.owner = .census b ∧
              j.frame = ⟨stationNo s, .all, .census b⟩)) ∧
        (t.station = .online → t.map.probe = none ∧ t.daySent t.day.county ∧
          (s.HandoverKept → t.day.pos = some (.item 0) ∧ t.day.sweep = .running ∧
            (t.arb.sweep = true ∨ ∃ E, t.arb.held = some ⟨.sweep, E⟩) ∧
            (∀ e rest b, joinErases s = false → s.queue.ok → s.queue.entries = e :: rest → e.dir = .outbound →
              e.failures < 4 → e.disp.block = some b →
              (∀ st, viewOf b t = .foreign st →
                { e with phase := .inFlight st } ∈ t.queue.entries ∧
                  ∃ j ∈ t.line.sendq, j.owner = .entry e.id ∧
                    j.frame = ⟨stationNo s, .station st, .dispatch e.disp⟩) ∧
              (viewOf b t = .unknown →
                { e with phase := .census } ∈ t.queue.entries ∧ t.censusAsked b (.entry e.id))))) ∧
        ((t.station = .joining ∧ ∃ p ∈ t.map.views, p.2 = .probing) ∨
          (t.station = .online ∧ ∀ p ∈ t.map.views, p.2 ≠ .probing))) ∧
    (s.station = .unconfigured → exec (.join tag .whole) s = .next (refreshAttention
      { s with
        port := { s.port with
          reply := some (.answer tag 22 .refused (some .incomplete) (.pieces s.conf.empty)) } })) ∧
    (s.station = .joining ∨ s.station = .online → exec (.join tag .whole) s = .next (refreshAttention
      { s with
        port := { s.port with
          reply := some (.answer tag 22 .refused (some .wrongState) .nothing) } }))

/-! ## The kiosk port (chapter 10) -/

/-- A command octet that names no command takes nothing: the port replies UNKNOWN_COMMAND. An exchange cut short has no
effect; a read cut short leaves its answer or notice where it was (R188). A request record of an unknown kind is
answered BAD_REQUEST (R189). READ_STATUS and a submitted STATUS return the status record in every station state and
clear the overflow mark, the record showing the mark as it stood (R196, R190). SET_MASKS replaces the eight masks in
ONLINE (R194) and changes none elsewhere, the reply outside ONLINE being the model's (log entry 35). FAULT_READ returns
the capture, empties it and clears the further-faults mark (R186); that the outcome of its answer is DONE is the model's
choice (log entry 51). -/
def Obligations.PortCommandsOfEveryState : Prop :=
  (∀ s : State, s.port.exchange = none → s.attentionOk →
     (∀ o, exec (.unknownCommand (.command o)) s = .next
       { s with port := { s.port with reply := some .unknownCommand } }) ∧
     (∀ k tag, exec (.unknownCommand (.requestKind k tag)) s = .next
       { s with port := { s.port with reply := some (.answer tag k .badRequest none .nothing) } }) ∧
     (∀ c, exec (.exchangeCutShort c) s = .next s) ∧
     (∃ u, exec (.readAnswer .begins) s = .next u ∧ exec (.exchangeCutShort .readAnswer) u = .next s) ∧
     (∃ u, exec (.readNotice .begins) s = .next u ∧ exec (.exchangeCutShort .readNotice) u = .next s)) ∧
  (∀ s : State, s.port.exchange = none →
     (∃ r : StatusRecord, r.station = s.station ∧ r.number = s.conf.stationNumber ∧
       r.contexts = (s.ctxs.filter fun c => c.st != .free).length ∧
       r.answers = s.port.answers.length ∧ r.notices = s.port.notices.length ∧
       r.queueDepth = s.queue.entries.length ∧ r.day = s.day.county ∧ r.overflow = s.port.overflow ∧
       (r.locked = true ↔ s.capture.captured ≠ none) ∧
       (exec .readStatus s = .next (refreshAttention
         { s with port := { s.port with overflow := false, reply := some (.status r) } })) ∧
       ∀ tag, exec (.status tag .whole) s = .next (refreshAttention
         { s with port := { s.port with overflow := false, reply := some (.status r) } })) ∧
     (∀ m, exec (.setMasks m) s = .next (refreshAttention
       (if s.station = .online then
         { s with port := { s.port with masks := m, reply := some (.masks m) } }
        else { s with port := { s.port with reply := some .notOnline } }))) ∧
     (∀ tag, s.station = .online → exec (.faultRead tag .whole) s = .next (refreshAttention
       { s with
         capture := ⟨none, false⟩
         port := { s.port with reply := some (.answer tag 20 .done none (.capture s.capture)) } })))

/-- READ_ANSWER returns the answer of the context at the head of the answer order; the number leaves the order and the
context is FREE with its generation kept. With the order empty it returns NONE and changes nothing. A read in two parts
with nothing between them does the same (R191). READ_NOTICE returns the oldest notice, masked or not, and it leaves the
queue; with the queue empty it returns NONE. A read in two parts with nothing between them does the same, and the notice
stays in the queue until the second (R193). -/
def Obligations.ReadsReturnTheHead : Prop :=
  (∀ s : State, s.port.exchange = none →
     (s.port.answers = [] → exec (.readAnswer .whole) s = .next (refreshAttention
       { s with port := { s.port with reply := some .none } })) ∧
     (∀ c rest g a, s.port.answers = c :: rest → getCtx c s = some ⟨g, .answered a⟩ → c ∉ rest →
       ∃ t, exec (.readAnswer .whole) s = .next t ∧ t.port.reply = some (.transaction c g a) ∧
         t.port.answers = rest ∧ getCtx c t = some ⟨g, .free⟩ ∧
         (∀ d, d ≠ c → getCtx d t = getCtx d s) ∧ t.port.notices = s.port.notices ∧
         t.store = s.store ∧ t.queue = s.queue ∧ t.line = s.line ∧ t.map = s.map ∧ t.hand = s.hand) ∧
     (∃ u, exec (.readAnswer .begins) s = .next u ∧
       u.port.exchange = some (.answer s.port.answers.head?) ∧ u.port.answers = s.port.answers ∧
       u.ctxs = s.ctxs ∧ exec (.readAnswer .completes) u = exec (.readAnswer .whole) s)) ∧
  (∀ s : State, s.port.exchange = none →
     (s.port.notices = [] → exec (.readNotice .whole) s = .next (refreshAttention
       { s with port := { s.port with reply := some .none } })) ∧
     (∀ n rest, s.port.notices = n :: rest → exec (.readNotice .whole) s = .next (refreshAttention
       { s with port := { s.port with notices := rest, reply := some (.notice n) } })) ∧
     (∃ u, exec (.readNotice .begins) s = .next u ∧
       u.port.exchange = some (.notice s.port.notices.head?) ∧ u.port.notices = s.port.notices ∧
       exec (.readNotice .completes) u = exec (.readNotice .whole) s))

/-- The port's checks of a submitted request of Table 5-2: a malformed record or an argument out of range is answered
BAD_REQUEST, then a part that is not ONLINE answers NOT_ONLINE, then one without a FREE context answers BUSY; each takes
no context, changes no record and queues no frame (R95, R189). A card expiry day above 65,535 is out of range, and so is
a day of ADVANCE_DAY. The requests the port carries out itself pass the first two checks: ADVANCE_DAY and FAULT_READ are
answered BAD_REQUEST and NOT_ONLINE, and STATUS and JOIN, which are exempt from the second, BAD_REQUEST (R189, R190,
R53). That an UPDATE_PATRON that names neither field and a holdable mark of 2 or more are out of range is the model's
reading (log entry 13). -/
def Obligations.PortRefusesInOrder : Prop :=
  ∀ (s : State) (tag : Nat), s.port.exchange = none →
    (∀ p i, portChecks (fun f => .lend tag f p i) tag 1 s ∧ portChecks (fun f => .renew tag f p i) tag 2 s) ∧
    (∀ n, portChecks (fun f => .checkIn tag f n) tag 3 s ∧ portChecks (fun f => .account tag f n) tag 7 s ∧
      portChecks (fun f => .itemStatus tag f n) tag 8 s ∧
      portChecks (fun f => .withdrawItem tag f n) tag 14 s ∧
      portChecks (fun f => .withdrawTitle tag f n) tag 15 s ∧
      portChecks (fun f => .withdrawPatron tag f n) tag 16 s) ∧
    (∀ p t k, (k < 32 → portChecks (fun f => .reserve tag f p t k) tag 4 s) ∧
      (32 ≤ k → answeredByPort (.reserve tag .whole p t k) tag 4 .badRequest s)) ∧
    (∀ p t, portChecks (fun f => .cancel tag f p t) tag 5 s) ∧
    (∀ p a, (a ≤ 500000 → portChecks (fun f => .payRequest tag f p a) tag 6 s) ∧
      (500000 < a → answeredByPort (.payRequest tag .whole p a) tag 6 .badRequest s)) ∧
    (∀ t p, portChecks (fun f => .titleStatus tag f t p) tag 9 s) ∧
    (∀ t h, (h < 2 → portChecks (fun f => .enrolTitle tag f t h) tag 10 s) ∧
      (2 ≤ h → answeredByPort (.enrolTitle tag .whole t h) tag 10 .badRequest s)) ∧
    (∀ p c x, (c < 4 → x ≤ 65535 → portChecks (fun f => .enrolPatron tag f p c x) tag 11 s) ∧
      (4 ≤ c ∨ 65535 < x → answeredByPort (.enrolPatron tag .whole p c x) tag 11 .badRequest s)) ∧
    (∀ p c x, (c ≠ none ∨ x ≠ none → (∀ k, c = some k → k < 4) → (∀ d, x = some d → d ≤ 65535) →
        portChecks (fun f => .updatePatron tag f p c x) tag 12 s) ∧
      ((c = none ∧ x = none) ∨ (∃ k, c = some k ∧ 4 ≤ k) ∨ (∃ d, x = some d ∧ 65535 < d) →
        answeredByPort (.updatePatron tag .whole p c x) tag 12 .badRequest s)) ∧
    (∀ i t c, (c < 8 → portChecks (fun f => .enrolItem tag f i t c) tag 13 s) ∧
      (8 ≤ c → answeredByPort (.enrolItem tag .whole i t c) tag 13 .badRequest s)) ∧
    (∀ sp b k, (sp < 3 → b < 256 → k < 32 → s.conf.stationNumber ≠ some k →
        portChecks (fun f => .handOver tag f sp b k) tag 17 s) ∧
      (3 ≤ sp ∨ 256 ≤ b ∨ 32 ≤ k ∨ s.conf.stationNumber = some k →
        answeredByPort (.handOver tag .whole sp b k) tag 17 .badRequest s)) ∧
    (∀ d, answeredByPort (.advanceDay tag .misshapen d) tag 18 .badRequest s ∧
      (65535 < d → answeredByPort (.advanceDay tag .whole d) tag 18 .badRequest s) ∧
      (d ≤ 65535 → s.station ≠ .online → answeredByPort (.advanceDay tag .whole d) tag 18 .notOnline s)) ∧
    answeredByPort (.status tag .misshapen) tag 19 .badRequest s ∧
    answeredByPort (.faultRead tag .misshapen) tag 20 .badRequest s ∧
    (s.station ≠ .online → answeredByPort (.faultRead tag .whole) tag 20 .notOnline s) ∧
    answeredByPort (.join tag .misshapen) tag 22 .badRequest s

/-- A request of Table 5-2 that passes the port's checks is taken into the lowest FREE context, its generation raised by
1 (255 followed by 0), RUNNING at step 1, and begins its first step by the view of the block that step is about (R92,
R100, Table 5-2): its work asks the store (R101), its REQ is queued or waits for a send place (R102), or the census of
its block is asked (R107). HAND_OVER taken into a context: refused NOT_HOME, BUSY_HANDOVER or NO_ROOM, in this order,
and the context is then ANSWERED; otherwise the engine drains the block for the receiver under that context, with its
drain limit running, and with no dispatch for the block left to apply the freeze asks the store at once, behind the
stream work that waits (R160, R182). That a DISPATCH for the block in acceptance delays the freeze is the model's
reading (log entry 43). -/
def Obligations.RequestsTakeTheLowestContext : Prop :=
  (∀ (s : State) (tag : Nat), s.port.exchange = none → s.station = .online →
     (∀ p i, takesContext (.lend tag .whole p i) tag (.lend p i) (.loanOpen p) s ∧
       takesContext (.renew tag .whole p i) tag (.renew p i) (.standing p) s) ∧
     (∀ n, takesContext (.checkIn tag .whole n) tag (.checkIn n) (.takeReturn n (stationNo s)) s ∧
       takesContext (.account tag .whole n) tag (.account n) (.accountRead n) s ∧
       takesContext (.itemStatus tag .whole n) tag (.itemStatus n) (.itemRead n) s ∧
       takesContext (.withdrawItem tag .whole n) tag (.withdrawItem n) (.itemDelete n) s ∧
       takesContext (.withdrawTitle tag .whole n) tag (.withdrawTitle n) (.titleDelete n) s ∧
       takesContext (.withdrawPatron tag .whole n) tag (.withdrawPatron n) (.patronDelete n) s) ∧
     (∀ p t k, k < 32 → takesContext (.reserve tag .whole p t k) tag (.reserve p t k) (.holdOpen p) s) ∧
     (∀ p t, takesContext (.cancel tag .whole p t) tag (.cancel p t) (.holdDrop t p) s) ∧
     (∀ p a, a ≤ 500000 → takesContext (.payRequest tag .whole p a) tag (.pay p a) (.pay p a) s) ∧
     (∀ t p, takesContext (.titleStatus tag .whole t p) tag (.titleStatus t p) (.titleRead t p) s) ∧
     (∀ t h, h < 2 →
       takesContext (.enrolTitle tag .whole t h) tag (.enrolTitle t (h == 1)) (.titleCreate t (h == 1)) s) ∧
     (∀ p c x, c < 4 → x ≤ 65535 →
       takesContext (.enrolPatron tag .whole p c x) tag (.enrolPatron p c x) (.patronCreate p c x) s) ∧
     (∀ p c x, c ≠ none ∨ x ≠ none → (∀ k, c = some k → k < 4) → (∀ d, x = some d → d ≤ 65535) →
       takesContext (.updatePatron tag .whole p c x) tag (.updatePatron p c x) (.patronSet p c x) s) ∧
     (∀ i t c, c < 8 → takesContext (.enrolItem tag .whole i t c) tag (.enrolItem i t c) (.copyAdd t i) s)) ∧
  (∀ (s : State) (tag sp n k c : Nat), s.port.exchange = none → s.station = .online →
     sp < 3 → n < 256 → k < 32 → s.conf.stationNumber ≠ some k → freeCtx s = some c →
     let b : Block := ⟨(spaceOf sp).getD .item, n⟩
     (viewOf b s ≠ .home ∨ s.hand ≠ .idle ∨ freePlaces s = 0 →
       ∃ t g a, exec (.handOver tag .whole sp n k) s = .next t ∧ getCtx c t = some ⟨g, .answered a⟩ ∧
         a.tag = tag ∧ a.outcome = .refused ∧
         a.reason = some (if viewOf b s ≠ .home then .notHome
           else if s.hand ≠ .idle then .busyHandover else .noRoom) ∧
         t.hand = s.hand ∧ t.store = s.store ∧ t.map = s.map ∧ t.queue = s.queue) ∧
     (viewOf b s = .home → s.hand = .idle → 0 < freePlaces s →
       ∃ t r, exec (.handOver tag .whole sp n k) s = .next t ∧ getRun c t = some r ∧ r.tag = tag ∧
         t.hand = .giving ⟨.draining true, k, b, s.map.serial, ⟨0, 0, 0⟩, 0, c, 0, []⟩ ∧
         (takenFor b s = false → streamAsked .freeze t = true) ∧
         (takenFor b s = false → streamAsked .freeze s = false →
           t.arb = Arbiter.arbitrate { s.arb with stream := s.arb.stream ++ [.freeze] } s.day.county) ∧
         t.store = s.store ∧ t.map = s.map ∧ t.queue = s.queue))

/-- ADVANCE_DAY in ONLINE: a day above the county day is adopted, the sweep starts from its first record, an own DAY
frame carrying it is in the send queue or waits for a place, and the answer is DONE with it (R53, R56, R58, R55); any
other day is refused STALE_DAY with the county day, and nothing else changes. That with an own DAY frame being sent the
day unit queues the next when that one has left the send queue is the model's reading (log entry 16). -/
def Obligations.AdvanceDayAdoptsALaterDay : Prop :=
  ∀ (s : State) (tag d : Nat), s.port.exchange = none → s.station = .online → d ≤ 65535 →
    (s.day.county < d →
      ∃ t, exec (.advanceDay tag .whole d) s = .next t ∧ t.day.county = d ∧
        t.port.reply = some (.answer tag 18 .done none (.day d)) ∧ t.port.notices = s.port.notices ∧
        t.store = s.store ∧ t.ctxs = s.ctxs ∧ t.queue = s.queue ∧ t.map = s.map ∧
        s.sweepRestarts t ∧ t.daySent d) ∧
    (d ≤ s.day.county → exec (.advanceDay tag .whole d) s = .next (refreshAttention
      { s with
        port := { s.port with
          reply := some (.answer tag 18 .refused (some .staleDay) (.day s.day.county)) } }))

/-! ## Steps and their answers (chapter 5) -/

/-- A DONE answer to the last step and a REFUSED answer to any step end the transaction: the context is ANSWERED with
the outcome, the reason, the step, the counters and the values, and joins the tail of the answer order (R94, R98, R191).
A refused step 2 that holds its compensation entry queues the compensation at the tail (R113); a DONE answer queues
nothing (R103). A DONE answer to step 1 of a two-step request is gathered and takes the context to step 2, its counters
cleared. A request with a compensation first reserves its entry, and with none free is deferred once instead; the step
then begins by the view of its own block (R97, R103, R100). All this holds of the answer of the context's own local
grant and of a matching ANS alike (R101, R111). That a step answered within its own local grant finds that grant's 3
places free already, when its entry is reserved, is the model's choice (log entry 39). -/
def Obligations.AnswersMoveTheTransaction : Prop :=
  (∀ (u t : State) (c g : Nat) (r : Run), getCtx c u = some ⟨g, .running r⟩ →
     (∀ v, r.step ≠ 1 ∨ r.request.steps = 1 → u.answered c (.done v) t →
       getCtx c t = some ⟨g, .answered ⟨r.tag, r.request, .done, none, r.step, r.deferrals, r.redirects,
         r.attempts, r.gathered, v⟩⟩ ∧
       t.port.answers = u.port.answers ++ [c] ∧ t.queue = u.queue) ∧
     (∀ why v, u.answered c (.refused why v) t →
       getCtx c t = some ⟨g, .answered ⟨r.tag, r.request, .refused, some why, r.step, r.deferrals,
         r.redirects, r.attempts, r.gathered, v⟩⟩ ∧
       t.port.answers = u.port.answers ++ [c] ∧
       (r.step ≠ 2 ∨ r.comp = false → t.queue = u.queue) ∧
       (r.step = 2 → r.comp = true →
         (∀ p i, r.request = .lend p i → t.queue = (enqueue (.loanClose p) u).queue) ∧
         (∀ p n k, r.request = .reserve p n k →
           t.queue = (enqueue (.holdEnded p n .notPlaced) u).queue) ∧
         (∀ i n x, r.request = .enrolItem i n x → t.queue = (enqueue (.copyRemove n i) u).queue)))) ∧
  (∀ (u t : State) (c : Nat) (r : Run) (v : Values) (o : OwnerOp), u.answered c (.done v) t →
     getRun c u = some r → r.step = 1 → r.request.steps = 2 →
     ({ r with step := 2, gathered := v } : Run).op (stationNo u) = some o →
     (r.request.compensation ≠ none → freePlaces u = 0 →
       getRun c t = some { r with
         step := 2, phase := .deferring, deferrals := 1, redirects := 0, gathered := v, comp := false }) ∧
     (r.request.compensation = none ∨ 0 < freePlaces u →
       ∃ r', getRun c t = some r' ∧ r'.step = 2 ∧ r'.gathered = v ∧ r'.redirects = 0 ∧
         r'.tag = r.tag ∧ r'.request = r.request ∧
         (r'.comp = true ↔ r.request.compensation ≠ none) ∧
         r'.phase = firstPhase (viewOf o.block u) ∧ t.stepTaken c o (viewOf o.block u)))

/-- DEFERRED adds a deferral and starts the wait, and the fortieth ends the transaction DEFERRED_OUT (R105). MOVED_TO(s)
adds a redirect, and makes a FOREIGN or UNKNOWN view FOREIGN(s), its stranded records then freed, while one of HOME,
LENDING or RECEIVING is kept; the step is then taken at once by the view: its REQ is sent to s, its work asks the store
here, or, RECEIVING, it is deferred (R106, R155). The second redirect, NOT_OWNER, and a MOVED_TO this station where the
view is not HOME ask a census instead, counted as a deferral, with the redirects cleared (R106, R107). The context is
then among the requesters of the block's census, or of the one that follows it, or waits for a place of the census table
(R158). All this holds of the answer of the context's own local grant and of a matching ANS alike (R101, R111). A
PROBING view also becomes FOREIGN(s): R106 keeps only HOME, LENDING and RECEIVING. -/
def Obligations.DeferredMovedAndNotOwner : Prop :=
  ∀ (u t : State) (c : Nat) (r : Run) (o : OwnerOp), getRun c u = some r → r.op (stationNo u) = some o →
    let view := viewOf o.block u
    let run := fun (d n : Nat) (p : Phase) => ∃ r', getRun c t = some r' ∧ r'.phase = p ∧ r'.redirects = n ∧
      r'.deferrals = d ∧ r'.step = r.step ∧ r'.request = r.request ∧ r'.tag = r.tag ∧ r'.gathered = r.gathered
    let deferredOut := ∃ g a, getCtx c t = some ⟨g, .answered a⟩ ∧ a.outcome = .deferredOut ∧
      a.deferrals = 40 ∧ a.step = r.step
    let inCensus := (r.deferrals < 39 → run (r.deferrals + 1) 0 .census ∧ t.censusAsked o.block (.context c)) ∧
      (r.deferrals = 39 → deferredOut)
    (u.answered c .deferred t →
      (r.deferrals < 39 → run (r.deferrals + 1) r.redirects .deferring) ∧ (r.deferrals = 39 → deferredOut)) ∧
    (u.answered c .notOwner t → inCensus) ∧
    (∀ st, u.answered c (.movedTo st) t →
      (st = stationNo u → view ≠ .home → inCensus) ∧
      (st ≠ stationNo u ∨ view = .home →
        ((view = .home ∨ (∃ x, view = .lending x) ∨ ∃ x, view = .receiving x) → viewOf o.block t = view) ∧
        (view = .unknown ∨ view = .probing ∨ (∃ x, view = .foreign x) → viewOf o.block t = .foreign st ∧
          (recordsOf o.block u ≠ [] → streamAsked (.free o.block) t = true)) ∧
        (1 ≤ r.redirects → inCensus) ∧
        (r.redirects = 0 →
          (view = .unknown ∨ view = .probing ∨ (∃ x, view = .foreign x) →
            run r.deferrals 1 .sending ∧ t.stepTaken c o (.foreign st)) ∧
          (view = .home ∨ (∃ x, view = .lending x) → run r.deferrals 1 .local_ ∧ t.stepTaken c o view) ∧
          ((∃ x, view = .receiving x) →
            (r.deferrals < 39 → run (r.deferrals + 1) 1 .deferring) ∧ (r.deferrals = 39 → deferredOut)))))

/-- What an answer changes: nothing of the records, the configuration, the day, the handover, the notices or the fault
capture (R115, R5). The answer of an operation that came in a REQ leaves as an ANS to the REQ's source, repeating its
context reference, operation and numbers, in the place kept for it, and the slot is released (R147, R111). When the
grant ends, and when work asks while none is held, the arbiter grants the oldest waiting work of the first requester
that has any, in the cycle kiosk side, line side, sweep, stream taken from the one after that last granted; with none
waiting it holds no grant and remembers the last (R183). The grant takes the county day with it (R52), and work that
asks while a grant is held waits (R182). -/
def Obligations.AnswersToReqsLeaveAsAns : Prop :=
  (∀ (a : StepAnswer) (u : State),
     let t := afterAnswer a u
     t.store = u.store ∧ t.conf = u.conf ∧ t.station = u.station ∧ t.day = u.day ∧ t.hand = u.hand ∧
       t.port.notices = u.port.notices ∧ t.port.masks = u.port.masks ∧ t.capture = u.capture) ∧
  (∀ (u : State) (k E age : Nat) (f : Frame) (ref : CtxRef) (o : OwnerOp) (b : Bool) (a : StepAnswer),
     u.arb.held = some ⟨.line (.req k), E⟩ → getSlot k u = .processing age f b →
     f.body = .req ref (.op o) →
     let t := afterAnswer a u
     t.line.sendq = u.line.sendq ++
       [⟨u.line.nextId, ⟨stationNo u, .station f.src,
         .ans ⟨ref, o.code, o.numbers.1, o.numbers.2.1, o.numbers.2.2, a⟩⟩, 1, 0, 0, .ownerEngine⟩] ∧
       (getSlot k t = .free ∨ getSlot k t = .reserved) ∧ t.ctxs = u.ctxs ∧ t.queue = u.queue ∧
       t.map = u.map) ∧
  (∀ s : State,
     let waiting : Requester → List Work := fun q =>
       match q with
       | .kiosk => s.arb.kiosk.map .kiosk
       | .line => s.arb.line.map .line
       | .sweep => if s.arb.sweep then [.sweep] else []
       | .stream => s.arb.stream.map .stream
     let cycle : List Requester :=
       match s.arb.last with
       | .kiosk => [.line, .sweep, .stream, .kiosk]
       | .line => [.sweep, .stream, .kiosk, .line]
       | .sweep => [.stream, .kiosk, .line, .sweep]
       | .stream => [.kiosk, .line, .sweep, .stream]
     arbitrate s = { s with arb := s.arb.arbitrate s.day.county } ∧
     (∀ g, s.arb.held = some g → arbitrate s = s) ∧ (s.arb.held = none → arbitrate s = endGrant s) ∧
     ((∀ q, waiting q = []) → endGrant s = { s with arb := { s.arb with held := none } }) ∧
     (∀ before q after w rest, cycle = before ++ q :: after → (∀ x ∈ before, waiting x = []) →
       waiting q = w :: rest →
       endGrant s = { s with arb :=
         { held := some ⟨w, s.day.county⟩, last := q
           kiosk := if q = .kiosk then s.arb.kiosk.tail else s.arb.kiosk
           line := if q = .line then s.arb.line.tail else s.arb.line
           sweep := s.arb.sweep && decide (q ≠ .sweep)
           stream := if q = .stream then s.arb.stream.tail else s.arb.stream } }))

/-- ANSWER_LIMIT ends an AWAITING context TIMED_OUT, with no compensation (R109, R113); for the context of an OFFER it
also ends the handover, the block HOME again, which restarts the sweep (R161, R58). DEFERRAL_WAIT takes a DEFERRING
context's step again by the view of its block, once its compensation entry is held: its work asks the store, its REQ is
queued or waits for a send place, or the census of its block is asked (R105, R97, R100). -/
def Obligations.AnswerLimitAndDeferralWait : Prop :=
  ∀ (s : State) (c : Nat) (r : Run), getRun c s = some r →
    (r.phase = .awaiting → (∀ b st, r.request ≠ .handOver b st) →
      ∃ t g a, exec (.answerLimit c) s = .next t ∧ getCtx c t = some ⟨g, .answered a⟩ ∧
        a.outcome = .timedOut ∧ a.reason = none ∧ a.step = r.step ∧ a.gathered = r.gathered ∧
        t.port.answers = s.port.answers ++ [c] ∧ t.queue = s.queue ∧ t.store = s.store ∧
        t.map = s.map ∧ t.hand = s.hand) ∧
    (∀ b st gv, r.phase = .awaiting → r.request = .handOver b st → s.hand = .giving gv → gv.ctx = c →
      ∃ t g a, exec (.answerLimit c) s = .next t ∧ getCtx c t = some ⟨g, .answered a⟩ ∧
        a.outcome = .timedOut ∧ t.hand = .idle ∧ viewOf gv.b t = .home ∧ s.sweepRestarts t ∧ t.queue = s.queue ∧
        t.store = s.store) ∧
    (∀ o, r.phase = .deferring → r.op (stationNo s) = some o → r.deferrals < 39 →
      r.step = 1 ∨ r.comp = true ∨ r.request.compensation = none ∨ 0 < freePlaces s →
      ∃ t r', exec (.deferralWait c) s = .next t ∧ getRun c t = some r' ∧ r'.step = r.step ∧
        r'.phase = firstPhase (viewOf o.block s) ∧ r'.tag = r.tag ∧ r'.request = r.request ∧
        t.stepTaken c o (viewOf o.block s) ∧ t.store = s.store ∧ t.queue = s.queue ∧
        ∀ d, d ≠ c → getCtx d t = getCtx d s)

/-- REQ_PROCESSING takes the REQ at the head of the slots: with a send place to keep for its ANS its slot goes into
processing and an owner operation asks the store; without one the slot waits for the place (R147, R146), as it does
behind the blocks that wait longer, while one of them could use a place (R133, log entry 18). ANS_PROCESSING gives the
ANS at the head to the context whose reference, phase, step, operation and numbers it matches, and frees its slot
(R111). -/
def Obligations.ReqAndAnsAreTakenFromTheSlots : Prop :=
  ∀ (s : State) (k age : Nat) (f : Frame), headSlot s = some (k, age, f) →
    (∀ ref q, f.body = .req ref q →
      (¬ s.ansPlaceFor k →
        ∃ t, exec .reqProcessing s = .next t ∧ t.line.slots = s.line.slots ∧
          .reqSlot k ∈ t.line.waiters ∧ t.arb = s.arb ∧ t.ctxs = s.ctxs ∧ t.store = s.store) ∧
      (s.ansPlaceFor k →
        ∃ t, exec .reqProcessing s = .next t ∧ getSlot k t = .processing age f true ∧
          t.store = s.store ∧ t.ctxs = s.ctxs ∧ t.queue = s.queue ∧ t.line.sendq = s.line.sendq ∧
          t.arb = (match q with
            | .op _ => Arbiter.arbitrate { s.arb with line := s.arb.line ++ [LineWork.req k] } s.day.county
            | _ => s.arb))) ∧
    (∀ a r, f.body = .ans a → a.isExchange = false →
      getCtx a.ref.ctx s = some ⟨a.ref.gen, .running r⟩ → r.phase = .awaiting → r.step = a.ref.step →
      r.awaits (stationNo s) = some (a.op, a.patron, a.item, a.title) →
      exec .ansProcessing s = .next (refreshAttention (freeSlot k
        (match r.request with
         | .handOver .. => takeOfferAnswer a.answer s
         | _ => takeAnswer a.ref.ctx a.answer s))))

/-- A late ANS, one that matches no waiting context, posts a LATE notice and frees its slot. Refused by LEND_ITEM,
HOLD_ADD or ITEM_CREATE it first queues the compensation built from the numbers it repeats, and with no entry free it
keeps its slot and posts nothing yet (R115, R116). LATE_ANS_RETRY does the same for one that waits. R121 offers freed
entries to the waiting local applications and a PAUSED sweep first; that the retry leaves 2 entries to each of the
former and 3 to the latter, as the free places stand at that command, and waits where none is left over, is the model's
choice (log entry 17). -/
def Obligations.LateAnswersAreCompensated : Prop :=
  ∀ (s : State) (k age : Nat) (f : Frame) (a : Ans) (i : Instr), f.body = .ans a →
    (i = .ansProcessing ∧ headSlot s = some (k, age, f) ∧ a.isExchange = false ∧
        ¬ ∃ r, getCtx a.ref.ctx s = some ⟨a.ref.gen, .running r⟩ ∧ r.phase = .awaiting ∧
          r.step = a.ref.step ∧
          r.awaits (stationNo s) = some (a.op, a.patron, a.item, a.title)) ∨
      (i = .lateAnsRetry ∧ waitingLate s = some (k, age, f)) →
    let posted := fun (why : Option Reason) (o : OutcomeCode) (comp : Bool) (u : State) =>
      refreshAttention (freeSlot k
        (postNotice (.late a.op o why a.patron a.item a.title f.src comp) u))
    let applications := (s.queue.entries.filter fun e => e.phase == .awaitRoom).length
    let waits := .next (refreshAttention (setSlot k (.processing age f false) s))
    (∀ why v d, a.answer = .refused why v →
      (a.op = .lendItem ∧ d = .loanClose a.patron) ∨
        (a.op = .holdAdd ∧ d = .holdEnded a.patron a.title .notPlaced) ∨
        (a.op = .itemCreate ∧ d = .copyRemove a.title a.item) →
      (freePlaces s = 0 → exec i s = waits) ∧
      (i = .ansProcessing ∨ (applications = 0 ∧ s.day.sweep ≠ .paused) → 0 < freePlaces s →
        exec i s = .next (posted (some why) .refused true (enqueue d s))) ∧
      (i = .lateAnsRetry →
        (freePlaces s = 2 * applications → exec i s = waits) ∧
        (freePlaces s = 2 * applications + 3 → s.day.sweep = .paused → exec i s = waits) ∧
        (2 * applications + 3 < freePlaces s →
          exec i s = .next (posted (some why) .refused true (enqueue d s))))) ∧
    (∀ why v, a.answer = .refused why v → a.op ≠ .lendItem → a.op ≠ .holdAdd → a.op ≠ .itemCreate →
      exec i s = .next (posted (some why) .refused false s)) ∧
    (∀ v, a.answer = .done v → exec i s = .next (posted none .done false s)) ∧
    (a.answer = .deferred → exec i s = .next (posted none .deferred false s)) ∧
    (∀ st, a.answer = .movedTo st → exec i s = .next (posted none .movedTo false s)) ∧
    (a.answer = .notOwner → exec i s = .next (posted none .notOwner false s))

/-! ## The dispatch queue (chapter 6) -/

/-- The retry tick in ONLINE loses no dispatch for a block: each entry stays with its direction, dispatch and failures;
an entry in WAIT_TICK with 4 failures asks for a census, and one for an explicit station is removed instead (R126). A
lone QUEUED entry for a block, one with no other entry in the queue, is resolved by the view: applied here, sent to the
owner, or made to wait (R124); with 4 failures it asks for a census before it is resolved (R126). To the owner it is
sent where a send place is free and no block that began to wait before the dispatch engine could use one; otherwise it
stays QUEUED, also with a place free. R124 keeps it QUEUED for want of a free place only: that it stands behind the
blocks that wait is the model's reading (log entry 18, DEDUCED), and that the engine keeps its old turn among them is
the model's choice (log entry 50). The order among several QUEUED entries (R123) is not part of this statement. -/
def Obligations.RetryTickKeepsBlockDispatches : Prop :=
  ∀ s : State, s.station = .online → (s.queue.entries.map Entry.id).Nodup →
    ∃ t, exec .retryTick s = .next t ∧ t.store = s.store ∧ t.ctxs = s.ctxs ∧
      (∀ e ∈ s.queue.entries, e.disp.block ≠ none →
        ∃ e' ∈ t.queue.entries, e'.id = e.id ∧ e'.dir = e.dir ∧ e'.disp = e.disp ∧
          e'.failures = e.failures ∧
          (e.phase = .waitTick → 4 ≤ e.failures → e'.phase = .census)) ∧
      (∀ e ∈ s.queue.entries, e.disp.block = none → e.phase = .waitTick → 4 ≤ e.failures →
        ∀ e' ∈ t.queue.entries, e'.id ≠ e.id) ∧
      ∀ e b, s.queue.entries = [e] → e.dir = .outbound → e.phase = .queued → e.disp.block = some b →
        t.queue.entries = [{ e with
          phase := if 4 ≤ e.failures then .census else match viewOf b s with
            | .home => .applying
            | .foreign st => if mayPlace .dispatch s then .inFlight st else .queued
            | .unknown => .census
            | _ => .waitTick }]

/-- Freed places of the dispatch queue go first to the oldest local application that waits for its 2 (R128), and a
PAUSED sweep goes on when 3 are free and no application waits (R121, R60). A local application at its grant is made only
while the block is still HOME and 2 places are free: without the places the entry waits for them, and with another view
it is QUEUED again (R128). -/
def Obligations.DispatchPlacesAreGivenInOrder : Prop :=
  (∀ s : State, (s.queue.entries.map Entry.id).Nodup →
     ∃ t, exec .dispatchPlacesFreed s = .next t ∧ t.store = s.store ∧ t.ctxs = s.ctxs ∧
       (∀ e, s.queue.entries.find? (fun e => e.phase == .awaitRoom) = some e → 2 ≤ freePlaces s →
         ∃ e' ∈ t.queue.entries, e'.id = e.id ∧ e'.disp = e.disp ∧ e'.phase = .applying) ∧
       ((∀ e ∈ s.queue.entries, e.phase ≠ .awaitRoom) → s.day.sweep = .paused → 3 ≤ freePlaces s →
         t.day.sweep = .running)) ∧
  (∀ (s : State) (i : Instr) (e : Entry) (E : Nat) (b : Block), heldEntry s = some (e, E) →
     e.dir = .outbound → e.disp.block = some b →
     (i, e.disp.kind) ∈ dispatchRows →
     (viewOf b s = .home → freePlaces s < 2 →
       exec i s = .next (refreshAttention (endGrant (setEntryPhase e.id .awaitRoom s)))) ∧
     (viewOf b s ≠ .home →
       exec i s = .next (refreshAttention (endGrant (walk (setEntryPhase e.id .queued s))))))

/-! ## The circulation line (chapter 7) -/

/-- The head of the send queue is the oldest frame of the lowest class present (R132). It contends with its class and
the station number, and the lowest value wins: a winner holds the turn, its losses cleared and its class its base class
again (R134); a loser other than ANS and CLEAR counts the loss, and the third raises it one class (R135). -/
def Obligations.ContentionPicksTheHead : Prop :=
  (∀ (q : List SendItem) (i : SendItem), sendHead q = some i →
    ∃ l r, q = l ++ i :: r ∧ (∀ j ∈ l, i.cls < j.cls) ∧ ∀ j ∈ r, i.cls ≤ j.cls) ∧
  ∀ (s : State) (i : SendItem) (rivals : List Nat), sendHead s.line.sendq = some i →
    (s.station = .joining ∨ s.station = .online) → s.line.turn = none → s.line.window = none →
    s.line.acc = none →
    let field := i.cls * 32 + stationNo s
    let changed := fun (f : SendItem → SendItem) =>
      s.line.sendq.map fun j => if j.id = i.id then f j else j
    ∃ t, exec (.contention rivals) s = .next t ∧ t.store = s.store ∧ t.queue = s.queue ∧
      t.ctxs = s.ctxs ∧ t.map.views = s.map.views ∧
      ((∀ r ∈ rivals, field < r) →
        t.line = { s.line with
          turn := some ⟨i.id, false⟩, refuse := false
          sendq := changed fun j => { j with losses := 0, cls := j.frame.body.baseClass } }) ∧
      ((∃ r ∈ rivals, r ≤ field) →
        t.line = { s.line with
          refuse := false
          sendq := changed fun j =>
            if j.isAns ∨ j.isClear then j
            else if j.losses < 2 then { j with losses := j.losses + 1 }
            else { j with losses := 0, cls := j.frame.body.baseClass - 1 } })

/-- A taking station at a frame's last octet: octets that decode to no frame are refused, as is a DISPATCH while the
part is not ONLINE, its block is not HOME or fewer than 3 entries are free (R137, R127), and a STREAM that is not of the
handover received here; a frame another station refuses is not held; otherwise the frame is held, with a free slot
reserved, or the hold line kept until one is free (R136). A frame that begins while one is held here is taken as CLEAR
(R141). The refuse line is released as the hold line falls, which the model takes from the next event of the line (R137,
log entry 31). FRAME_COMMIT writes a held frame into its reserved slot, the youngest (R139, R145), and commits nothing
once the clear guard has queued its CLEAR (R142). A DISPATCH is entered at the tail of the dispatch queue as an INBOUND
entry that asks for its application, and its slot is FREE (R127, R146); a KIOSK_NOTE posts its notice, and an ABANDON of
the handover received here discards the block and has its records freed (R172). A CENSUS opens its window (R149). A
STREAM at the head of the slots asks for the store, the LAST one once a send place is kept for its decision, and behind
a frame in processing it waits (R146, R169). That a LAST frame waits with a place free, while a block that waits longer
could use one, is the model's reading (log entry 18, DEDUCED): R169 has it wait only until a place can be reserved. That
a LAST frame without a unit, of a block without records, asks for the store like any other is the model's choice (log
entry 27). So is that octets whose check fails are refused by a station that holds nothing where their kind octet reads
CLEAR (log entry 54). -/
def Obligations.AcceptedFramesFillTheSlots : Prop :=
  (∀ (s : State) (octets : List Octet) (other : Bool), (s.station = .joining ∨ s.station = .online) →
     s.line.turn = none → s.line.window = none →
     (s.line.acc = none → namesHere octets s = true →
       (decodeFrame octets = none → exec (.frameAcceptance octets other) s =
         .next (refreshAttention { s with line := { s.line with refuse := true } })) ∧
       (∀ src dest d, decodeFrame octets = some ⟨src, dest, .dispatch d⟩ →
         s.station ≠ .online ∨ (∃ b, d.block = some b ∧ viewOf b s ≠ .home) ∨ freePlaces s < 3 →
         exec (.frameAcceptance octets other) s =
           .next (refreshAttention { s with line := { s.line with refuse := true } })) ∧
       (∀ src dest b n l u, decodeFrame octets = some ⟨src, dest, .stream b n l u⟩ →
         (∀ r, s.hand = .receiving r →
           r.phase ≠ .receiving ∨ r.b ≠ b ∨ r.serial ≠ n ∨ r.giver ≠ src) →
         exec (.frameAcceptance octets other) s =
           .next (refreshAttention { s with line := { s.line with refuse := true } })) ∧
       (∀ f, decodeFrame octets = some f →
         (∀ st, f.body ≠ .clear st) →
         (∀ b n l u, f.body = .stream b n l u → ∃ r, s.hand = .receiving r ∧ r.phase = .receiving ∧
           r.b = b ∧ r.serial = n ∧ r.giver = f.src) →
         (∀ d, f.body = .dispatch d → s.station = .online ∧ 3 ≤ freePlaces s ∧
           ∀ b, d.block = some b → viewOf b s = .home) →
         let room := match f.body with
           | .dispatch _ => true
           | _ => false
         (other = true → exec (.frameAcceptance octets other) s =
           .next (refreshAttention { s with line := { s.line with refuse := false } })) ∧
         (other = false → freeSlotNo s = none → exec (.frameAcceptance octets other) s =
           .next (refreshAttention { s with
             line := { s.line with acc := some ⟨f, none, room⟩, refuse := false } })) ∧
         (∀ k, other = false → freeSlotNo s = some k → exec (.frameAcceptance octets other) s =
           .next (refreshAttention { s with
             line := { s.line with
               acc := some ⟨f, some k, room⟩, refuse := false
               slots := s.line.slots.set k .reserved } })))) ∧
     (s.line.acc ≠ none → ∃ t, exec (.frameAcceptance octets other) s = .next t ∧ t.line.acc = none)) ∧
  (∀ s : State, s.line.acc = none → s.line.refuse = true →
     let released := .next (refreshAttention { s with line := { s.line with refuse := false } })
     exec .frameCommit s = released ∧ (∀ n, exec (.clear n) s = released) ∧
       ∀ octets other, (s.station = .joining ∨ s.station = .online) → s.line.turn = none →
         s.line.window = none → namesHere octets s = false →
         exec (.frameAcceptance octets other) s = released) ∧
  (∀ (s : State) (f : Frame) (k : Nat) (room : Bool), s.line.acc = some ⟨f, some k, room⟩ →
     (∃ j ∈ s.line.sendq, ∃ st, j.frame.body = .clear st) → exec .frameCommit s = .next s) ∧
  (∀ (s : State) (f : Frame) (k : Nat) (room : Bool), s.line.acc = some ⟨f, some k, room⟩ →
     k < s.line.slots.length → (∀ j ∈ s.line.sendq, ∀ st, j.frame.body ≠ .clear st) →
     ∃ t, exec .frameCommit s = .next t ∧ t.line.acc = none ∧ t.store = s.store ∧ t.ctxs = s.ctxs ∧
       (∀ d b, f.body = .dispatch d → d.block = some b →
         getSlot k t = .free ∧ t.queue.nextId = s.queue.nextId + 1 ∧
           t.queue.entries = s.queue.entries ++ [⟨s.queue.nextId, .inbound, d, 0, .applying⟩] ∧
           t.arb = Arbiter.arbitrate
             { s.arb with line := s.arb.line ++ [LineWork.entry s.queue.nextId] } s.day.county) ∧
       (∀ st i r p, f.body = .dispatch (.kioskNote st i r p) → s.port.notices.length < 32 →
         getSlot k t = .free ∧ t.queue = s.queue ∧
           t.port.notices = s.port.notices ++ [routeNotice i r p]) ∧
       (∀ st b n, f.body = .dispatch (.abandon st b n) →
         let ours := fun (r : Receiving) =>
           r.phase = .receiving ∧ r.b = b ∧ r.serial = n ∧ r.giver = f.src
         getSlot k t = .free ∧ t.queue = s.queue ∧
           (∀ r, s.hand = .receiving r → ours r → t.hand = .idle ∧ viewOf b t = .foreign f.src ∧
             (recordsOf b s ≠ [] → streamAsked (.free b) t = true) ∧
             (s.port.notices.length < 32 → t.port.notices =
               s.port.notices ++ [.handover b f.src .discarded none r.units])) ∧
           ((∀ r, s.hand = .receiving r → ¬ ours r) → t.hand = s.hand ∧ t.map = s.map)) ∧
       (∀ b n l u, f.body = .stream b n l u → getSlot k s = .reserved →
         let asks := Arbiter.arbitrate { s.arb with stream := s.arb.stream ++ [.write k] } s.day.county
         t.line.nextAge = s.line.nextAge + 1 ∧ t.queue = s.queue ∧ t.hand = s.hand ∧
           (s.line.slots.any Slot.busy = true →
             getSlot k t = .full s.line.nextAge f ∧ t.arb = s.arb) ∧
           ((∀ j, j ≠ k → getSlot j s = .free) →
             (l = none → getSlot k t = .processing s.line.nextAge f false ∧ t.arb = asks) ∧
             (l ≠ none → s.ansPlaceFor k →
               getSlot k t = .processing s.line.nextAge f true ∧ t.arb = asks) ∧
             (l ≠ none → ¬ s.ansPlaceFor k →
               getSlot k t = .full s.line.nextAge f ∧ .reqSlot k ∈ t.line.waiters ∧ t.arb = s.arb))) ∧
       (∀ b, f.body = .census b → getSlot k t = .processing s.line.nextAge f false ∧
         t.line.window = some ⟨b, false, none, some k⟩) ∧
       ((∃ d, f.body = .day d) ∨ (∃ a, f.body = .ans a) ∨ (∃ r q, f.body = .req r q) ∨
           (∃ b st, f.body = .moved b st) →
         getSlot k t = .full s.line.nextAge f ∧ t.line.nextAge = s.line.nextAge + 1 ∧
           t.queue = s.queue))

/-- The hold limit of a turn queues a CLEAR of this station's frame and ends the attempt (R140); the clear guard of an
acceptance queues a CLEAR that names the frame's source (R142); and a CLEAR that begins ends an acceptance here, frees
the slot reserved for it and withdraws a CLEAR queued here (R141), and a draining giver that waited for that frame asks
for its freeze, which is the model's reading (R129, log entry 43). -/
def Obligations.ClearsEndAStuckFrame : Prop :=
  ∀ s : State,
    (∀ i id, s.line.turn = some ⟨id, false⟩ → sending s = some i → (∀ st, i.frame.body ≠ .clear st) →
      s.line.window = none →
      exec .holdLimit s = .next (refreshAttention { s with
        line := { s.line with
          turn := some ⟨id, true⟩
          nextId := s.line.nextId + 1
          sendq := s.line.sendq ++
            [⟨s.line.nextId, ⟨stationNo s, .all, .clear (stationNo s)⟩, 0, 0, 0, .lineEngine⟩] } })) ∧
    (∀ a, s.line.acc = some a → (∀ j ∈ s.line.sendq, ∀ st, j.frame.body ≠ .clear st) →
      exec .clearGuard s = .next (refreshAttention { s with
        line := { s.line with
          nextId := s.line.nextId + 1
          sendq := s.line.sendq ++
            [⟨s.line.nextId, ⟨stationNo s, .all, .clear a.frame.src⟩, 0, 0, 0, .lineEngine⟩] } })) ∧
    (∀ a n, s.line.acc = some a →
      exec (.clear n) s = .next (refreshAttention (askFreeze { s with
        line := { s.line with
          acc := none, refuse := false
          slots := match a.slot with
            | some k => s.line.slots.set k .free
            | none => s.line.slots
          sendq := s.line.sendq.filter fun j => !j.isClear } })))

/-- A delivered frame leaves its place and is reported to the block that queued it: a context's REQ begins its wait for
the answer, a DISPATCH entry leaves the queue, an announcement ends; a delivered CENSUS opens its window (R138, R102,
R125, R157, R149). The dispatch queue is then walked (R123). An undelivered attempt of a frame other than STREAM keeps
its place with one attempt more until the fourth, a context counting it (R143) and a DAY frame taking the county day
(R52), which at a failed attempt is the model's choice (log entry 16). After the fourth it is returned: the step ends
UNREACHABLE (R110), the entry counts a failure and waits for the tick (R125), an answer is lost, and a CENSUS ends not
held (R144); a DAY frame and an announcement end where no station held them, and wait 250 ms to be queued again
otherwise (R55, R157). An occasion that arose while the DAY frame was being sent queues the next when that one has left,
or is met by its next attempt, which is the model's reading (log entry 16). A CENSUS that no station holds runs its
window at once (R150). The ends of an OFFER are in FreezeLendsTheBlock, those of a STREAM in
StreamReadsAndFreesTheBlock, of a BLOCK_QUERY in DecisionEndsTheHandover and of a decision ANS in LastFrameDecides. -/
def Obligations.FramesEndDeliveredOrReturned : Prop :=
  (∀ (s : State) (i : SendItem), sending s = some i → clearing s = false → s.line.window = none →
     (∀ b, i.frame.body = .census b → exec .frameDelivered s = .next (refreshAttention
       { s with line := { s.line with window := some ⟨b, true, none, none⟩ } })) ∧
     ((∀ b, i.frame.body ≠ .census b) →
       let u : State := { s with
         line := { s.line with turn := none, sendq := s.line.sendq.filter fun j => j.id != i.id } }
       (∀ c r, i.owner = .context c → getRun c s = some r → r.phase = .sending →
         exec .frameDelivered s = .next (refreshAttention
           (walk (setRun c { r with phase := .awaiting } u)))) ∧
       (∀ id, i.owner = .entry id →
         exec .frameDelivered s = .next (refreshAttention (walk (dropEntry id u)))) ∧
       (∀ id b st, i.owner = .announcement id b st →
         exec .frameDelivered s = .next (refreshAttention (walk (dropAnnouncement id u)))) ∧
       (i.owner = .ownerEngine → exec .frameDelivered s = .next (refreshAttention (walk u))) ∧
       (i.owner = .dayUnit → exec .frameDelivered s = .next (refreshAttention (walk
         (if s.day.again = true then queueDay { u with day := { u.day with again := false } } else u)))))) ∧
  (∀ (s : State) (i : SendItem) (res : SendResult), sending s = some i → s.line.window = none →
     (∀ st, i.frame.body ≠ .clear st) → (∀ b n l u, i.frame.body ≠ .stream b n l u) →
     (clearing s = true ↔ res = .cleared) →
     let v : State := if res = .cleared then
         { s with line := { s.line with sendq := s.line.sendq.filter fun j => !j.isClear } }
       else s
     let u : State := { v with line := { v.line with turn := none } }
     let gone : State := { u with
       line := { u.line with sendq := u.line.sendq.filter fun j => j.id != i.id } }
     (∀ b, i.frame.body = .census b → res = .noListener →
       exec (.frameUndelivered res) s = .next (refreshAttention
         { s with line := { s.line with window := some ⟨b, true, none, none⟩ } })) ∧
     ((∀ b, i.frame.body = .census b → res ≠ .noListener) →
       (i.attempts + 1 ≠ 4 →
         let again := fun (j : SendItem) =>
           { j with attempts := j.attempts + 1, cls := j.frame.body.baseClass }
         ((∀ c, i.owner ≠ .context c) → i.owner ≠ .dayUnit →
           exec (.frameUndelivered res) s = .next (refreshAttention (walk (mapSend i.id again u)))) ∧
         (∀ c r, i.owner = .context c → getRun c s = some r →
           exec (.frameUndelivered res) s = .next (refreshAttention
             (walk (mapSend i.id again (setRun c { r with attempts := r.attempts + 1 } u))))) ∧
         (i.owner = .dayUnit → (∀ j ∈ s.line.sendq, j.owner = .dayUnit → j.id = i.id) →
           exec (.frameUndelivered res) s = .next (refreshAttention
             (walk (mapSend i.id
               (fun j => { again j with frame := ⟨stationNo s, .all, .day s.day.county⟩ })
               { u with day := { u.day with again := false } }))))) ∧
       (∀ id, i.owner = .entry id → i.attempts + 1 = 4 →
         exec (.frameUndelivered res) s = .next (refreshAttention
           (walk (mapEntry id
             (fun e => { e with failures := e.failures + 1, phase := .waitTick }) gone)))) ∧
       (i.owner = .dayUnit → i.attempts + 1 = 4 →
         let waits : State := if res = .noListener then gone
           else { gone with day := { gone.day with requeueWait := true } }
         exec (.frameUndelivered res) s = .next (refreshAttention
           (walk (if s.day.again = true then queueDay { waits with day := { waits.day with again := false } }
             else waits)))) ∧
       (∀ id b st, i.owner = .announcement id b st → i.attempts + 1 = 4 →
         exec (.frameUndelivered res) s = .next (refreshAttention
           (walk { gone with
             map := { gone.map with
               moved := if res = .noListener then gone.map.moved.filter fun a => a.id != id
                 else gone.map.moved.map fun a =>
                   if a.id = id then { a with waiting := true } else a } }))) ∧
       (∀ c r, i.owner = .context c → getRun c s = some r → (∀ b st, r.request ≠ .handOver b st) →
         i.attempts + 1 = 4 →
         exec (.frameUndelivered res) s = .next (refreshAttention
           (walk (endTransaction c .unreachable none .nothing
             (setRun c { r with attempts := r.attempts + 1 } gone))))) ∧
       (i.owner = .ownerEngine → i.attempts + 1 = 4 →
         exec (.frameUndelivered res) s = .next (refreshAttention (walk gone))) ∧
       (∀ b, i.owner = .census b → i.attempts + 1 = 4 →
         exec (.frameUndelivered res) s = .next (refreshAttention (walk (censusEnded b none gone))))))

/-- SEND_PLACE_FREED is carried out in every state and changes no record. The freed places of the send queue are offered
to the waiting blocks in the order in which they began to wait (R133): the frame of the first takes a place, where one
is free for a frame other than ANS and CLEAR, within the share of 20 and outside the last of the 24 (R132), the block
waits no more, and only then the others are offered the next. Where every waiting block is a census, an announcement or
a context's step, as many of them as there are free places get one, the longest waiting first, and the others keep their
order (log entry 18). -/
def Obligations.FreedSendPlaceGoesToTheFirstWaiting : Prop :=
  (∀ s : State, ∃ t, exec .sendPlaceFreed s = .next t ∧ t.store = s.store ∧ t.conf = s.conf ∧
     t.day.county = s.day.county ∧ t.ctxs.length = s.ctxs.length) ∧
  (∀ (s : State) (w : Waiter) (rest : List Waiter) (f : Frame) (o : Owner), s.line.waiters = w :: rest →
     w.frame s = some (f, o) →
     let offered := fun u : State => refreshAttention (walk (beginStream (rest.foldl offerPlace u)))
     (0 < s.sendRoom → exec .sendPlaceFreed s = .next (offered { s with
       line := { s.line with
         nextId := s.line.nextId + 1
         sendq := s.line.sendq ++ [⟨s.line.nextId, f, 2, 0, 0, o⟩]
         waiters := (w :: rest).filter fun v => v != w } })) ∧
     (s.sendRoom = 0 → exec .sendPlaceFreed s = .next (offered s))) ∧
  (∀ s : State, s.line.waiters.Nodup → (∀ w ∈ s.line.waiters, (w.frame s).isSome = true) →
     s.queue.entries = [] → (∀ k a f, headSlot s = some (k, a, f) → f.isStream = false) →
     ∃ t new, exec .sendPlaceFreed s = .next t ∧ t.line.sendq = s.line.sendq ++ new ∧
       new.map (fun j => some (j.frame, j.owner)) =
         (s.line.waiters.take s.sendRoom).map (fun w => w.frame s) ∧
       (∀ j ∈ new, j.cls = 2 ∧ j.attempts = 0 ∧ j.losses = 0) ∧
       t.line.waiters = s.line.waiters.drop s.sendRoom ∧
       t.queue = s.queue ∧ t.ctxs = s.ctxs ∧ t.map = s.map ∧ t.hand = s.hand)

/-- A station drives its own lane of a census window: firm for a block viewed HOME or LENDING, probing for PROBING, and
nothing for the other views (R149, R154). At the window's end the sender's view, when FOREIGN or UNKNOWN, takes the
result: UNKNOWN without a claimant, FOREIGN of the only one, its stranded records then freed (R155), unchanged with two
or more; a HOME or LENDING view is kept, this station being a claimant (R159). The requesters then have it: a context
ends NO_OWNER without a claimant, takes its step to the only one, be it this station, and waits its deferral wait with
two or more or where the census was not held (R108); a dispatch entry waits for the retry tick with failure count 0
(R126); and a place with later requesters queues their census (R158). A census not held leaves the views, makes a probe
wait its 250 ms (R175) and a receiver in CONFIRMING its 2 s (R170). A window of a block PROBING here resolves its probe,
whoever sent it: HOME without another claimant, FOREIGN of a single firm one with MOVED queued and the records freed,
UNKNOWN otherwise, with a CONFLICT notice for each but HOME (R175, R176). The next PROBING block is then probed (R174);
with none left the part is ONLINE, its own DAY frame is queued, the sweep starts and the dispatch queue is walked
(R201). -/
def Obligations.CensusCollectsTheClaims : Prop :=
  (∀ (s : State) (w : Window), s.line.window = some w →
    (w.lane = none → exec .censusLane s = .next (refreshAttention { s with
      line := { s.line with
        window := some { w with
          lane := some (match viewOf w.b s with
            | .home | .lending _ => some .firm
            | .probing => some .probing
            | _ => none) } } })) ∧
    (∀ claims i, w.lane = some none → w.sender = true → sending s = some i → s.HandoverKept →
      (viewOf w.b s = .unknown ∨ ∃ st, viewOf w.b s = .foreign st) →
      (∀ c ∈ claims, c.station ≠ stationNo s) →
      ∃ t, exec (.censusWindowEnd claims) s = .next t ∧ t.line.window = none ∧ t.line.turn = none ∧
        t.store = s.store ∧
        viewOf w.b t = (match claims with
          | [] => .unknown
          | [c] => .foreign c.station
          | _ => viewOf w.b s) ∧
        ((∃ c, claims = [c]) → recordsOf w.b s ≠ [] → streamAsked (.free w.b) t = true)) ∧
    (∀ claims k, w.lane = some none → w.sender = false → w.slot = some k →
      viewOf w.b s ≠ .probing → s.queue.entries = [] → k < s.line.slots.length →
      ∃ t, exec (.censusWindowEnd claims) s = .next t ∧ t.line.window = none ∧
        (getSlot k t = .free ∨ getSlot k t = .reserved) ∧ t.map = s.map ∧ t.store = s.store) ∧
    (∀ claims p, w.lane = some none → w.sender = true →
      (viewOf w.b s = .unknown ∨ ∃ st, viewOf w.b s = .foreign st) →
      (∀ c ∈ claims, c.station ≠ stationNo s) → (s.queue.entries.map Entry.id).Nodup →
      (s.map.census.find? fun q => q.b == w.b) = some p →
      ∃ t, exec (.censusWindowEnd claims) s = .next t ∧
        (∀ c r, .context c ∈ p.askers → getRun c s = some r → r.phase = .census →
          (claims = [] → ∃ g a, getCtx c t = some ⟨g, .answered a⟩ ∧ a.outcome = .noOwner ∧
            a.reason = none ∧ a.step = r.step) ∧
          (2 ≤ claims.length → getRun c t = some { r with phase := .deferring }) ∧
          (∀ x o, claims = [x] → r.op (stationNo s) = some o → o.block = w.b →
            getRun c t = some { r with phase := .sending, attempts := 0 } ∧
              ((∃ j ∈ t.line.sendq, j.owner = .context c ∧
                  j.frame = ⟨stationNo s, .station x.station, .req (ctxRef c r s) (.op o)⟩) ∨
                .context c x.station ∈ t.line.waiters))) ∧
        (∀ e ∈ s.queue.entries, .entry e.id ∈ p.askers → e.phase = .census →
          { e with failures := 0, phase := .waitTick } ∈ t.queue.entries) ∧
        (p.phase = .followUp →
          ∃ q ∈ t.map.census, q.b = w.b ∧ q.phase = .queued ∧ ∀ a ∈ p.later, a ∈ q.askers)) ∧
    (∀ claims k, w.lane = some (some k) → w.sender = true → s.HandoverKept →
      (viewOf w.b s = .home ∨ ∃ st, viewOf w.b s = .lending st) →
      (∀ c ∈ claims, c.station ≠ stationNo s) → (s.queue.entries.map Entry.id).Nodup →
      ∃ t, exec (.censusWindowEnd claims) s = .next t ∧ viewOf w.b t = viewOf w.b s ∧ t.store = s.store ∧
        ∀ p, (s.map.census.find? fun q => q.b == w.b) = some p →
          (∀ c r, .context c ∈ p.askers → getRun c s = some r → r.phase = .census →
            (∀ o, claims = [] → r.op (stationNo s) = some o → o.block = w.b →
              getRun c t = some { r with phase := .local_ } ∧ t.stepTaken c o (viewOf w.b s)) ∧
            (claims ≠ [] → getRun c t = some { r with phase := .deferring })) ∧
          (∀ e ∈ s.queue.entries, .entry e.id ∈ p.askers → e.phase = .census →
            { e with failures := 0, phase := .waitTick } ∈ t.queue.entries)) ∧
    (∀ claims, w.lane = some (some .probing) → viewOf w.b s = .probing →
      (∀ r, s.hand = .receiving r → r.phase ≠ .receiving) →
      (∀ c ∈ claims, c.station ≠ stationNo s) →
      ∃ t, exec (.censusWindowEnd claims) s = .next t ∧ t.store = s.store ∧
        (let conflict := fun v : View => viewOf w.b t = v ∧
           (s.port.notices.length < 32 →
             t.port.notices = s.port.notices ++ [.conflict w.b v claims])
         (claims = [] → viewOf w.b t = .home ∧ t.port.notices = s.port.notices) ∧
         (∀ c, claims = [⟨c, .firm⟩] → conflict (.foreign c) ∧
           t.map.moved = s.map.moved ++ [⟨s.map.nextMoved, w.b, c, false⟩] ∧
           (recordsOf w.b s ≠ [] → streamAsked (.free w.b) t = true)) ∧
         (∀ c, claims = [⟨c, .probing⟩] → conflict .unknown) ∧
         (2 ≤ claims.length → conflict .unknown)) ∧
        (∀ pr, s.map.probe = some pr → pr.b = w.b → s.tablesOk → s.station = .joining →
          let others := s.map.views.filter fun p => p.2 == .probing && p.1 != w.b.key
          (∀ k rest, others = (k, .probing) :: rest → k < 768 →
            t.station = .joining ∧ t.map.probe = some ⟨blockOfKey k, false⟩ ∧
              t.censusAsked (blockOfKey k) .probe) ∧
          (others = [] → t.station = .online ∧ t.map.probe = none ∧
            t.daySent s.day.county ∧
            (burstHeld s = false → s.arb.sweep = false → t.day.pos = some (.item 0) ∧
              t.day.sweep = if s.day.sweep = .paused then .paused else .running) ∧
            (∀ e b, s.queue.entries = [e] → e.dir = .outbound → e.phase = .queued → e.failures < 4 →
              e.disp.block = some b → viewOf b t = .home →
              t.queue.entries = [{ e with phase := .applying }]))))) ∧
  (∀ (s : State) (i : SendItem) (b : Block) (res : SendResult) (p : CensusPlace),
     sending s = some i → s.line.window = none → i.owner = .census b → i.frame.body = .census b →
     i.attempts + 1 = 4 → res ≠ .noListener → (clearing s = true ↔ res = .cleared) →
     (∀ r, s.hand = .receiving r → r.phase ≠ .receiving) → (s.queue.entries.map Entry.id).Nodup →
     (s.map.census.find? fun q => q.b == b) = some p →
     ∃ t, exec (.frameUndelivered res) s = .next t ∧ t.map.views = s.map.views ∧ t.store = s.store ∧
       (∀ c r, .context c ∈ p.askers → getRun c s = some r → r.phase = .census →
         getRun c t = some { r with phase := .deferring }) ∧
       (∀ e ∈ s.queue.entries, .entry e.id ∈ p.askers → e.phase = .census →
         { e with failures := 0, phase := .waitTick } ∈ t.queue.entries) ∧
       (∀ pr, .probe ∈ p.askers → s.map.probe = some pr → pr.b = b → t.map.probe = some ⟨b, true⟩) ∧
       (∀ r timer, .confirming ∈ p.askers → s.hand = .receiving r → r.phase = .confirming timer → r.b = b →
         t.hand = .receiving { r with phase := .confirming true }) ∧
       (p.phase = .followUp →
         ∃ q ∈ t.map.census, q.b = b ∧ q.phase = .queued ∧ ∀ a ∈ p.later, a ∈ q.askers))

/-! ## Day frames and announcements (chapters 3 and 8) -/

/-- A DAY frame carrying a higher day is adopted with a DAY notice and the sweep starts again (R58), the own DAY frame
that waits carrying it too, which is the model's choice (log entry 16: R52 has every frame carry the county day, and R55
names no such occasion), one carrying a lower day makes the station queue its own, and one of the same day only
withdraws an own frame of that day that waits unsent; its slot is released (R54, R56). That an own DAY frame being sent
is left as it is, and the next one queued when it has left, is the model's reading (log entry 16). A refused own frame
is queued again with the county day when its 250 ms end (R55). -/
def Obligations.DayFramesRaiseTheDay : Prop :=
  ∀ s : State,
    let again := s.day.again || (ownDay s).any fun i => isBeingSent i s
    (∀ k age f d, headSlot s = some (k, age, f) → f.body = .day d →
      ∃ t, exec .dayFrame s = .next t ∧ (getSlot k t = .free ∨ getSlot k t = .reserved) ∧
        t.store = s.store ∧ t.queue = s.queue ∧ t.ctxs = s.ctxs ∧ t.map = s.map ∧
        t.day.county = max d s.day.county ∧ (s.day.county < d → s.sweepRestarts t) ∧
        (s.day.county < d → s.port.notices.length < 32 →
          t.port.notices = s.port.notices ++ [.day d s.day.county]) ∧
        (s.day.county < d → ∀ i, ownDay s = some i → s.line.turn = none →
          t.line.sendq = s.line.sendq.map fun j =>
            if j.id = i.id then { j with frame := ⟨stationNo s, .all, .day d⟩ } else j) ∧
        (d ≤ s.day.county → t.port.notices = s.port.notices) ∧
        (d < s.day.county → t.daySent s.day.county ∧ t.day = { s.day with again := again }) ∧
        (d = s.day.county → t.day = s.day) ∧
        (d = s.day.county → ∀ i, ownDay s = some i → s.line.turn = none → i.frame.body = .day d →
          t.line.sendq = s.line.sendq.filter fun j => j.id != i.id)) ∧
    (s.day.requeueWait = true →
      ∃ t, exec .dayRequeueWait s = .next t ∧
        t.day = { s.day with requeueWait := false, again := again } ∧ t.daySent s.day.county ∧
        t.store = s.store ∧ t.queue = s.queue ∧ t.ctxs = s.ctxs ∧ t.map = s.map)

/-- A MOVED frame naming another station makes a FOREIGN or UNKNOWN view FOREIGN of it, leaves HOME, LENDING and
RECEIVING as they are, and resolves a PROBING block to it with a CONFLICT notice; a view it makes FOREIGN has its
stranded records freed (R155, R176). Naming this station it changes no view, and from the giver it ends CONFIRMING
(R156, R170). That it does so only when it carries the block of the wait, and with another block leaves the engine as it
was, is the model's reading (log entry 57). An announcement returned refused is queued again after its wait if the view
still names its station, and is dropped otherwise (R157). That of several announcements of the block that wait the
oldest is meant (log entry 29), and that a view RECEIVING from the announced station does not name it, so that the
announcement is dropped (log entry 45), is the model's choice. A probe whose census was not held asks it again when its
250 ms end (R175), and a receiver that stays CONFIRMING asks for a census of its block when its 2 s end (R170). The
census has a place, or the request waits for one (R158). -/
def Obligations.MovedFramesAndRetries : Prop :=
  (∀ s : State,
     (∀ k age f b st, headSlot s = some (k, age, f) → f.body = .moved b st →
       ∃ t, exec .movedFrame s = .next t ∧ t.store = s.store ∧
         (st ≠ stationNo s → viewOf b s ≠ .probing →
           viewOf b t = (match viewOf b s with
             | .home => .home
             | .lending x => .lending x
             | .receiving x => .receiving x
             | _ => .foreign st)) ∧
         (st ≠ stationNo s → (viewOf b s = .unknown ∨ viewOf b s = .probing ∨ ∃ x, viewOf b s = .foreign x) →
           recordsOf b s ≠ [] → streamAsked (.free b) t = true) ∧
         (st ≠ stationNo s → viewOf b s = .probing →
           (s.HandoverKept → viewOf b t = .foreign st) ∧
           (s.port.notices.length < 32 → .conflict b (.foreign st) [⟨st, .firm⟩] ∈ t.port.notices)) ∧
         (st = stationNo s → t.map = s.map) ∧
         (∀ r timer, st = stationNo s → s.hand = .receiving r → r.phase = .confirming timer →
           r.giver = f.src → t.hand = if r.b = b then .idle else s.hand)) ∧
     (∀ b a, (s.map.moved.find? fun a => a.b == b && a.waiting) = some a →
       ∃ t, exec (.movedRequeueWait b) s = .next t ∧ t.store = s.store ∧ t.map.views = s.map.views ∧
         (viewOf a.b s = .foreign a.station →
           (∃ j ∈ t.line.sendq, j.frame.body = .moved a.b a.station) ∨
             .announcement a.id a.b a.station ∈ t.line.waiters) ∧
         (viewOf a.b s ≠ .foreign a.station →
           t.line = s.line ∧ ∀ x ∈ t.map.moved, x.id ≠ a.id))) ∧
  (∀ s : State,
     (∀ b, s.map.probe = some ⟨b, true⟩ →
       ∃ t, exec .probeRetryWait s = .next t ∧ t.map.probe = some ⟨b, false⟩ ∧ t.censusAsked b .probe ∧
         t.map.views = s.map.views ∧ t.hand = s.hand ∧ t.store = s.store) ∧
     (∀ r, s.hand = .receiving r → r.phase = .confirming true →
       ∃ t, exec .confirmationCensusWait s = .next t ∧ t.censusAsked r.b .confirming ∧
         t.hand = .receiving { r with phase := .confirming false } ∧ t.map.views = s.map.views ∧
         t.store = s.store))

/-! ## The handover of a block (chapter 8) -/

/-- The freeze of a drained block raises the serial (255 followed by 0), makes the view LENDING, counts the block and
sends the OFFER under the context; while an INBOUND entry for the block remains nothing is frozen (R161, R129), nor, by
the model's reading, while a DISPATCH for the block is in acceptance (log entry 43). At the drain limit a block with
INBOUND entries left is refused NOT_QUIET and the engine is idle (R160); that its freeze then no longer waits for the
store, and ends the grant it holds, is the model's choice (log entry 52). That with none left the handover drains on
with no limit running, and that an entry found at the freeze after that limit only delays it, is the model's choice (log
entry 40). The OFFER counts the records of the block, and the copies and holds of its titles but those quarantined,
which is the model's choice (log entry 32). An OFFER ends in one of four ways (R161): by an ANS DONE the context ends
DONE with the receiver's acceptance, and the giver streams from the first record, asking to read it, or, of a block
without records, placing the one frame without a unit; by an ANS REFUSED it ends REFUSED with the reason; returned
undelivered it ends UNREACHABLE; and after the last two the block is HOME again, which restarts the sweep (R58), and the
engine idle, as at the answer limit. -/
def Obligations.FreezeLendsTheBlock : Prop :=
  (∀ (s : State) (g : Giving) (limit : Bool), s.hand = .giving g → g.phase = .draining limit →
    (∀ E r, s.arb.held = some ⟨.stream .freeze, E⟩ → getRun g.ctx s = some r → takenFor g.b s = false →
      ∃ t g' r', exec .handoverFreeze s = .next t ∧ viewOf g.b t = .lending g.receiver ∧
        t.map.serial = (s.map.serial + 1) % 256 ∧ t.store = s.store ∧ t.queue = s.queue ∧
        t.hand = .giving g' ∧ g'.phase = .offering ∧ g'.serial = (s.map.serial + 1) % 256 ∧
        g'.counts.records = (recordsOf g.b s).length ∧ g'.b = g.b ∧ g'.receiver = g.receiver ∧
        (let titles := s.store.titles.filter fun p =>
           decide (g.b.space = .title) && p.1 / 65536 == g.b.num && !p.2.quarantined
         g'.counts.copies = (titles.map fun p => p.2.copies.length).sum ∧
           g'.counts.holds = (titles.map fun p => p.2.holds.length).sum) ∧
        getRun g.ctx t = some r' ∧ r'.phase = .sending ∧ r'.tag = r.tag ∧
        ((∃ j ∈ t.line.sendq, j.frame.dest = .station g.receiver ∧
            j.frame.body = .req (ctxRef g.ctx r s) (.offer g.b g'.serial g'.counts)) ∨
          .context g.ctx g.receiver ∈ t.line.waiters)) ∧
    (∀ E, s.arb.held = some ⟨.stream .freeze, E⟩ → takenFor g.b s = true →
      exec .handoverFreeze s = .next (refreshAttention (endGrant s))) ∧
    (∀ r gen, limit = true → getCtx g.ctx s = some ⟨gen, .running r⟩ → r.request.compensation = none →
      ∃ t, exec .drainLimit s = .next t ∧ t.store = s.store ∧ t.map = s.map ∧ t.queue = s.queue ∧
        (inboundFor g.b s = true → t.hand = .idle ∧
          (let left : Arbiter := { s.arb with stream := s.arb.stream.filter fun w => w != .freeze }
           ((∀ E, s.arb.held ≠ some ⟨.stream .freeze, E⟩) → t.arb = left) ∧
             ∀ E, s.arb.held = some ⟨.stream .freeze, E⟩ →
               t.arb = Arbiter.arbitrate { left with held := none } s.day.county) ∧
          ∃ a, getCtx g.ctx t = some ⟨gen, .answered a⟩ ∧ a.outcome = .refused ∧
            a.reason = some .notQuiet) ∧
        (inboundFor g.b s = false → t.hand = .giving { g with phase := .draining false }))) ∧
  (∀ (s : State) (g : Giving) (gen : Nat) (r : Run), s.hand = .giving g →
     getCtx g.ctx s = some ⟨gen, .running r⟩ → (∃ b st, r.request = .handOver b st) →
     let ended := fun (t : State) (o : OutcomeCode) (why : Option Reason) (v : Values) (attempts : Nat) =>
       ∃ x, getCtx g.ctx t = some ⟨gen, .answered x⟩ ∧ x.outcome = o ∧ x.reason = why ∧ x.values = v ∧
         x.attempts = attempts ∧ x.tag = r.tag
     (∀ k age f a, g.phase = .offering → r.phase = .awaiting → headSlot s = some (k, age, f) →
       f.body = .ans a → a.op = .offer → a.ref = ⟨g.ctx, gen, r.step⟩ → a.patron = 0 → a.item = 0 →
       a.title = 0 →
       ∃ t, exec .ansProcessing s = .next t ∧ (getSlot k t = .free ∨ getSlot k t = .reserved) ∧
         t.store = s.store ∧ t.queue = s.queue ∧
         (∀ v, a.answer = .done v →
           ended t .done none (.acceptedBy g.receiver) r.attempts ∧ t.map = s.map ∧
           t.hand = .giving { g with
             phase := .streaming, units := 0, cursor := g.b.num * 65536, ready := [] } ∧
           (recordsOf g.b s ≠ [] → streamAsked .read t = true) ∧
           (recordsOf g.b s = [] →
             (∃ j ∈ t.line.sendq, j.owner = .handover ∧ j.frame.dest = .station g.receiver ∧
               j.frame.body = .stream g.b g.serial (some 0) none) ∨ .handover ∈ t.line.waiters)) ∧
         (∀ why v, a.answer = .refused why v →
           ended t .refused (some why) (.refusedBy g.receiver) r.attempts ∧ t.hand = .idle ∧
             viewOf g.b t = .home ∧ s.sweepRestarts t)) ∧
     (∀ i res q, sending s = some i → s.line.window = none → i.owner = .context g.ctx →
       i.frame.body = .req q (.offer g.b g.serial g.counts) → i.attempts + 1 = 4 →
       (clearing s = true ↔ res = .cleared) →
       ∃ t, exec (.frameUndelivered res) s = .next t ∧
         ended t .unreachable none .nothing (r.attempts + 1) ∧ t.hand = .idle ∧ viewOf g.b t = .home ∧
         s.sweepRestarts t ∧ t.store = s.store))

/-- The giver reads the next record of its block at its grant, changing none: an item, a patron, or a title with its
copies and holds in order gives its units, a quarantined record a marker, as one whose check word fails, which is marked
(R162, R181), and the cursor moves past it. A STREAM delivered counts its unit: the next one is placed, or the next
record read, and after the LAST frame the giver is DECIDING (R162). A STREAM that ends undelivered, at its first
attempt, fails the handover: the block is HOME again, which restarts the sweep (R58), the engine idle, ABANDON is queued
to the receiver and FAILED posted with STREAM_UNDELIVERED (R163, R166). RECORD_FREEING frees the 64 lowest-numbered
records of its block, or all when they are fewer, none of another block and none of a block viewed HOME; with records
left it asks again, and the giver that has freed the last is idle (R155, R165). That the lowest numbers go first is the
model's choice (log entry 44). -/
def Obligations.StreamReadsAndFreesTheBlock : Prop :=
  (∀ (s : State) (E : Nat),
    (∀ g n, s.arb.held = some ⟨.stream .read, E⟩ → s.hand = .giving g → g.phase = .streaming →
      nextInBlock g.b g.cursor s = some n →
      ∃ t us, exec .streamUnitRead s = .next t ∧
        t.hand = .giving { g with ready := us, cursor := n + 1 } ∧ t.queue = s.queue ∧ t.map = s.map ∧
        (∀ r, g.b.space = .item → getItem n s = some r →
          (r.quarantined = true → us = [.marker .item n] ∧ t.store = s.store) ∧
          (r.quarantined = false → r.check = .agrees → us = [.item n r] ∧ t.store = s.store) ∧
          (r.quarantined = false → ¬ r.wordAgrees n → us = [.marker .item n] ∧
            t.store = (markItem n r s).store)) ∧
        (∀ p, g.b.space = .patron → getPatron n s = some p →
          (p.quarantined = true → us = [.marker .patron n] ∧ t.store = s.store) ∧
          (p.quarantined = false → p.check = .agrees → us = [.patron n p] ∧ t.store = s.store) ∧
          (p.quarantined = false → ¬ p.wordAgrees n → us = [.marker .patron n] ∧
            t.store = (markPatron n p s).store)) ∧
        (∀ x, g.b.space = .title → getTitle n s = some x →
          (x.quarantined = true → us = [.marker .title n] ∧ t.store = s.store) ∧
          (x.quarantined = false → x.checks = true → us = .titleHeader n x.holdable x.currentTo ::
            (x.copies.map .copyRef ++ x.holds.map .holdEntry) ∧ t.store = s.store) ∧
          (x.quarantined = false → ¬ x.wordsAgree n → us = [.marker .title n] ∧
            t.store = (markTitle n x s).store))) ∧
    (∀ b, s.arb.held = some ⟨.stream (.free b), E⟩ →
      ∃ t, exec .recordFreeing s = .next t ∧ t.queue = s.queue ∧ t.map = s.map ∧ t.ctxs = s.ctxs ∧
        (viewOf b s = .home → t.store = s.store) ∧
        (∀ n, (blockOf .item n ≠ b → getItem n t = getItem n s) ∧
          (blockOf .title n ≠ b → getTitle n t = getTitle n s) ∧
          (blockOf .patron n ≠ b → getPatron n t = getPatron n s)) ∧
        (s.tablesOk → (viewOf b s = .unknown ∨ (∃ st, viewOf b s = .foreign st) ∨
            ∃ st, viewOf b s = .receiving st) →
          recordsOf b t = (recordsOf b s).drop 64 ∧
            (64 < (recordsOf b s).length → streamAsked (.free b) t = true)) ∧
        (∀ g, s.hand = .giving g → g.phase = .freeing → g.b = b → (∃ st, viewOf b s = .foreign st) →
          (recordsOf b s).length ≤ 64 → t.hand = .idle))) ∧
  (∀ (s : State) (g : Giving) (i : SendItem) (last : Option Nat) (u : Option StreamUnit),
     s.hand = .giving g → g.phase = .streaming → sending s = some i → s.line.window = none →
     i.owner = .handover → i.frame.body = .stream g.b g.serial last u →
     let g1 : Giving := { g with
       units := g.units + (match u with | none => 0 | some _ => 1), ready := g.ready.tail }
     let nextRead := nextInBlock g.b g.cursor s
     (clearing s = false →
       ∃ t, exec .frameDelivered s = .next t ∧ t.store = s.store ∧ t.map.views = s.map.views ∧
         (last ≠ none → t.hand = .giving { g1 with phase := .deciding }) ∧
         (last = none → t.hand = .giving g1 ∧
           (g1.ready = [] → nextRead ≠ none → streamAsked .read t = true) ∧
           (∀ x more, g1.ready = x :: more →
             (∃ j ∈ t.line.sendq, j.owner = .handover ∧ j.frame.dest = .station g.receiver ∧
               j.frame.body = .stream g.b g.serial
                 (if more = [] ∧ nextRead = none then some (g1.units + 1) else none) (some x)) ∨
             .handover ∈ t.line.waiters))) ∧
     (∀ res, (clearing s = true ↔ res = .cleared) → g.receiver ≠ stationNo s → s.queue.ok →
       ∃ t, exec (.frameUndelivered res) s = .next t ∧ t.hand = .idle ∧ viewOf g.b t = .home ∧
         s.sweepRestarts t ∧ t.store = s.store ∧
         (∃ e ∈ t.queue.entries, e.dir = .outbound ∧ e.disp = .abandon g.receiver g.b g.serial) ∧
         (s.port.notices.length < 32 → t.port.notices = s.port.notices ++
           [.handover g.b g.receiver .failed (some .streamUndelivered) g.units])))

/-- The decision HOME completes the handover: the view is FOREIGN of the receiver, MOVED is announced, the notice DONE
posted, and the block's records are freed, the giver FREEING until the last and idle without any (R165). BAD_COUNT and
NOT_HOME fail it: the view is HOME again, which restarts the sweep (R58), the engine idle, and ABANDON goes to the
receiver unless it answered NOT_HOME (R166). DEFERRED, and a decision of another block or serial, change nothing of the
handover (R164). Without a decision the giver sends a BLOCK_QUERY at each limit. A BLOCK_QUERY delivered starts the
limit on its answer, and one returned after its fourth attempt the wait before the next (R164). -/
def Obligations.DecisionEndsTheHandover : Prop :=
  ∀ (s : State) (g : Giving), s.hand = .giving g →
    (∀ i q, g.phase = .querying .sending → sending s = some i → s.line.window = none →
      i.owner = .handover → i.frame.body = .req q (.blockQuery g.b g.serial) →
      (clearing s = false → ∃ t, exec .frameDelivered s = .next t ∧
        t.hand = .giving { g with phase := .querying .awaiting } ∧ t.map.views = s.map.views ∧
        t.store = s.store) ∧
      (∀ res, i.attempts + 1 = 4 → (clearing s = true ↔ res = .cleared) →
        ∃ t, exec (.frameUndelivered res) s = .next t ∧
          t.hand = .giving { g with phase := .querying .retryWait } ∧ t.map.views = s.map.views ∧
          t.store = s.store)) ∧
    (∀ k age f a o b serial, headSlot s = some (k, age, f) → f.body = .ans a →
      a.op = .lastDecision ∨ a.op = .blockQuery → a.answer = .exchange o b serial →
      ∃ t, exec .lastDecision s = .next t ∧ t.store = s.store ∧ t.ctxs = s.ctxs ∧
        (g.phase = .deciding ∨ (∃ q, g.phase = .querying q) → b = g.b → serial = g.serial →
          (o = .home → viewOf g.b t = .foreign g.receiver ∧ t.queue = s.queue ∧
            (recordsOf g.b s = [] → t.hand = .idle) ∧
            (recordsOf g.b s ≠ [] →
              t.hand = .giving { g with phase := .freeing } ∧ streamAsked (.free g.b) t = true) ∧
            (s.port.notices.length < 32 → t.port.notices =
              s.port.notices ++ [.handover g.b g.receiver .done none g.units]) ∧
            t.map.moved = s.map.moved ++ [⟨s.map.nextMoved, g.b, g.receiver, false⟩]) ∧
          (o = .badCount → viewOf g.b t = .home ∧ t.hand = .idle ∧ s.sweepRestarts t ∧
            t.queue = (enqueue (.abandon g.receiver g.b g.serial) s).queue ∧
            (s.port.notices.length < 32 → t.port.notices =
              s.port.notices ++ [.handover g.b g.receiver .failed (some .badCount) g.units])) ∧
          (o = .notHome → viewOf g.b t = .home ∧ t.hand = .idle ∧ s.sweepRestarts t ∧ t.queue = s.queue ∧
            (s.port.notices.length < 32 → t.port.notices =
              s.port.notices ++ [.handover g.b g.receiver .failed (some .notHome) g.units])) ∧
          (o = .deferred → t.hand = s.hand ∧ t.map = s.map ∧ t.queue = s.queue)) ∧
        (b ≠ g.b ∨ serial ≠ g.serial → t.hand = s.hand ∧ t.map = s.map ∧ t.queue = s.queue)) ∧
    (∀ i, (i = .decisionLimit ∧ (g.phase = .deciding ∨ g.phase = .querying .awaiting)) ∨
        (i = .blockQueryRetry ∧ g.phase = .querying .retryWait) →
      ∃ t, exec i s = .next t ∧ t.hand = .giving { g with phase := .querying .sending } ∧
        t.map = s.map ∧ t.store = s.store ∧ t.queue = s.queue ∧
        ((∃ j ∈ t.line.sendq, j.owner = .handover ∧ j.frame.dest = .station g.receiver ∧
            j.frame.body = .req ⟨255, 0, 0⟩ (.blockQuery g.b g.serial)) ∨
          .handover ∈ t.line.waiters))

/-- An OFFER is refused BUSY_HANDOVER while JOINING, ALREADY_HOME, BUSY_HANDOVER with a handover in flight, or NO_ROOM,
in this order; one that passes makes the view RECEIVING(g), reserves the counted places, has the stranded records of the
block freed and is answered DONE (R167, R155). A BLOCK_QUERY is answered from the view: HOME for HOME and LENDING,
DEFERRED for RECEIVING from the asker and PROBING, and NOT_HOME otherwise (R171). -/
def Obligations.OffersAndQueriesAreAnswered : Prop :=
  ∀ (s : State) (k age : Nat) (f : Frame) (ref : CtxRef) (b : Block) (serial : Nat),
    let ans := fun (op : OpCode) (a : StepAnswer) (t : State) =>
      t.line.sendq = s.line.sendq ++ [⟨s.line.nextId, ⟨stationNo s, .station f.src,
        .ans ⟨ref, op, 0, 0, 0, a⟩⟩, 1, 0, 0, .handover⟩]
    (∀ c, processingSlot Frame.isOffer s = some (k, age, f) → f.body = .req ref (.offer b serial c) →
      ∃ t, exec .offer s = .next t ∧ t.store = s.store ∧ t.queue = s.queue ∧ t.ctxs = s.ctxs ∧
        (s.station = .joining → t.hand = s.hand ∧ t.map = s.map ∧
          ans .offer (.refused .busyHandover .nothing) t) ∧
        (s.station ≠ .joining → viewOf b s = .home → t.hand = s.hand ∧ t.map = s.map ∧
          ans .offer (.refused .alreadyHome .nothing) t) ∧
        (s.station ≠ .joining → viewOf b s ≠ .home → s.hand ≠ .idle →
          t.hand = s.hand ∧ t.map = s.map ∧ ans .offer (.refused .busyHandover .nothing) t) ∧
        (s.station ≠ .joining → viewOf b s ≠ .home → s.hand = .idle → roomForOffer b c s = false →
          t.hand = s.hand ∧ t.map = s.map ∧ ans .offer (.refused .noRoom .nothing) t) ∧
        (s.station ≠ .joining → viewOf b s ≠ .home → s.hand = .idle → roomForOffer b c s = true →
          t.hand = .receiving ⟨.receiving, f.src, b, serial, c, 0, 0⟩ ∧
            viewOf b t = .receiving f.src ∧ ans .offer (.done .nothing) t ∧
            (recordsOf b s ≠ [] → streamAsked (.free b) t = true))) ∧
    (processingSlot Frame.isBlockQuery s = some (k, age, f) → f.body = .req ref (.blockQuery b serial) →
      ∃ t, exec .blockQuery s = .next t ∧ t.store = s.store ∧ t.map = s.map ∧ t.hand = s.hand ∧
        ans .blockQuery (.exchange (match viewOf b s with
          | .home | .lending _ => .home
          | .receiving x => if x = f.src then .deferred else .notHome
          | .probing => .deferred
          | _ => .notHome) b serial) t)

/-- A committed STREAM of the block being received is written at its grant: the record as streamed with a new check
word, a title header with empty lists, copies and holds appended to their title in order, the parts written before
keeping their check words (R180); each unit counts one and moves one reserved place of its pool into use, a marker and a
title header as a record does (R168, R177). A unit whose handover has ended is discarded unwritten, a freeing of its
block that waits notwithstanding (R184). Any other waits for that freeing (R155, R167). These are the model's choice
where R168 and R177 say nothing: that a waiting unit keeps its slot and asks the store again behind the freeing (log
entry 19); that a unit whose number lies outside the block, or a copy or hold before any title header, is counted and
written as it stands (log entry 48); that a unit beyond the OFFER's counts is written all the same, the reservation
staying at 0 (log entry 49); that a copy or hold over the bounds of R28 and R29 is appended, and a unit of a number
already written replaces its record (log entry 55); and that a quarantine mark streamed with a record is dropped (log
entry 41). -/
def Obligations.StreamWritesTheUnits : Prop :=
  ∀ (s : State) (k E age : Nat) (f : Frame) (p : Bool) (b : Block) (serial : Nat) (u : StreamUnit),
    s.arb.held = some ⟨.stream (.write k), E⟩ → getSlot k s = .processing age f p →
    f.body = .stream b serial none (some u) →
    (∀ r, s.hand = .receiving r → r.phase = .receiving → r.b = b → r.serial = serial → r.giver = f.src →
      s.arb.stream.contains (.free b) = true →
      ∃ t, exec .streamUnitWrite s = .next t ∧ t.store = s.store ∧ t.hand = s.hand ∧
        t.line.slots = s.line.slots ∧ streamAsked (.write k) t = true) ∧
    (∀ r, s.hand = .receiving r → r.phase = .receiving → r.b = b → r.serial = serial → r.giver = f.src →
      s.arb.stream.contains (.free b) = false →
      ∃ t, exec .streamUnitWrite s = .next t ∧ t.map = s.map ∧ t.queue = s.queue ∧
        t.hand = .receiving { r with
          units := r.units + 1
          title := match u with
            | .titleHeader n _ _ => n
            | _ => r.title
          reserved := match u with
            | .copyRef _ => { r.reserved with copies := r.reserved.copies - 1 }
            | .holdEntry _ => { r.reserved with holds := r.reserved.holds - 1 }
            | _ => { r.reserved with records := r.reserved.records - 1 } } ∧
        (getSlot k t = .free ∨ getSlot k t = .reserved) ∧
        (∀ n x, u = .item n x →
          getItem n t = some { x with quarantined := false, check := .agrees } ∧
            ∀ m, m ≠ n → getItem m t = getItem m s) ∧
        (∀ n x, u = .patron n x →
          getPatron n t = some { x with quarantined := false, check := .agrees }) ∧
        (∀ n h d, u = .titleHeader n h d →
          getTitle n t = some ⟨h, [], [], d, false, .agrees⟩) ∧
        (∀ c x, u = .copyRef c → getTitle r.title s = some x →
          getTitle r.title t = some { x with copies := x.copies ++ [{ c with check := .agrees }] }) ∧
        (∀ h x, u = .holdEntry h → getTitle r.title s = some x →
          getTitle r.title t = some { x with holds := x.holds ++ [{ h with check := .agrees }] }) ∧
        (∀ n, u = .marker .item n → ∃ y, getItem n t = some y ∧ y.quarantined = true) ∧
        (∀ n, u = .marker .title n → ∃ y, getTitle n t = some y ∧ y.quarantined = true) ∧
        (∀ n, u = .marker .patron n → ∃ y, getPatron n t = some y ∧ y.quarantined = true)) ∧
    ((∀ r, s.hand = .receiving r → ¬ (r.phase = .receiving ∧ r.b = b ∧ r.serial = serial ∧ r.giver = f.src)) →
      ∃ t, exec .streamUnitWrite s = .next t ∧ t.store = s.store ∧ t.hand = s.hand ∧
        (getSlot k t = .free ∨ getSlot k t = .reserved))

/-- The frame with the LAST mark first has its unit written, as STREAM_UNIT_WRITE writes that of a frame without the
mark, and then decides: with the units written equal to its total the view is HOME, which restarts the sweep (R58), the
unused places are released, RECEIVED is posted and the decision HOME is sent, the engine CONFIRMING; otherwise the block
is discarded with the decision BAD_COUNT (R169). A LAST frame whose handover has ended is discarded, its unit unwritten,
and sends no decision (R168, R184); one whose block has a freeing that waits asks the store again behind it, which is
the model's choice (log entry 19). At its idle limit the receiver discards the block. On a discard the view is
FOREIGN(g), the units written are freed, DISCARDED is posted and the engine is idle (R168, R172). CONFIRMING ends, the
engine idle, when an ANS carrying HOME is delivered to the giver, be it the decision or the answer to a BLOCK_QUERY,
with the block and the serial of the wait, which R170 does not name (the model's reading, log entry 57), and at the end
of a census window of the block in which this station alone claims, whoever sent it; a window with other claimants
leaves it CONFIRMING, its 2 s started again where it had asked for that census (R170). -/
def Obligations.LastFrameDecides : Prop :=
  (∀ (s : State) (r : Receiving), s.hand = .receiving r → r.phase = .receiving →
    (∀ k E age f p total u, s.arb.held = some ⟨.stream (.write k), E⟩ →
      getSlot k s = .processing age f p → f.src = r.giver →
      f.body = .stream r.b r.serial (some total) u → s.arb.stream.contains (.free r.b) = false →
      let n := r.units + (match u with | none => 0 | some _ => 1)
      let bare := setSlot k (.processing age { f with body := .stream r.b r.serial none u } p) s
      ∃ t, exec .streamLast s = .next t ∧ t.queue = s.queue ∧ (u = none → t.store = s.store) ∧
        (u ≠ none → ∃ v, exec .streamUnitWrite bare = .next v ∧ t.store = v.store) ∧
        (n = total → viewOf r.b t = .home ∧ s.sweepRestarts t ∧
          (∃ r', t.hand = .receiving r' ∧ r'.phase = .confirming true ∧ r'.reserved = ⟨0, 0, 0⟩ ∧
            r'.b = r.b ∧ r'.giver = r.giver ∧ r'.serial = r.serial ∧ r'.units = n) ∧
          (s.port.notices.length < 32 → t.port.notices =
            s.port.notices ++ [.handover r.b r.giver .received none n]) ∧
          ∃ j ∈ t.line.sendq, j.frame.dest = .station r.giver ∧
            j.frame.body = .ans ⟨⟨255, 0, 0⟩, .lastDecision, 0, 0, 0, .exchange .home r.b r.serial⟩) ∧
        (n ≠ total → viewOf r.b t = .foreign r.giver ∧ t.hand = .idle ∧
          (recordsOf r.b t ≠ [] → streamAsked (.free r.b) t = true) ∧
          (s.port.notices.length < 32 → t.port.notices =
            s.port.notices ++ [.handover r.b r.giver .discarded none n]) ∧
          ∃ j ∈ t.line.sendq, j.frame.dest = .station r.giver ∧
            j.frame.body =
              .ans ⟨⟨255, 0, 0⟩, .lastDecision, 0, 0, 0, .exchange .badCount r.b r.serial⟩)) ∧
    ∃ t, exec .idleLimit s = .next t ∧ viewOf r.b t = .foreign r.giver ∧ t.hand = .idle ∧
      t.store = s.store ∧ t.queue = s.queue ∧ (recordsOf r.b s ≠ [] → streamAsked (.free r.b) t = true) ∧
      (s.port.notices.length < 32 → t.port.notices =
        s.port.notices ++ [.handover r.b r.giver .discarded none r.units])) ∧
  (∀ (s : State) (k E age : Nat) (f : Frame) (p : Bool) (b : Block) (serial total : Nat) (u : Option StreamUnit),
     s.arb.held = some ⟨.stream (.write k), E⟩ → getSlot k s = .processing age f p →
     f.body = .stream b serial (some total) u →
     ∃ t, exec .streamLast s = .next t ∧
       let kept := t.store = s.store ∧ t.hand = s.hand ∧ t.map = s.map ∧ t.queue = s.queue ∧
         t.line.sendq = s.line.sendq ∧ t.port.notices = s.port.notices
       ((∀ r, s.hand = .receiving r →
           ¬ (r.phase = .receiving ∧ r.b = b ∧ r.serial = serial ∧ r.giver = f.src)) →
         kept ∧ (getSlot k t = .free ∨ getSlot k t = .reserved)) ∧
       (∀ r, s.hand = .receiving r → r.phase = .receiving ∧ r.b = b ∧ r.serial = serial ∧ r.giver = f.src →
         s.arb.stream.contains (.free b) = true →
         kept ∧ t.line.slots = s.line.slots ∧ streamAsked (.write k) t = true)) ∧
  (∀ (s : State) (r : Receiving) (timer : Bool), s.hand = .receiving r → r.phase = .confirming timer →
     (∀ i a, sending s = some i → clearing s = false → s.line.window = none → i.owner = .handover →
       i.frame.dest = .station r.giver → i.frame.body = .ans a →
       a.answer = .exchange .home r.b r.serial →
       ∃ t, exec .frameDelivered s = .next t ∧ t.hand = .idle ∧ t.map.views = s.map.views ∧
         t.store = s.store) ∧
     (∀ w k claims, s.line.window = some w → w.b = r.b → w.lane = some (some k) → viewOf r.b s = .home →
       (∀ c ∈ claims, c.station ≠ stationNo s) →
       ∃ t, exec (.censusWindowEnd claims) s = .next t ∧ viewOf r.b t = .home ∧ t.store = s.store ∧
         (claims = [] → t.hand = .idle) ∧
         (claims ≠ [] → ∃ timer', t.hand = .receiving { r with phase := .confirming timer' } ∧
           (∀ p, w.sender = true → (s.map.census.find? fun q => q.b == r.b) = some p →
             .confirming ∈ p.askers → timer' = true))))
end

