-- ==== Sys2Proof/Laws/CheckWords.lean ====
section
/-! SUPPORT. The check of a part by its stored word (R180) is the check the grants make: the part agrees exactly when
its word stands at no difference from the computed one. -/

namespace Sys2Proof.Machine

/-- A part's stored word is the computed one exactly when it stands at no difference. -/
theorem wordAgrees_iff (l : List Nat) (c : CheckWord) : wordAgrees l c ↔ c = .agrees := by
  cases c with
  | absent => simp [wordAgrees, CheckWord.storedWord]
  | off d =>
    simp only [wordAgrees, CheckWord.storedWord, Option.some.injEq, CheckWord.off.injEq]
    constructor
    · intro h
      have := congrArg (fun x => Config.checkWord l ^^^ x) h
      simpa [← BitVec.xor_assoc] using this
    · rintro rfl
      simp

/-- The check of an item record, as a grant makes it. -/
theorem Item.wordAgrees_iff (n : Nat) (r : Item) : r.wordAgrees n ↔ r.check = .agrees :=
  Machine.wordAgrees_iff _ _

/-- The check of a patron record, as a grant makes it. -/
theorem Patron.wordAgrees_iff (n : Nat) (p : Patron) : p.wordAgrees n ↔ p.check = .agrees :=
  Machine.wordAgrees_iff _ _

/-- The check of a title, as a grant makes it. -/
theorem Title.wordsAgree_iff (n : Nat) (t : Title) : t.wordsAgree n ↔ t.checks = true := by
  simp only [Title.wordsAgree, Title.checks, Machine.wordAgrees_iff, Bool.and_eq_true, beq_iff_eq,
    List.all_eq_true, and_assoc]
  refine and_congr_right fun _ => and_congr ?_ ?_
  · exact ⟨fun h c hc => let ⟨k, hk⟩ := List.getElem?_of_mem hc; h k c hk,
      fun h k c hk => h c (List.mem_of_getElem? hk)⟩
  · exact ⟨fun h c hc => let ⟨k, hk⟩ := List.getElem?_of_mem hc; h k c hk,
      fun h k c hk => h c (List.mem_of_getElem? hk)⟩

end Sys2Proof.Machine
end

