-- ==== Sys2Proof/Laws/State.lean ====
section
/-! SUPPORT. One lemma per field per update of the state, each true by rfl, so that no proof unfolds a record update. -/

namespace Sys2Proof.Machine

variable (s : State)

@[simp] theorem setView_station (b : Block) (v : View) : (setView b v s).station = s.station := rfl
@[simp] theorem setView_conf (b : Block) (v : View) : (setView b v s).conf = s.conf := rfl
@[simp] theorem setView_store (b : Block) (v : View) : (setView b v s).store = s.store := rfl
@[simp] theorem setView_capture (b : Block) (v : View) : (setView b v s).capture = s.capture := rfl
@[simp] theorem setView_arb (b : Block) (v : View) : (setView b v s).arb = s.arb := rfl
@[simp] theorem setView_day (b : Block) (v : View) : (setView b v s).day = s.day := rfl
@[simp] theorem setView_ctxs (b : Block) (v : View) : (setView b v s).ctxs = s.ctxs := rfl
@[simp] theorem setView_queue (b : Block) (v : View) : (setView b v s).queue = s.queue := rfl
@[simp] theorem setView_line (b : Block) (v : View) : (setView b v s).line = s.line := rfl
@[simp] theorem setView_map (b : Block) (v : View) :
    (setView b v s).map = { s.map with views := putView s.map.views b.key v } := rfl
@[simp] theorem setView_hand (b : Block) (v : View) : (setView b v s).hand = s.hand := rfl
@[simp] theorem setView_port (b : Block) (v : View) : (setView b v s).port = s.port := rfl
@[simp] theorem setView_free (b : Block) (v : View) : (setView b v s).free = s.free := rfl
@[simp] theorem setView_pending (b : Block) (v : View) : (setView b v s).pending = s.pending := rfl

@[simp] theorem putItem_station (n : Nat) (r : Item) : (putItem n r s).station = s.station := rfl
@[simp] theorem putItem_conf (n : Nat) (r : Item) : (putItem n r s).conf = s.conf := rfl
@[simp] theorem putItem_store (n : Nat) (r : Item) :
    (putItem n r s).store = { s.store with items := tblSet s.store.items n { r with check := .agrees } } := rfl
@[simp] theorem putItem_capture (n : Nat) (r : Item) : (putItem n r s).capture = s.capture := rfl
@[simp] theorem putItem_arb (n : Nat) (r : Item) : (putItem n r s).arb = s.arb := rfl
@[simp] theorem putItem_day (n : Nat) (r : Item) : (putItem n r s).day = s.day := rfl
@[simp] theorem putItem_ctxs (n : Nat) (r : Item) : (putItem n r s).ctxs = s.ctxs := rfl
@[simp] theorem putItem_queue (n : Nat) (r : Item) : (putItem n r s).queue = s.queue := rfl
@[simp] theorem putItem_line (n : Nat) (r : Item) : (putItem n r s).line = s.line := rfl
@[simp] theorem putItem_map (n : Nat) (r : Item) : (putItem n r s).map = s.map := rfl
@[simp] theorem putItem_hand (n : Nat) (r : Item) : (putItem n r s).hand = s.hand := rfl
@[simp] theorem putItem_port (n : Nat) (r : Item) : (putItem n r s).port = s.port := rfl
@[simp] theorem putItem_free (n : Nat) (r : Item) : (putItem n r s).free = s.free := rfl
@[simp] theorem putItem_pending (n : Nat) (r : Item) : (putItem n r s).pending = s.pending := rfl

@[simp] theorem putItemRaw_station (n : Nat) (r : Item) : (putItemRaw n r s).station = s.station := rfl
@[simp] theorem putItemRaw_conf (n : Nat) (r : Item) : (putItemRaw n r s).conf = s.conf := rfl
@[simp] theorem putItemRaw_store (n : Nat) (r : Item) :
    (putItemRaw n r s).store = { s.store with items := tblSet s.store.items n r } := rfl
@[simp] theorem putItemRaw_capture (n : Nat) (r : Item) : (putItemRaw n r s).capture = s.capture := rfl
@[simp] theorem putItemRaw_arb (n : Nat) (r : Item) : (putItemRaw n r s).arb = s.arb := rfl
@[simp] theorem putItemRaw_day (n : Nat) (r : Item) : (putItemRaw n r s).day = s.day := rfl
@[simp] theorem putItemRaw_ctxs (n : Nat) (r : Item) : (putItemRaw n r s).ctxs = s.ctxs := rfl
@[simp] theorem putItemRaw_queue (n : Nat) (r : Item) : (putItemRaw n r s).queue = s.queue := rfl
@[simp] theorem putItemRaw_line (n : Nat) (r : Item) : (putItemRaw n r s).line = s.line := rfl
@[simp] theorem putItemRaw_map (n : Nat) (r : Item) : (putItemRaw n r s).map = s.map := rfl
@[simp] theorem putItemRaw_hand (n : Nat) (r : Item) : (putItemRaw n r s).hand = s.hand := rfl
@[simp] theorem putItemRaw_port (n : Nat) (r : Item) : (putItemRaw n r s).port = s.port := rfl
@[simp] theorem putItemRaw_free (n : Nat) (r : Item) : (putItemRaw n r s).free = s.free := rfl
@[simp] theorem putItemRaw_pending (n : Nat) (r : Item) : (putItemRaw n r s).pending = s.pending := rfl

@[simp] theorem dropItem_station (n : Nat) : (dropItem n s).station = s.station := rfl
@[simp] theorem dropItem_conf (n : Nat) : (dropItem n s).conf = s.conf := rfl
@[simp] theorem dropItem_store (n : Nat) :
    (dropItem n s).store = { s.store with items := tblDel s.store.items n } := rfl
@[simp] theorem dropItem_capture (n : Nat) : (dropItem n s).capture = s.capture := rfl
@[simp] theorem dropItem_arb (n : Nat) : (dropItem n s).arb = s.arb := rfl
@[simp] theorem dropItem_day (n : Nat) : (dropItem n s).day = s.day := rfl
@[simp] theorem dropItem_ctxs (n : Nat) : (dropItem n s).ctxs = s.ctxs := rfl
@[simp] theorem dropItem_queue (n : Nat) : (dropItem n s).queue = s.queue := rfl
@[simp] theorem dropItem_line (n : Nat) : (dropItem n s).line = s.line := rfl
@[simp] theorem dropItem_map (n : Nat) : (dropItem n s).map = s.map := rfl
@[simp] theorem dropItem_hand (n : Nat) : (dropItem n s).hand = s.hand := rfl
@[simp] theorem dropItem_port (n : Nat) : (dropItem n s).port = s.port := rfl
@[simp] theorem dropItem_free (n : Nat) : (dropItem n s).free = s.free := rfl
@[simp] theorem dropItem_pending (n : Nat) : (dropItem n s).pending = s.pending := rfl

@[simp] theorem putTitle_station (n : Nat) (t : Title) : (putTitle n t s).station = s.station := rfl
@[simp] theorem putTitle_conf (n : Nat) (t : Title) : (putTitle n t s).conf = s.conf := rfl
@[simp] theorem putTitle_store (n : Nat) (t : Title) :
    (putTitle n t s).store = { s.store with titles := tblSet s.store.titles n t.sealed } := rfl
@[simp] theorem putTitle_capture (n : Nat) (t : Title) : (putTitle n t s).capture = s.capture := rfl
@[simp] theorem putTitle_arb (n : Nat) (t : Title) : (putTitle n t s).arb = s.arb := rfl
@[simp] theorem putTitle_day (n : Nat) (t : Title) : (putTitle n t s).day = s.day := rfl
@[simp] theorem putTitle_ctxs (n : Nat) (t : Title) : (putTitle n t s).ctxs = s.ctxs := rfl
@[simp] theorem putTitle_queue (n : Nat) (t : Title) : (putTitle n t s).queue = s.queue := rfl
@[simp] theorem putTitle_line (n : Nat) (t : Title) : (putTitle n t s).line = s.line := rfl
@[simp] theorem putTitle_map (n : Nat) (t : Title) : (putTitle n t s).map = s.map := rfl
@[simp] theorem putTitle_hand (n : Nat) (t : Title) : (putTitle n t s).hand = s.hand := rfl
@[simp] theorem putTitle_port (n : Nat) (t : Title) : (putTitle n t s).port = s.port := rfl
@[simp] theorem putTitle_free (n : Nat) (t : Title) : (putTitle n t s).free = s.free := rfl
@[simp] theorem putTitle_pending (n : Nat) (t : Title) : (putTitle n t s).pending = s.pending := rfl

@[simp] theorem putTitleRaw_station (n : Nat) (t : Title) : (putTitleRaw n t s).station = s.station := rfl
@[simp] theorem putTitleRaw_conf (n : Nat) (t : Title) : (putTitleRaw n t s).conf = s.conf := rfl
@[simp] theorem putTitleRaw_store (n : Nat) (t : Title) :
    (putTitleRaw n t s).store = { s.store with titles := tblSet s.store.titles n t } := rfl
@[simp] theorem putTitleRaw_capture (n : Nat) (t : Title) : (putTitleRaw n t s).capture = s.capture := rfl
@[simp] theorem putTitleRaw_arb (n : Nat) (t : Title) : (putTitleRaw n t s).arb = s.arb := rfl
@[simp] theorem putTitleRaw_day (n : Nat) (t : Title) : (putTitleRaw n t s).day = s.day := rfl
@[simp] theorem putTitleRaw_ctxs (n : Nat) (t : Title) : (putTitleRaw n t s).ctxs = s.ctxs := rfl
@[simp] theorem putTitleRaw_queue (n : Nat) (t : Title) : (putTitleRaw n t s).queue = s.queue := rfl
@[simp] theorem putTitleRaw_line (n : Nat) (t : Title) : (putTitleRaw n t s).line = s.line := rfl
@[simp] theorem putTitleRaw_map (n : Nat) (t : Title) : (putTitleRaw n t s).map = s.map := rfl
@[simp] theorem putTitleRaw_hand (n : Nat) (t : Title) : (putTitleRaw n t s).hand = s.hand := rfl
@[simp] theorem putTitleRaw_port (n : Nat) (t : Title) : (putTitleRaw n t s).port = s.port := rfl
@[simp] theorem putTitleRaw_free (n : Nat) (t : Title) : (putTitleRaw n t s).free = s.free := rfl
@[simp] theorem putTitleRaw_pending (n : Nat) (t : Title) : (putTitleRaw n t s).pending = s.pending := rfl

@[simp] theorem dropTitle_station (n : Nat) : (dropTitle n s).station = s.station := rfl
@[simp] theorem dropTitle_conf (n : Nat) : (dropTitle n s).conf = s.conf := rfl
@[simp] theorem dropTitle_store (n : Nat) :
    (dropTitle n s).store = { s.store with titles := tblDel s.store.titles n } := rfl
@[simp] theorem dropTitle_capture (n : Nat) : (dropTitle n s).capture = s.capture := rfl
@[simp] theorem dropTitle_arb (n : Nat) : (dropTitle n s).arb = s.arb := rfl
@[simp] theorem dropTitle_day (n : Nat) : (dropTitle n s).day = s.day := rfl
@[simp] theorem dropTitle_ctxs (n : Nat) : (dropTitle n s).ctxs = s.ctxs := rfl
@[simp] theorem dropTitle_queue (n : Nat) : (dropTitle n s).queue = s.queue := rfl
@[simp] theorem dropTitle_line (n : Nat) : (dropTitle n s).line = s.line := rfl
@[simp] theorem dropTitle_map (n : Nat) : (dropTitle n s).map = s.map := rfl
@[simp] theorem dropTitle_hand (n : Nat) : (dropTitle n s).hand = s.hand := rfl
@[simp] theorem dropTitle_port (n : Nat) : (dropTitle n s).port = s.port := rfl
@[simp] theorem dropTitle_free (n : Nat) : (dropTitle n s).free = s.free := rfl
@[simp] theorem dropTitle_pending (n : Nat) : (dropTitle n s).pending = s.pending := rfl

@[simp] theorem putPatron_station (n : Nat) (p : Patron) : (putPatron n p s).station = s.station := rfl
@[simp] theorem putPatron_conf (n : Nat) (p : Patron) : (putPatron n p s).conf = s.conf := rfl
@[simp] theorem putPatron_store (n : Nat) (p : Patron) :
    (putPatron n p s).store = { s.store with patrons := tblSet s.store.patrons n { p with check := .agrees } } := rfl
@[simp] theorem putPatron_capture (n : Nat) (p : Patron) : (putPatron n p s).capture = s.capture := rfl
@[simp] theorem putPatron_arb (n : Nat) (p : Patron) : (putPatron n p s).arb = s.arb := rfl
@[simp] theorem putPatron_day (n : Nat) (p : Patron) : (putPatron n p s).day = s.day := rfl
@[simp] theorem putPatron_ctxs (n : Nat) (p : Patron) : (putPatron n p s).ctxs = s.ctxs := rfl
@[simp] theorem putPatron_queue (n : Nat) (p : Patron) : (putPatron n p s).queue = s.queue := rfl
@[simp] theorem putPatron_line (n : Nat) (p : Patron) : (putPatron n p s).line = s.line := rfl
@[simp] theorem putPatron_map (n : Nat) (p : Patron) : (putPatron n p s).map = s.map := rfl
@[simp] theorem putPatron_hand (n : Nat) (p : Patron) : (putPatron n p s).hand = s.hand := rfl
@[simp] theorem putPatron_port (n : Nat) (p : Patron) : (putPatron n p s).port = s.port := rfl
@[simp] theorem putPatron_free (n : Nat) (p : Patron) : (putPatron n p s).free = s.free := rfl
@[simp] theorem putPatron_pending (n : Nat) (p : Patron) : (putPatron n p s).pending = s.pending := rfl

@[simp] theorem putPatronRaw_station (n : Nat) (p : Patron) : (putPatronRaw n p s).station = s.station := rfl
@[simp] theorem putPatronRaw_conf (n : Nat) (p : Patron) : (putPatronRaw n p s).conf = s.conf := rfl
@[simp] theorem putPatronRaw_store (n : Nat) (p : Patron) :
    (putPatronRaw n p s).store = { s.store with patrons := tblSet s.store.patrons n p } := rfl
@[simp] theorem putPatronRaw_capture (n : Nat) (p : Patron) : (putPatronRaw n p s).capture = s.capture := rfl
@[simp] theorem putPatronRaw_arb (n : Nat) (p : Patron) : (putPatronRaw n p s).arb = s.arb := rfl
@[simp] theorem putPatronRaw_day (n : Nat) (p : Patron) : (putPatronRaw n p s).day = s.day := rfl
@[simp] theorem putPatronRaw_ctxs (n : Nat) (p : Patron) : (putPatronRaw n p s).ctxs = s.ctxs := rfl
@[simp] theorem putPatronRaw_queue (n : Nat) (p : Patron) : (putPatronRaw n p s).queue = s.queue := rfl
@[simp] theorem putPatronRaw_line (n : Nat) (p : Patron) : (putPatronRaw n p s).line = s.line := rfl
@[simp] theorem putPatronRaw_map (n : Nat) (p : Patron) : (putPatronRaw n p s).map = s.map := rfl
@[simp] theorem putPatronRaw_hand (n : Nat) (p : Patron) : (putPatronRaw n p s).hand = s.hand := rfl
@[simp] theorem putPatronRaw_port (n : Nat) (p : Patron) : (putPatronRaw n p s).port = s.port := rfl
@[simp] theorem putPatronRaw_free (n : Nat) (p : Patron) : (putPatronRaw n p s).free = s.free := rfl
@[simp] theorem putPatronRaw_pending (n : Nat) (p : Patron) : (putPatronRaw n p s).pending = s.pending := rfl

@[simp] theorem dropPatron_station (n : Nat) : (dropPatron n s).station = s.station := rfl
@[simp] theorem dropPatron_conf (n : Nat) : (dropPatron n s).conf = s.conf := rfl
@[simp] theorem dropPatron_store (n : Nat) :
    (dropPatron n s).store = { s.store with patrons := tblDel s.store.patrons n } := rfl
@[simp] theorem dropPatron_capture (n : Nat) : (dropPatron n s).capture = s.capture := rfl
@[simp] theorem dropPatron_arb (n : Nat) : (dropPatron n s).arb = s.arb := rfl
@[simp] theorem dropPatron_day (n : Nat) : (dropPatron n s).day = s.day := rfl
@[simp] theorem dropPatron_ctxs (n : Nat) : (dropPatron n s).ctxs = s.ctxs := rfl
@[simp] theorem dropPatron_queue (n : Nat) : (dropPatron n s).queue = s.queue := rfl
@[simp] theorem dropPatron_line (n : Nat) : (dropPatron n s).line = s.line := rfl
@[simp] theorem dropPatron_map (n : Nat) : (dropPatron n s).map = s.map := rfl
@[simp] theorem dropPatron_hand (n : Nat) : (dropPatron n s).hand = s.hand := rfl
@[simp] theorem dropPatron_port (n : Nat) : (dropPatron n s).port = s.port := rfl
@[simp] theorem dropPatron_free (n : Nat) : (dropPatron n s).free = s.free := rfl
@[simp] theorem dropPatron_pending (n : Nat) : (dropPatron n s).pending = s.pending := rfl

@[simp] theorem enqueue_station (d : Dispatch) : (enqueue d s).station = s.station := rfl
@[simp] theorem enqueue_conf (d : Dispatch) : (enqueue d s).conf = s.conf := rfl
@[simp] theorem enqueue_store (d : Dispatch) : (enqueue d s).store = s.store := rfl
@[simp] theorem enqueue_capture (d : Dispatch) : (enqueue d s).capture = s.capture := rfl
@[simp] theorem enqueue_arb (d : Dispatch) : (enqueue d s).arb = s.arb := rfl
@[simp] theorem enqueue_day (d : Dispatch) : (enqueue d s).day = s.day := rfl
@[simp] theorem enqueue_ctxs (d : Dispatch) : (enqueue d s).ctxs = s.ctxs := rfl
@[simp] theorem enqueue_queue (d : Dispatch) :
    (enqueue d s).queue = { entries := s.queue.entries ++ [{ id := s.queue.nextId, dir := .outbound, disp := d, failures := 0, phase := .queued }], nextId := s.queue.nextId + 1 } := rfl
@[simp] theorem enqueue_line (d : Dispatch) : (enqueue d s).line = s.line := rfl
@[simp] theorem enqueue_map (d : Dispatch) : (enqueue d s).map = s.map := rfl
@[simp] theorem enqueue_hand (d : Dispatch) : (enqueue d s).hand = s.hand := rfl
@[simp] theorem enqueue_port (d : Dispatch) : (enqueue d s).port = s.port := rfl
@[simp] theorem enqueue_free (d : Dispatch) : (enqueue d s).free = s.free := rfl
@[simp] theorem enqueue_pending (d : Dispatch) : (enqueue d s).pending = s.pending := rfl

@[simp] theorem dropEntry_station (id : Nat) : (dropEntry id s).station = s.station := rfl
@[simp] theorem dropEntry_conf (id : Nat) : (dropEntry id s).conf = s.conf := rfl
@[simp] theorem dropEntry_store (id : Nat) : (dropEntry id s).store = s.store := rfl
@[simp] theorem dropEntry_capture (id : Nat) : (dropEntry id s).capture = s.capture := rfl
@[simp] theorem dropEntry_arb (id : Nat) : (dropEntry id s).arb = s.arb := rfl
@[simp] theorem dropEntry_day (id : Nat) : (dropEntry id s).day = s.day := rfl
@[simp] theorem dropEntry_ctxs (id : Nat) : (dropEntry id s).ctxs = s.ctxs := rfl
@[simp] theorem dropEntry_queue (id : Nat) :
    (dropEntry id s).queue = { s.queue with entries := s.queue.entries.filter fun e => e.id != id } := rfl
@[simp] theorem dropEntry_line (id : Nat) : (dropEntry id s).line = s.line := rfl
@[simp] theorem dropEntry_map (id : Nat) : (dropEntry id s).map = s.map := rfl
@[simp] theorem dropEntry_hand (id : Nat) : (dropEntry id s).hand = s.hand := rfl
@[simp] theorem dropEntry_port (id : Nat) : (dropEntry id s).port = s.port := rfl
@[simp] theorem dropEntry_free (id : Nat) : (dropEntry id s).free = s.free := rfl
@[simp] theorem dropEntry_pending (id : Nat) : (dropEntry id s).pending = s.pending := rfl

@[simp] theorem mapEntry_station (id : Nat) (f : Entry → Entry) : (mapEntry id f s).station = s.station := rfl
@[simp] theorem mapEntry_conf (id : Nat) (f : Entry → Entry) : (mapEntry id f s).conf = s.conf := rfl
@[simp] theorem mapEntry_store (id : Nat) (f : Entry → Entry) : (mapEntry id f s).store = s.store := rfl
@[simp] theorem mapEntry_capture (id : Nat) (f : Entry → Entry) : (mapEntry id f s).capture = s.capture := rfl
@[simp] theorem mapEntry_arb (id : Nat) (f : Entry → Entry) : (mapEntry id f s).arb = s.arb := rfl
@[simp] theorem mapEntry_day (id : Nat) (f : Entry → Entry) : (mapEntry id f s).day = s.day := rfl
@[simp] theorem mapEntry_ctxs (id : Nat) (f : Entry → Entry) : (mapEntry id f s).ctxs = s.ctxs := rfl
@[simp] theorem mapEntry_queue (id : Nat) (f : Entry → Entry) :
    (mapEntry id f s).queue = { s.queue with entries := s.queue.entries.map fun e => if e.id = id then f e else e } := rfl
@[simp] theorem mapEntry_line (id : Nat) (f : Entry → Entry) : (mapEntry id f s).line = s.line := rfl
@[simp] theorem mapEntry_map (id : Nat) (f : Entry → Entry) : (mapEntry id f s).map = s.map := rfl
@[simp] theorem mapEntry_hand (id : Nat) (f : Entry → Entry) : (mapEntry id f s).hand = s.hand := rfl
@[simp] theorem mapEntry_port (id : Nat) (f : Entry → Entry) : (mapEntry id f s).port = s.port := rfl
@[simp] theorem mapEntry_free (id : Nat) (f : Entry → Entry) : (mapEntry id f s).free = s.free := rfl
@[simp] theorem mapEntry_pending (id : Nat) (f : Entry → Entry) : (mapEntry id f s).pending = s.pending := rfl

@[simp] theorem setEntryPhase_station (id : Nat) (p : EntryPhase) : (setEntryPhase id p s).station = s.station := rfl
@[simp] theorem setEntryPhase_conf (id : Nat) (p : EntryPhase) : (setEntryPhase id p s).conf = s.conf := rfl
@[simp] theorem setEntryPhase_store (id : Nat) (p : EntryPhase) : (setEntryPhase id p s).store = s.store := rfl
@[simp] theorem setEntryPhase_capture (id : Nat) (p : EntryPhase) : (setEntryPhase id p s).capture = s.capture := rfl
@[simp] theorem setEntryPhase_arb (id : Nat) (p : EntryPhase) : (setEntryPhase id p s).arb = s.arb := rfl
@[simp] theorem setEntryPhase_day (id : Nat) (p : EntryPhase) : (setEntryPhase id p s).day = s.day := rfl
@[simp] theorem setEntryPhase_ctxs (id : Nat) (p : EntryPhase) : (setEntryPhase id p s).ctxs = s.ctxs := rfl
@[simp] theorem setEntryPhase_line (id : Nat) (p : EntryPhase) : (setEntryPhase id p s).line = s.line := rfl
@[simp] theorem setEntryPhase_map (id : Nat) (p : EntryPhase) : (setEntryPhase id p s).map = s.map := rfl
@[simp] theorem setEntryPhase_hand (id : Nat) (p : EntryPhase) : (setEntryPhase id p s).hand = s.hand := rfl
@[simp] theorem setEntryPhase_port (id : Nat) (p : EntryPhase) : (setEntryPhase id p s).port = s.port := rfl
@[simp] theorem setEntryPhase_free (id : Nat) (p : EntryPhase) : (setEntryPhase id p s).free = s.free := rfl
@[simp] theorem setEntryPhase_pending (id : Nat) (p : EntryPhase) : (setEntryPhase id p s).pending = s.pending := rfl

@[simp] theorem pushFrame_station (f : Frame) (o : Owner) : (pushFrame f o s).station = s.station := rfl
@[simp] theorem pushFrame_conf (f : Frame) (o : Owner) : (pushFrame f o s).conf = s.conf := rfl
@[simp] theorem pushFrame_store (f : Frame) (o : Owner) : (pushFrame f o s).store = s.store := rfl
@[simp] theorem pushFrame_capture (f : Frame) (o : Owner) : (pushFrame f o s).capture = s.capture := rfl
@[simp] theorem pushFrame_arb (f : Frame) (o : Owner) : (pushFrame f o s).arb = s.arb := rfl
@[simp] theorem pushFrame_day (f : Frame) (o : Owner) : (pushFrame f o s).day = s.day := rfl
@[simp] theorem pushFrame_ctxs (f : Frame) (o : Owner) : (pushFrame f o s).ctxs = s.ctxs := rfl
@[simp] theorem pushFrame_queue (f : Frame) (o : Owner) : (pushFrame f o s).queue = s.queue := rfl
@[simp] theorem pushFrame_map (f : Frame) (o : Owner) : (pushFrame f o s).map = s.map := rfl
@[simp] theorem pushFrame_hand (f : Frame) (o : Owner) : (pushFrame f o s).hand = s.hand := rfl
@[simp] theorem pushFrame_port (f : Frame) (o : Owner) : (pushFrame f o s).port = s.port := rfl
@[simp] theorem pushFrame_free (f : Frame) (o : Owner) : (pushFrame f o s).free = s.free := rfl
@[simp] theorem pushFrame_pending (f : Frame) (o : Owner) : (pushFrame f o s).pending = s.pending := rfl

@[simp] theorem dropSend_station (id : Nat) : (dropSend id s).station = s.station := rfl
@[simp] theorem dropSend_conf (id : Nat) : (dropSend id s).conf = s.conf := rfl
@[simp] theorem dropSend_store (id : Nat) : (dropSend id s).store = s.store := rfl
@[simp] theorem dropSend_capture (id : Nat) : (dropSend id s).capture = s.capture := rfl
@[simp] theorem dropSend_arb (id : Nat) : (dropSend id s).arb = s.arb := rfl
@[simp] theorem dropSend_day (id : Nat) : (dropSend id s).day = s.day := rfl
@[simp] theorem dropSend_ctxs (id : Nat) : (dropSend id s).ctxs = s.ctxs := rfl
@[simp] theorem dropSend_queue (id : Nat) : (dropSend id s).queue = s.queue := rfl
@[simp] theorem dropSend_line (id : Nat) :
    (dropSend id s).line = { s.line with sendq := s.line.sendq.filter fun i => i.id != id } := rfl
@[simp] theorem dropSend_map (id : Nat) : (dropSend id s).map = s.map := rfl
@[simp] theorem dropSend_hand (id : Nat) : (dropSend id s).hand = s.hand := rfl
@[simp] theorem dropSend_port (id : Nat) : (dropSend id s).port = s.port := rfl
@[simp] theorem dropSend_free (id : Nat) : (dropSend id s).free = s.free := rfl
@[simp] theorem dropSend_pending (id : Nat) : (dropSend id s).pending = s.pending := rfl

@[simp] theorem mapSend_station (id : Nat) (f : SendItem → SendItem) : (mapSend id f s).station = s.station := rfl
@[simp] theorem mapSend_conf (id : Nat) (f : SendItem → SendItem) : (mapSend id f s).conf = s.conf := rfl
@[simp] theorem mapSend_store (id : Nat) (f : SendItem → SendItem) : (mapSend id f s).store = s.store := rfl
@[simp] theorem mapSend_capture (id : Nat) (f : SendItem → SendItem) : (mapSend id f s).capture = s.capture := rfl
@[simp] theorem mapSend_arb (id : Nat) (f : SendItem → SendItem) : (mapSend id f s).arb = s.arb := rfl
@[simp] theorem mapSend_day (id : Nat) (f : SendItem → SendItem) : (mapSend id f s).day = s.day := rfl
@[simp] theorem mapSend_ctxs (id : Nat) (f : SendItem → SendItem) : (mapSend id f s).ctxs = s.ctxs := rfl
@[simp] theorem mapSend_queue (id : Nat) (f : SendItem → SendItem) : (mapSend id f s).queue = s.queue := rfl
@[simp] theorem mapSend_line (id : Nat) (f : SendItem → SendItem) :
    (mapSend id f s).line = { s.line with sendq := s.line.sendq.map fun i => if i.id = id then f i else i } := rfl
@[simp] theorem mapSend_map (id : Nat) (f : SendItem → SendItem) : (mapSend id f s).map = s.map := rfl
@[simp] theorem mapSend_hand (id : Nat) (f : SendItem → SendItem) : (mapSend id f s).hand = s.hand := rfl
@[simp] theorem mapSend_port (id : Nat) (f : SendItem → SendItem) : (mapSend id f s).port = s.port := rfl
@[simp] theorem mapSend_free (id : Nat) (f : SendItem → SendItem) : (mapSend id f s).free = s.free := rfl
@[simp] theorem mapSend_pending (id : Nat) (f : SendItem → SendItem) : (mapSend id f s).pending = s.pending := rfl

@[simp] theorem stopWaiting_station (w : Waiter) : (stopWaiting w s).station = s.station := rfl
@[simp] theorem stopWaiting_conf (w : Waiter) : (stopWaiting w s).conf = s.conf := rfl
@[simp] theorem stopWaiting_store (w : Waiter) : (stopWaiting w s).store = s.store := rfl
@[simp] theorem stopWaiting_capture (w : Waiter) : (stopWaiting w s).capture = s.capture := rfl
@[simp] theorem stopWaiting_arb (w : Waiter) : (stopWaiting w s).arb = s.arb := rfl
@[simp] theorem stopWaiting_day (w : Waiter) : (stopWaiting w s).day = s.day := rfl
@[simp] theorem stopWaiting_ctxs (w : Waiter) : (stopWaiting w s).ctxs = s.ctxs := rfl
@[simp] theorem stopWaiting_queue (w : Waiter) : (stopWaiting w s).queue = s.queue := rfl
@[simp] theorem stopWaiting_line (w : Waiter) :
    (stopWaiting w s).line = { s.line with waiters := s.line.waiters.filter fun v => v != w } := rfl
@[simp] theorem stopWaiting_map (w : Waiter) : (stopWaiting w s).map = s.map := rfl
@[simp] theorem stopWaiting_hand (w : Waiter) : (stopWaiting w s).hand = s.hand := rfl
@[simp] theorem stopWaiting_port (w : Waiter) : (stopWaiting w s).port = s.port := rfl
@[simp] theorem stopWaiting_free (w : Waiter) : (stopWaiting w s).free = s.free := rfl
@[simp] theorem stopWaiting_pending (w : Waiter) : (stopWaiting w s).pending = s.pending := rfl

@[simp] theorem setSlot_station (k : Nat) (sl : Slot) : (setSlot k sl s).station = s.station := rfl
@[simp] theorem setSlot_conf (k : Nat) (sl : Slot) : (setSlot k sl s).conf = s.conf := rfl
@[simp] theorem setSlot_store (k : Nat) (sl : Slot) : (setSlot k sl s).store = s.store := rfl
@[simp] theorem setSlot_capture (k : Nat) (sl : Slot) : (setSlot k sl s).capture = s.capture := rfl
@[simp] theorem setSlot_arb (k : Nat) (sl : Slot) : (setSlot k sl s).arb = s.arb := rfl
@[simp] theorem setSlot_day (k : Nat) (sl : Slot) : (setSlot k sl s).day = s.day := rfl
@[simp] theorem setSlot_ctxs (k : Nat) (sl : Slot) : (setSlot k sl s).ctxs = s.ctxs := rfl
@[simp] theorem setSlot_queue (k : Nat) (sl : Slot) : (setSlot k sl s).queue = s.queue := rfl
@[simp] theorem setSlot_line (k : Nat) (sl : Slot) :
    (setSlot k sl s).line = { s.line with slots := s.line.slots.set k sl } := rfl
@[simp] theorem setSlot_map (k : Nat) (sl : Slot) : (setSlot k sl s).map = s.map := rfl
@[simp] theorem setSlot_hand (k : Nat) (sl : Slot) : (setSlot k sl s).hand = s.hand := rfl
@[simp] theorem setSlot_port (k : Nat) (sl : Slot) : (setSlot k sl s).port = s.port := rfl
@[simp] theorem setSlot_free (k : Nat) (sl : Slot) : (setSlot k sl s).free = s.free := rfl
@[simp] theorem setSlot_pending (k : Nat) (sl : Slot) : (setSlot k sl s).pending = s.pending := rfl

@[simp] theorem setCtx_station (c : Nat) (x : Ctx) : (setCtx c x s).station = s.station := rfl
@[simp] theorem setCtx_conf (c : Nat) (x : Ctx) : (setCtx c x s).conf = s.conf := rfl
@[simp] theorem setCtx_store (c : Nat) (x : Ctx) : (setCtx c x s).store = s.store := rfl
@[simp] theorem setCtx_capture (c : Nat) (x : Ctx) : (setCtx c x s).capture = s.capture := rfl
@[simp] theorem setCtx_arb (c : Nat) (x : Ctx) : (setCtx c x s).arb = s.arb := rfl
@[simp] theorem setCtx_day (c : Nat) (x : Ctx) : (setCtx c x s).day = s.day := rfl
@[simp] theorem setCtx_ctxs (c : Nat) (x : Ctx) :
    (setCtx c x s).ctxs = s.ctxs.set c x := rfl
@[simp] theorem setCtx_queue (c : Nat) (x : Ctx) : (setCtx c x s).queue = s.queue := rfl
@[simp] theorem setCtx_line (c : Nat) (x : Ctx) : (setCtx c x s).line = s.line := rfl
@[simp] theorem setCtx_map (c : Nat) (x : Ctx) : (setCtx c x s).map = s.map := rfl
@[simp] theorem setCtx_hand (c : Nat) (x : Ctx) : (setCtx c x s).hand = s.hand := rfl
@[simp] theorem setCtx_port (c : Nat) (x : Ctx) : (setCtx c x s).port = s.port := rfl
@[simp] theorem setCtx_free (c : Nat) (x : Ctx) : (setCtx c x s).free = s.free := rfl
@[simp] theorem setCtx_pending (c : Nat) (x : Ctx) : (setCtx c x s).pending = s.pending := rfl

@[simp] theorem setHand_station (h : Handover) : (setHand h s).station = s.station := rfl
@[simp] theorem setHand_conf (h : Handover) : (setHand h s).conf = s.conf := rfl
@[simp] theorem setHand_store (h : Handover) : (setHand h s).store = s.store := rfl
@[simp] theorem setHand_capture (h : Handover) : (setHand h s).capture = s.capture := rfl
@[simp] theorem setHand_arb (h : Handover) : (setHand h s).arb = s.arb := rfl
@[simp] theorem setHand_day (h : Handover) : (setHand h s).day = s.day := rfl
@[simp] theorem setHand_ctxs (h : Handover) : (setHand h s).ctxs = s.ctxs := rfl
@[simp] theorem setHand_queue (h : Handover) : (setHand h s).queue = s.queue := rfl
@[simp] theorem setHand_line (h : Handover) : (setHand h s).line = s.line := rfl
@[simp] theorem setHand_map (h : Handover) : (setHand h s).map = s.map := rfl
@[simp] theorem setHand_hand (h : Handover) :
    (setHand h s).hand = h := rfl
@[simp] theorem setHand_port (h : Handover) : (setHand h s).port = s.port := rfl
@[simp] theorem setHand_free (h : Handover) : (setHand h s).free = s.free := rfl
@[simp] theorem setHand_pending (h : Handover) : (setHand h s).pending = s.pending := rfl

@[simp] theorem setPlace_station (b : Block) (f : CensusPlace → CensusPlace) : (setPlace b f s).station = s.station := rfl
@[simp] theorem setPlace_conf (b : Block) (f : CensusPlace → CensusPlace) : (setPlace b f s).conf = s.conf := rfl
@[simp] theorem setPlace_store (b : Block) (f : CensusPlace → CensusPlace) : (setPlace b f s).store = s.store := rfl
@[simp] theorem setPlace_capture (b : Block) (f : CensusPlace → CensusPlace) : (setPlace b f s).capture = s.capture := rfl
@[simp] theorem setPlace_arb (b : Block) (f : CensusPlace → CensusPlace) : (setPlace b f s).arb = s.arb := rfl
@[simp] theorem setPlace_day (b : Block) (f : CensusPlace → CensusPlace) : (setPlace b f s).day = s.day := rfl
@[simp] theorem setPlace_ctxs (b : Block) (f : CensusPlace → CensusPlace) : (setPlace b f s).ctxs = s.ctxs := rfl
@[simp] theorem setPlace_queue (b : Block) (f : CensusPlace → CensusPlace) : (setPlace b f s).queue = s.queue := rfl
@[simp] theorem setPlace_line (b : Block) (f : CensusPlace → CensusPlace) : (setPlace b f s).line = s.line := rfl
@[simp] theorem setPlace_map (b : Block) (f : CensusPlace → CensusPlace) :
    (setPlace b f s).map = { s.map with census := s.map.census.map fun p => if p.b = b then f p else p } := rfl
@[simp] theorem setPlace_hand (b : Block) (f : CensusPlace → CensusPlace) : (setPlace b f s).hand = s.hand := rfl
@[simp] theorem setPlace_port (b : Block) (f : CensusPlace → CensusPlace) : (setPlace b f s).port = s.port := rfl
@[simp] theorem setPlace_free (b : Block) (f : CensusPlace → CensusPlace) : (setPlace b f s).free = s.free := rfl
@[simp] theorem setPlace_pending (b : Block) (f : CensusPlace → CensusPlace) : (setPlace b f s).pending = s.pending := rfl

@[simp] theorem keepAnnouncement_station (b : Block) (st : Nat) : (keepAnnouncement b st s).station = s.station := rfl
@[simp] theorem keepAnnouncement_conf (b : Block) (st : Nat) : (keepAnnouncement b st s).conf = s.conf := rfl
@[simp] theorem keepAnnouncement_store (b : Block) (st : Nat) : (keepAnnouncement b st s).store = s.store := rfl
@[simp] theorem keepAnnouncement_capture (b : Block) (st : Nat) : (keepAnnouncement b st s).capture = s.capture := rfl
@[simp] theorem keepAnnouncement_arb (b : Block) (st : Nat) : (keepAnnouncement b st s).arb = s.arb := rfl
@[simp] theorem keepAnnouncement_day (b : Block) (st : Nat) : (keepAnnouncement b st s).day = s.day := rfl
@[simp] theorem keepAnnouncement_ctxs (b : Block) (st : Nat) : (keepAnnouncement b st s).ctxs = s.ctxs := rfl
@[simp] theorem keepAnnouncement_queue (b : Block) (st : Nat) : (keepAnnouncement b st s).queue = s.queue := rfl
@[simp] theorem keepAnnouncement_line (b : Block) (st : Nat) : (keepAnnouncement b st s).line = s.line := rfl
@[simp] theorem keepAnnouncement_map (b : Block) (st : Nat) : (keepAnnouncement b st s).map = { s.map with moved := s.map.moved ++ [⟨s.map.nextMoved, b, st, false⟩], nextMoved := s.map.nextMoved + 1 } := rfl
@[simp] theorem keepAnnouncement_hand (b : Block) (st : Nat) : (keepAnnouncement b st s).hand = s.hand := rfl
@[simp] theorem keepAnnouncement_port (b : Block) (st : Nat) : (keepAnnouncement b st s).port = s.port := rfl
@[simp] theorem keepAnnouncement_free (b : Block) (st : Nat) : (keepAnnouncement b st s).free = s.free := rfl
@[simp] theorem keepAnnouncement_pending (b : Block) (st : Nat) : (keepAnnouncement b st s).pending = s.pending := rfl

@[simp] theorem releaseRefuse_station : (releaseRefuse s).station = s.station := rfl
@[simp] theorem releaseRefuse_conf : (releaseRefuse s).conf = s.conf := rfl
@[simp] theorem releaseRefuse_store : (releaseRefuse s).store = s.store := rfl
@[simp] theorem releaseRefuse_capture : (releaseRefuse s).capture = s.capture := rfl
@[simp] theorem releaseRefuse_arb : (releaseRefuse s).arb = s.arb := rfl
@[simp] theorem releaseRefuse_day : (releaseRefuse s).day = s.day := rfl
@[simp] theorem releaseRefuse_ctxs : (releaseRefuse s).ctxs = s.ctxs := rfl
@[simp] theorem releaseRefuse_queue : (releaseRefuse s).queue = s.queue := rfl
@[simp] theorem releaseRefuse_line : (releaseRefuse s).line = { s.line with refuse := false } := rfl
@[simp] theorem releaseRefuse_map : (releaseRefuse s).map = s.map := rfl
@[simp] theorem releaseRefuse_hand : (releaseRefuse s).hand = s.hand := rfl
@[simp] theorem releaseRefuse_port : (releaseRefuse s).port = s.port := rfl
@[simp] theorem releaseRefuse_free : (releaseRefuse s).free = s.free := rfl
@[simp] theorem releaseRefuse_pending : (releaseRefuse s).pending = s.pending := rfl

@[simp] theorem dropAnnouncement_station (id : Nat) : (dropAnnouncement id s).station = s.station := rfl
@[simp] theorem dropAnnouncement_conf (id : Nat) : (dropAnnouncement id s).conf = s.conf := rfl
@[simp] theorem dropAnnouncement_store (id : Nat) : (dropAnnouncement id s).store = s.store := rfl
@[simp] theorem dropAnnouncement_capture (id : Nat) : (dropAnnouncement id s).capture = s.capture := rfl
@[simp] theorem dropAnnouncement_arb (id : Nat) : (dropAnnouncement id s).arb = s.arb := rfl
@[simp] theorem dropAnnouncement_day (id : Nat) : (dropAnnouncement id s).day = s.day := rfl
@[simp] theorem dropAnnouncement_ctxs (id : Nat) : (dropAnnouncement id s).ctxs = s.ctxs := rfl
@[simp] theorem dropAnnouncement_queue (id : Nat) : (dropAnnouncement id s).queue = s.queue := rfl
@[simp] theorem dropAnnouncement_line (id : Nat) : (dropAnnouncement id s).line = s.line := rfl
@[simp] theorem dropAnnouncement_hand (id : Nat) : (dropAnnouncement id s).hand = s.hand := rfl
@[simp] theorem dropAnnouncement_port (id : Nat) : (dropAnnouncement id s).port = s.port := rfl
@[simp] theorem dropAnnouncement_free (id : Nat) : (dropAnnouncement id s).free = s.free := rfl
@[simp] theorem dropAnnouncement_pending (id : Nat) : (dropAnnouncement id s).pending = s.pending := rfl

@[simp] theorem setAnnouncementWait_station (id : Nat) (w : Bool) : (setAnnouncementWait id w s).station = s.station := rfl
@[simp] theorem setAnnouncementWait_conf (id : Nat) (w : Bool) : (setAnnouncementWait id w s).conf = s.conf := rfl
@[simp] theorem setAnnouncementWait_store (id : Nat) (w : Bool) : (setAnnouncementWait id w s).store = s.store := rfl
@[simp] theorem setAnnouncementWait_capture (id : Nat) (w : Bool) : (setAnnouncementWait id w s).capture = s.capture := rfl
@[simp] theorem setAnnouncementWait_arb (id : Nat) (w : Bool) : (setAnnouncementWait id w s).arb = s.arb := rfl
@[simp] theorem setAnnouncementWait_day (id : Nat) (w : Bool) : (setAnnouncementWait id w s).day = s.day := rfl
@[simp] theorem setAnnouncementWait_ctxs (id : Nat) (w : Bool) : (setAnnouncementWait id w s).ctxs = s.ctxs := rfl
@[simp] theorem setAnnouncementWait_queue (id : Nat) (w : Bool) : (setAnnouncementWait id w s).queue = s.queue := rfl
@[simp] theorem setAnnouncementWait_line (id : Nat) (w : Bool) : (setAnnouncementWait id w s).line = s.line := rfl
@[simp] theorem setAnnouncementWait_hand (id : Nat) (w : Bool) : (setAnnouncementWait id w s).hand = s.hand := rfl
@[simp] theorem setAnnouncementWait_port (id : Nat) (w : Bool) : (setAnnouncementWait id w s).port = s.port := rfl
@[simp] theorem setAnnouncementWait_free (id : Nat) (w : Bool) : (setAnnouncementWait id w s).free = s.free := rfl
@[simp] theorem setAnnouncementWait_pending (id : Nat) (w : Bool) : (setAnnouncementWait id w s).pending = s.pending := rfl

@[simp] theorem endTurn_station : (endTurn s).station = s.station := rfl
@[simp] theorem endTurn_conf : (endTurn s).conf = s.conf := rfl
@[simp] theorem endTurn_store : (endTurn s).store = s.store := rfl
@[simp] theorem endTurn_capture : (endTurn s).capture = s.capture := rfl
@[simp] theorem endTurn_arb : (endTurn s).arb = s.arb := rfl
@[simp] theorem endTurn_day : (endTurn s).day = s.day := rfl
@[simp] theorem endTurn_ctxs : (endTurn s).ctxs = s.ctxs := rfl
@[simp] theorem endTurn_queue : (endTurn s).queue = s.queue := rfl
@[simp] theorem endTurn_line :
    (endTurn s).line = { s.line with turn := none } := rfl
@[simp] theorem endTurn_map : (endTurn s).map = s.map := rfl
@[simp] theorem endTurn_hand : (endTurn s).hand = s.hand := rfl
@[simp] theorem endTurn_port : (endTurn s).port = s.port := rfl
@[simp] theorem endTurn_free : (endTurn s).free = s.free := rfl
@[simp] theorem endTurn_pending : (endTurn s).pending = s.pending := rfl

@[simp] theorem arbitrate_station : (arbitrate s).station = s.station := rfl
@[simp] theorem arbitrate_conf : (arbitrate s).conf = s.conf := rfl
@[simp] theorem arbitrate_store : (arbitrate s).store = s.store := rfl
@[simp] theorem arbitrate_capture : (arbitrate s).capture = s.capture := rfl
@[simp] theorem arbitrate_arb :
    (arbitrate s).arb = s.arb.arbitrate s.day.county := rfl
@[simp] theorem arbitrate_day : (arbitrate s).day = s.day := rfl
@[simp] theorem arbitrate_ctxs : (arbitrate s).ctxs = s.ctxs := rfl
@[simp] theorem arbitrate_queue : (arbitrate s).queue = s.queue := rfl
@[simp] theorem arbitrate_line : (arbitrate s).line = s.line := rfl
@[simp] theorem arbitrate_map : (arbitrate s).map = s.map := rfl
@[simp] theorem arbitrate_hand : (arbitrate s).hand = s.hand := rfl
@[simp] theorem arbitrate_port : (arbitrate s).port = s.port := rfl
@[simp] theorem arbitrate_free : (arbitrate s).free = s.free := rfl
@[simp] theorem arbitrate_pending : (arbitrate s).pending = s.pending := rfl

@[simp] theorem endGrant_station : (endGrant s).station = s.station := rfl
@[simp] theorem endGrant_conf : (endGrant s).conf = s.conf := rfl
@[simp] theorem endGrant_store : (endGrant s).store = s.store := rfl
@[simp] theorem endGrant_capture : (endGrant s).capture = s.capture := rfl
@[simp] theorem endGrant_arb :
    (endGrant s).arb = ({ s.arb with held := none } : Arbiter).arbitrate s.day.county := rfl
@[simp] theorem endGrant_day : (endGrant s).day = s.day := rfl
@[simp] theorem endGrant_ctxs : (endGrant s).ctxs = s.ctxs := rfl
@[simp] theorem endGrant_queue : (endGrant s).queue = s.queue := rfl
@[simp] theorem endGrant_line : (endGrant s).line = s.line := rfl
@[simp] theorem endGrant_map : (endGrant s).map = s.map := rfl
@[simp] theorem endGrant_hand : (endGrant s).hand = s.hand := rfl
@[simp] theorem endGrant_port : (endGrant s).port = s.port := rfl
@[simp] theorem endGrant_free : (endGrant s).free = s.free := rfl
@[simp] theorem endGrant_pending : (endGrant s).pending = s.pending := rfl

@[simp] theorem askKiosk_station (c : Nat) : (askKiosk c s).station = s.station := rfl
@[simp] theorem askKiosk_conf (c : Nat) : (askKiosk c s).conf = s.conf := rfl
@[simp] theorem askKiosk_store (c : Nat) : (askKiosk c s).store = s.store := rfl
@[simp] theorem askKiosk_capture (c : Nat) : (askKiosk c s).capture = s.capture := rfl
@[simp] theorem askKiosk_arb (c : Nat) :
    (askKiosk c s).arb = ({ s.arb with kiosk := s.arb.kiosk ++ [c] } : Arbiter).arbitrate s.day.county := rfl
@[simp] theorem askKiosk_day (c : Nat) : (askKiosk c s).day = s.day := rfl
@[simp] theorem askKiosk_ctxs (c : Nat) : (askKiosk c s).ctxs = s.ctxs := rfl
@[simp] theorem askKiosk_queue (c : Nat) : (askKiosk c s).queue = s.queue := rfl
@[simp] theorem askKiosk_line (c : Nat) : (askKiosk c s).line = s.line := rfl
@[simp] theorem askKiosk_map (c : Nat) : (askKiosk c s).map = s.map := rfl
@[simp] theorem askKiosk_hand (c : Nat) : (askKiosk c s).hand = s.hand := rfl
@[simp] theorem askKiosk_port (c : Nat) : (askKiosk c s).port = s.port := rfl
@[simp] theorem askKiosk_free (c : Nat) : (askKiosk c s).free = s.free := rfl
@[simp] theorem askKiosk_pending (c : Nat) : (askKiosk c s).pending = s.pending := rfl

@[simp] theorem askLine_station (w : LineWork) : (askLine w s).station = s.station := rfl
@[simp] theorem askLine_conf (w : LineWork) : (askLine w s).conf = s.conf := rfl
@[simp] theorem askLine_store (w : LineWork) : (askLine w s).store = s.store := rfl
@[simp] theorem askLine_capture (w : LineWork) : (askLine w s).capture = s.capture := rfl
@[simp] theorem askLine_arb (w : LineWork) :
    (askLine w s).arb = ({ s.arb with line := s.arb.line ++ [w] } : Arbiter).arbitrate s.day.county := rfl
@[simp] theorem askLine_day (w : LineWork) : (askLine w s).day = s.day := rfl
@[simp] theorem askLine_ctxs (w : LineWork) : (askLine w s).ctxs = s.ctxs := rfl
@[simp] theorem askLine_queue (w : LineWork) : (askLine w s).queue = s.queue := rfl
@[simp] theorem askLine_line (w : LineWork) : (askLine w s).line = s.line := rfl
@[simp] theorem askLine_map (w : LineWork) : (askLine w s).map = s.map := rfl
@[simp] theorem askLine_hand (w : LineWork) : (askLine w s).hand = s.hand := rfl
@[simp] theorem askLine_port (w : LineWork) : (askLine w s).port = s.port := rfl
@[simp] theorem askLine_free (w : LineWork) : (askLine w s).free = s.free := rfl
@[simp] theorem askLine_pending (w : LineWork) : (askLine w s).pending = s.pending := rfl

@[simp] theorem askStream_station (w : StreamWork) : (askStream w s).station = s.station := rfl
@[simp] theorem askStream_conf (w : StreamWork) : (askStream w s).conf = s.conf := rfl
@[simp] theorem askStream_store (w : StreamWork) : (askStream w s).store = s.store := rfl
@[simp] theorem askStream_capture (w : StreamWork) : (askStream w s).capture = s.capture := rfl
@[simp] theorem askStream_arb (w : StreamWork) :
    (askStream w s).arb = ({ s.arb with stream := s.arb.stream ++ [w] } : Arbiter).arbitrate s.day.county := rfl
@[simp] theorem askStream_day (w : StreamWork) : (askStream w s).day = s.day := rfl
@[simp] theorem askStream_ctxs (w : StreamWork) : (askStream w s).ctxs = s.ctxs := rfl
@[simp] theorem askStream_queue (w : StreamWork) : (askStream w s).queue = s.queue := rfl
@[simp] theorem askStream_line (w : StreamWork) : (askStream w s).line = s.line := rfl
@[simp] theorem askStream_map (w : StreamWork) : (askStream w s).map = s.map := rfl
@[simp] theorem askStream_hand (w : StreamWork) : (askStream w s).hand = s.hand := rfl
@[simp] theorem askStream_port (w : StreamWork) : (askStream w s).port = s.port := rfl
@[simp] theorem askStream_free (w : StreamWork) : (askStream w s).free = s.free := rfl
@[simp] theorem askStream_pending (w : StreamWork) : (askStream w s).pending = s.pending := rfl

@[simp] theorem replied_station (r : Reply) : (replied r s).station = s.station := rfl
@[simp] theorem replied_conf (r : Reply) : (replied r s).conf = s.conf := rfl
@[simp] theorem replied_store (r : Reply) : (replied r s).store = s.store := rfl
@[simp] theorem replied_capture (r : Reply) : (replied r s).capture = s.capture := rfl
@[simp] theorem replied_arb (r : Reply) : (replied r s).arb = s.arb := rfl
@[simp] theorem replied_day (r : Reply) : (replied r s).day = s.day := rfl
@[simp] theorem replied_ctxs (r : Reply) : (replied r s).ctxs = s.ctxs := rfl
@[simp] theorem replied_queue (r : Reply) : (replied r s).queue = s.queue := rfl
@[simp] theorem replied_line (r : Reply) : (replied r s).line = s.line := rfl
@[simp] theorem replied_map (r : Reply) : (replied r s).map = s.map := rfl
@[simp] theorem replied_hand (r : Reply) : (replied r s).hand = s.hand := rfl
@[simp] theorem replied_port (r : Reply) :
    (replied r s).port = { s.port with reply := some r } := rfl
@[simp] theorem replied_free (r : Reply) : (replied r s).free = s.free := rfl
@[simp] theorem replied_pending (r : Reply) : (replied r s).pending = s.pending := rfl

@[simp] theorem endExchange_station : (endExchange s).station = s.station := rfl
@[simp] theorem endExchange_conf : (endExchange s).conf = s.conf := rfl
@[simp] theorem endExchange_store : (endExchange s).store = s.store := rfl
@[simp] theorem endExchange_capture : (endExchange s).capture = s.capture := rfl
@[simp] theorem endExchange_arb : (endExchange s).arb = s.arb := rfl
@[simp] theorem endExchange_day : (endExchange s).day = s.day := rfl
@[simp] theorem endExchange_ctxs : (endExchange s).ctxs = s.ctxs := rfl
@[simp] theorem endExchange_queue : (endExchange s).queue = s.queue := rfl
@[simp] theorem endExchange_line : (endExchange s).line = s.line := rfl
@[simp] theorem endExchange_map : (endExchange s).map = s.map := rfl
@[simp] theorem endExchange_hand : (endExchange s).hand = s.hand := rfl
@[simp] theorem endExchange_port :
    (endExchange s).port = { s.port with exchange := none } := rfl
@[simp] theorem endExchange_free : (endExchange s).free = s.free := rfl
@[simp] theorem endExchange_pending : (endExchange s).pending = s.pending := rfl

@[simp] theorem refreshAttention_station : (refreshAttention s).station = s.station := rfl
@[simp] theorem refreshAttention_conf : (refreshAttention s).conf = s.conf := rfl
@[simp] theorem refreshAttention_store : (refreshAttention s).store = s.store := rfl
@[simp] theorem refreshAttention_capture : (refreshAttention s).capture = s.capture := rfl
@[simp] theorem refreshAttention_arb : (refreshAttention s).arb = s.arb := rfl
@[simp] theorem refreshAttention_day : (refreshAttention s).day = s.day := rfl
@[simp] theorem refreshAttention_ctxs : (refreshAttention s).ctxs = s.ctxs := rfl
@[simp] theorem refreshAttention_queue : (refreshAttention s).queue = s.queue := rfl
@[simp] theorem refreshAttention_line : (refreshAttention s).line = s.line := rfl
@[simp] theorem refreshAttention_map : (refreshAttention s).map = s.map := rfl
@[simp] theorem refreshAttention_hand : (refreshAttention s).hand = s.hand := rfl
@[simp] theorem refreshAttention_port :
    (refreshAttention s).port = { s.port with attention := s.port.wantsAttention } := rfl
@[simp] theorem refreshAttention_free : (refreshAttention s).free = s.free := rfl
@[simp] theorem refreshAttention_pending : (refreshAttention s).pending = s.pending := rfl

@[simp] theorem withdrawClear_station : (withdrawClear s).station = s.station := rfl
@[simp] theorem withdrawClear_conf : (withdrawClear s).conf = s.conf := rfl
@[simp] theorem withdrawClear_store : (withdrawClear s).store = s.store := rfl
@[simp] theorem withdrawClear_capture : (withdrawClear s).capture = s.capture := rfl
@[simp] theorem withdrawClear_arb : (withdrawClear s).arb = s.arb := rfl
@[simp] theorem withdrawClear_day : (withdrawClear s).day = s.day := rfl
@[simp] theorem withdrawClear_ctxs : (withdrawClear s).ctxs = s.ctxs := rfl
@[simp] theorem withdrawClear_queue : (withdrawClear s).queue = s.queue := rfl
@[simp] theorem withdrawClear_line :
    (withdrawClear s).line = { s.line with sendq := s.line.sendq.filter fun i => !i.isClear } := rfl
@[simp] theorem withdrawClear_map : (withdrawClear s).map = s.map := rfl
@[simp] theorem withdrawClear_hand : (withdrawClear s).hand = s.hand := rfl
@[simp] theorem withdrawClear_port : (withdrawClear s).port = s.port := rfl
@[simp] theorem withdrawClear_free : (withdrawClear s).free = s.free := rfl
@[simp] theorem withdrawClear_pending : (withdrawClear s).pending = s.pending := rfl

@[simp] theorem refuseFrame_station : (refuseFrame s).station = s.station := rfl
@[simp] theorem refuseFrame_conf : (refuseFrame s).conf = s.conf := rfl
@[simp] theorem refuseFrame_store : (refuseFrame s).store = s.store := rfl
@[simp] theorem refuseFrame_capture : (refuseFrame s).capture = s.capture := rfl
@[simp] theorem refuseFrame_arb : (refuseFrame s).arb = s.arb := rfl
@[simp] theorem refuseFrame_day : (refuseFrame s).day = s.day := rfl
@[simp] theorem refuseFrame_ctxs : (refuseFrame s).ctxs = s.ctxs := rfl
@[simp] theorem refuseFrame_queue : (refuseFrame s).queue = s.queue := rfl
@[simp] theorem refuseFrame_line :
    (refuseFrame s).line = { s.line with refuse := true } := rfl
@[simp] theorem refuseFrame_map : (refuseFrame s).map = s.map := rfl
@[simp] theorem refuseFrame_hand : (refuseFrame s).hand = s.hand := rfl
@[simp] theorem refuseFrame_port : (refuseFrame s).port = s.port := rfl
@[simp] theorem refuseFrame_free : (refuseFrame s).free = s.free := rfl
@[simp] theorem refuseFrame_pending : (refuseFrame s).pending = s.pending := rfl

@[simp] theorem setRequeueWait_station (w : Bool) : (setRequeueWait w s).station = s.station := rfl
@[simp] theorem setRequeueWait_conf (w : Bool) : (setRequeueWait w s).conf = s.conf := rfl
@[simp] theorem setRequeueWait_store (w : Bool) : (setRequeueWait w s).store = s.store := rfl
@[simp] theorem setRequeueWait_capture (w : Bool) : (setRequeueWait w s).capture = s.capture := rfl
@[simp] theorem setRequeueWait_arb (w : Bool) : (setRequeueWait w s).arb = s.arb := rfl
@[simp] theorem setRequeueWait_ctxs (w : Bool) : (setRequeueWait w s).ctxs = s.ctxs := rfl
@[simp] theorem setRequeueWait_queue (w : Bool) : (setRequeueWait w s).queue = s.queue := rfl
@[simp] theorem setRequeueWait_line (w : Bool) : (setRequeueWait w s).line = s.line := rfl
@[simp] theorem setRequeueWait_map (w : Bool) : (setRequeueWait w s).map = s.map := rfl
@[simp] theorem setRequeueWait_hand (w : Bool) : (setRequeueWait w s).hand = s.hand := rfl
@[simp] theorem setRequeueWait_port (w : Bool) : (setRequeueWait w s).port = s.port := rfl
@[simp] theorem setRequeueWait_free (w : Bool) : (setRequeueWait w s).free = s.free := rfl
@[simp] theorem setRequeueWait_pending (w : Bool) : (setRequeueWait w s).pending = s.pending := rfl
@[simp] theorem setRequeueWait_day (w : Bool) : (setRequeueWait w s).day = { s.day with requeueWait := w } := rfl

@[simp] theorem setAgain_station (w : Bool) : (setAgain w s).station = s.station := rfl
@[simp] theorem setAgain_conf (w : Bool) : (setAgain w s).conf = s.conf := rfl
@[simp] theorem setAgain_store (w : Bool) : (setAgain w s).store = s.store := rfl
@[simp] theorem setAgain_capture (w : Bool) : (setAgain w s).capture = s.capture := rfl
@[simp] theorem setAgain_arb (w : Bool) : (setAgain w s).arb = s.arb := rfl
@[simp] theorem setAgain_ctxs (w : Bool) : (setAgain w s).ctxs = s.ctxs := rfl
@[simp] theorem setAgain_queue (w : Bool) : (setAgain w s).queue = s.queue := rfl
@[simp] theorem setAgain_line (w : Bool) : (setAgain w s).line = s.line := rfl
@[simp] theorem setAgain_map (w : Bool) : (setAgain w s).map = s.map := rfl
@[simp] theorem setAgain_hand (w : Bool) : (setAgain w s).hand = s.hand := rfl
@[simp] theorem setAgain_port (w : Bool) : (setAgain w s).port = s.port := rfl
@[simp] theorem setAgain_free (w : Bool) : (setAgain w s).free = s.free := rfl
@[simp] theorem setAgain_pending (w : Bool) : (setAgain w s).pending = s.pending := rfl
@[simp] theorem setAgain_day (w : Bool) : (setAgain w s).day = { s.day with again := w } := rfl

end Sys2Proof.Machine
end

