-- ==== Sys2Proof/Laws/Tables.lean ====
section
/-! SUPPORT. The record tables and the view table: reads after writes, and the canonical form kept by every write. -/

namespace Sys2Proof.Machine

variable {α : Type}

/-- A read at the number written gives the value written. -/
@[simp] theorem tblGet_tblSet_same (l : List (Nat × α)) (n : Nat) (v : α) :
    tblGet (tblSet l n v) n = some v := by
  induction l with
  | nil => simp [tblSet, tblGet]
  | cons a rest ih =>
    obtain ⟨k, w⟩ := a
    simp only [tblSet]
    split
    · simp [tblGet]
    · split
      · simp [tblGet]
      · simp [tblGet, *]

/-- A write leaves every other number's value. -/
theorem tblGet_tblSet_other (l : List (Nat × α)) {n m : Nat} (v : α) (h : m ≠ n) :
    tblGet (tblSet l n v) m = tblGet l m := by
  induction l with
  | nil => simp [tblSet, tblGet, h.symm]
  | cons a rest ih =>
    obtain ⟨k, w⟩ := a
    simp only [tblSet]
    split
    · simp [tblGet, h.symm]
    · split
      · subst_vars; simp [tblGet, h.symm]
      · simp [tblGet, ih]

/-- A number removed has no value. -/
@[simp] theorem tblGet_tblDel_same (l : List (Nat × α)) (n : Nat) : tblGet (tblDel l n) n = none := by
  induction l with
  | nil => rfl
  | cons a rest ih =>
    obtain ⟨k, w⟩ := a
    by_cases h : k = n
    · simpa [tblDel, h] using ih
    · simpa [tblDel, h, tblGet] using ih

/-- A removal leaves every other number's value. -/
theorem tblGet_tblDel_other (l : List (Nat × α)) {n m : Nat} (h : m ≠ n) :
    tblGet (tblDel l n) m = tblGet l m := by
  induction l with
  | nil => rfl
  | cons a rest ih =>
    obtain ⟨k, w⟩ := a
    by_cases hk : k = n
    · subst hk
      simpa [tblDel, tblGet, h.symm] using ih
    · simp only [tblDel] at ih
      by_cases hm : k = m <;> simp [tblDel, hk, tblGet, ih]

/-- The canonical form as a pairwise order of the keys. -/
theorem tblRising_iff (l : List (Nat × α)) :
    tblRising l = true ↔ l.Pairwise fun a b => a.1 < b.1 := by
  induction l with
  | nil => simp [tblRising]
  | cons a rest ih =>
    cases rest with
    | nil => simp [tblRising]
    | cons b rest =>
      simp only [tblRising, Bool.and_eq_true, decide_eq_true_eq, ih]
      constructor
      · rintro ⟨h, p⟩
        refine List.pairwise_cons.2 ⟨fun c hc => ?_, p⟩
        rcases List.mem_cons.1 hc with rfl | hc
        · exact h
        · exact h.trans ((List.pairwise_cons.1 p).1 c hc)
      · intro p
        exact ⟨(List.pairwise_cons.1 p).1 b (by simp), (List.pairwise_cons.1 p).2⟩

/-- The keys of a table after a write. -/
theorem mem_tblSet {l : List (Nat × α)} {n : Nat} {v : α} {p : Nat × α} (h : p ∈ tblSet l n v) :
    p = (n, v) ∨ p ∈ l := by
  induction l with
  | nil => simpa [tblSet] using h
  | cons a rest ih =>
    obtain ⟨k, w⟩ := a
    simp only [tblSet] at h
    split at h
    · simpa using h
    · split at h
      · rcases List.mem_cons.1 h with h | h
        · exact .inl h
        · exact .inr (List.mem_cons_of_mem _ h)
      · rcases List.mem_cons.1 h with h | h
        · exact .inr (by simp [h])
        · rcases ih h with h | h
          · exact .inl h
          · exact .inr (List.mem_cons_of_mem _ h)

/-- A write keeps the canonical form. -/
theorem tblSet_rising {l : List (Nat × α)} (n : Nat) (v : α) (h : tblRising l = true) :
    tblRising (tblSet l n v) = true := by
  rw [tblRising_iff] at *
  induction l with
  | nil => simp [tblSet]
  | cons a rest ih =>
    obtain ⟨k, w⟩ := a
    obtain ⟨h1, h2⟩ := List.pairwise_cons.1 h
    simp only [tblSet]
    split
    · refine List.pairwise_cons.2 ⟨fun c hc => ?_, h⟩
      rcases List.mem_cons.1 hc with rfl | hc
      · assumption
      · have := h1 c hc; simp only at *; omega
    · split
      · subst_vars; exact List.pairwise_cons.2 ⟨h1, h2⟩
      · refine List.pairwise_cons.2 ⟨fun c hc => ?_, ih h2⟩
        rcases mem_tblSet hc with rfl | hc
        · simp only; omega
        · exact h1 c hc

/-- A removal of entries keeps the canonical form. -/
theorem filter_rising {l : List (Nat × α)} (p : Nat × α → Bool) (h : tblRising l = true) :
    tblRising (l.filter p) = true := by
  rw [tblRising_iff] at *
  exact h.filter p

/-- A removal keeps the canonical form. -/
theorem tblDel_rising {l : List (Nat × α)} (n : Nat) (h : tblRising l = true) :
    tblRising (tblDel l n) = true := filter_rising _ h

/-- A view written reads back. -/
@[simp] theorem viewOf_setView_same (b : Block) (v : View) (s : State) :
    viewOf b (setView b v s) = v := by
  simp only [viewOf, setView, putView]
  split
  · simp [*]
  · simp

/-- Whether two blocks with numbers in range have the same key. -/
theorem Block.key_inj {a b : Block} (ha : a.num < 256) (hb : b.num < 256) (h : a.key = b.key) :
    a = b := by
  obtain ⟨sa, na⟩ := a
  obtain ⟨sb, nb⟩ := b
  simp only [Block.key] at h ha hb
  have hs : sa.code = sb.code := by omega
  have hn : na = nb := by omega
  cases sa <;> cases sb <;> simp_all [Space.code]

/-- A view written leaves every view of another key. -/
theorem viewOf_setView_other {a b : Block} (v : View) (s : State) (h : a.key ≠ b.key) :
    viewOf a (setView b v s) = viewOf a s := by
  simp only [viewOf, setView, putView]
  split
  · simp [tblGet_tblDel_other _ h]
  · simp [tblGet_tblSet_other _ _ h]

/-- A view written keeps the canonical form. -/
theorem putView_rising {l : List (Nat × View)} (k : Nat) (v : View) (h : tblRising l = true) :
    tblRising (putView l k v) = true := by
  unfold putView
  split
  · exact tblDel_rising _ h
  · exact tblSet_rising _ _ h

/-- A view written lists no view UNKNOWN. -/
theorem putView_known {l : List (Nat × View)} (k : Nat) (v : View)
    (h : (l.all fun p => p.2 != .unknown) = true) :
    ((putView l k v).all fun p => p.2 != .unknown) = true := by
  rw [List.all_eq_true] at *
  intro p hp
  unfold putView at hp
  split at hp
  · exact h p (List.mem_of_mem_filter hp)
  · rcases mem_tblSet hp with rfl | hp
    · simpa using ‹v ≠ View.unknown›
    · exact h p hp

/-- The item record written reads back, its check word agreeing (R180). -/
@[simp] theorem getItem_putItem_same (n : Nat) (r : Item) (s : State) :
    getItem n (putItem n r s) = some { r with check := .agrees } := by simp [getItem]

/-- Every other item record stands. -/
theorem getItem_putItem_other {n m : Nat} (r : Item) (s : State) (h : m ≠ n) :
    getItem m (putItem n r s) = getItem m s := by simp [getItem, tblGet_tblSet_other _ _ h]

/-- The title record written reads back, its check words agreeing (R180). -/
@[simp] theorem getTitle_putTitle_same (n : Nat) (t : Title) (s : State) :
    getTitle n (putTitle n t s) = some t.sealed := by simp [getTitle]

/-- Every other title record stands. -/
theorem getTitle_putTitle_other {n m : Nat} (t : Title) (s : State) (h : m ≠ n) :
    getTitle m (putTitle n t s) = getTitle m s := by simp [getTitle, tblGet_tblSet_other _ _ h]

/-- The patron record written reads back, its check word agreeing (R180). -/
@[simp] theorem getPatron_putPatron_same (n : Nat) (p : Patron) (s : State) :
    getPatron n (putPatron n p s) = some { p with check := .agrees } := by simp [getPatron]

/-- Every other patron record stands. -/
theorem getPatron_putPatron_other {n m : Nat} (p : Patron) (s : State) (h : m ≠ n) :
    getPatron m (putPatron n p s) = getPatron m s := by
  simp [getPatron, tblGet_tblSet_other _ _ h]

end Sys2Proof.Machine
end

