-- ==== Sys2Proof/Laws/Rests.lean ====
section
/-! SUPPORT. What the part's internal operations leave alone, said once for each. `Rests a s`: from a to s no record,
no configuration piece, no county day, no mask and no waiting command has changed, and every bounded table is still
within its bound. -/

namespace Sys2Proof.Machine

/-- From `a` to `s` records, fault capture, configuration, county day, masks, the exchange in progress, the last
reply and the waiting commands stand; contexts and slots are as many; the bounded tables keep their bounds and the
view table its canonical form. -/
def Rests (a s : State) : Prop :=
  s.pending = a.pending ∧ s.conf = a.conf ∧ s.store = a.store ∧ s.capture = a.capture ∧
    s.free = a.free ∧ s.day.county = a.day.county ∧ s.port.masks = a.port.masks ∧
    s.port.exchange = a.port.exchange ∧ s.port.reply = a.port.reply ∧
    s.ctxs.length = a.ctxs.length ∧ s.line.slots.length = a.line.slots.length ∧
    (a.port.notices.length ≤ Config.notices → s.port.notices.length ≤ Config.notices) ∧
    (a.map.census.length ≤ Config.censusPlaces → s.map.census.length ≤ Config.censusPlaces) ∧
    (tblRising a.map.views = true → tblRising s.map.views = true) ∧
    ((a.map.views.all fun p => p.2 != .unknown) = true →
      (s.map.views.all fun p => p.2 != .unknown) = true) ∧
    (a.queue.ok → s.queue.ok)

@[refl] theorem Rests.refl (a : State) : Rests a a := by simp [Rests]

theorem Rests.trans {a b c : State} (h : Rests a b) (k : Rests b c) : Rests a c := by
  unfold Rests at *
  obtain ⟨h1, h2, h3, h4, h5, h6, h7, h8, h9, h10, h11, h12, h13, h14, h15⟩ := h
  obtain ⟨k1, k2, k3, k4, k5, k6, k7, k8, k9, k10, k11, k12, k13, k14, k15, k16⟩ := k
  obtain ⟨h15, h16⟩ := h15
  exact ⟨k1.trans h1, k2.trans h2, k3.trans h3, k4.trans h4, k5.trans h5, k6.trans h6, k7.trans h7,
    k8.trans h8, k9.trans h9, k10.trans h10, k11.trans h11, k12 ∘ h12, k13 ∘ h13, k14 ∘ h14,
    k15 ∘ h15, k16 ∘ h16⟩

variable {a s : State}

/-! ## The dispatch queue -/

/-- A new entry that is not in flight keeps the queue well kept. -/
theorem queue_ok_append {q : DispatchQueue} {e : Entry} (hi : e.id = q.nextId) (hf : e.flight = none)
    (h : q.ok) : (DispatchQueue.mk (q.entries ++ [e]) (q.nextId + 1)).ok := by
  obtain ⟨h1, h2, h3⟩ := h
  refine ⟨?_, ?_, ?_⟩
  · simp only [List.map_append, List.map_cons, List.map_nil]
    refine List.nodup_append.2 ⟨h1, by simp, ?_⟩
    intro x hx y hy
    obtain ⟨e', he', rfl⟩ := List.mem_map.1 hx
    have := h2 e' he'
    simp only [List.mem_singleton] at hy
    omega
  · intro e' he'
    rcases List.mem_append.1 he' with he' | he'
    · have := h2 e' he'; simp only; omega
    · simp only [List.mem_singleton] at he'; subst he'; simp only; omega
  · simpa [List.filterMap_append, hf] using h3

/-- Entries that leave keep the queue well kept. -/
theorem queue_ok_filter {q : DispatchQueue} (p : Entry → Bool) (h : q.ok) :
    (DispatchQueue.mk (q.entries.filter p) q.nextId).ok := by
  obtain ⟨h1, h2, h3⟩ := h
  refine ⟨h1.sublist (List.filter_sublist.map _), fun e he => h2 e (List.mem_of_mem_filter he), ?_⟩
  exact h3.sublist (List.filter_sublist.filterMap _)

/-- Entries changed without a new flight keep the queue well kept. -/
theorem queue_ok_map {q : DispatchQueue} (g : Entry → Entry)
    (hg : ∀ e, (g e).id = e.id ∧ ((g e).flight = none ∨ (g e).flight = e.flight)) (h : q.ok) :
    (DispatchQueue.mk (q.entries.map g) q.nextId).ok := by
  obtain ⟨h1, h2, h3⟩ := h
  refine ⟨?_, ?_, ?_⟩
  · have : (Entry.id ∘ g) = Entry.id := funext fun e => (hg e).1
    simpa [List.map_map, this] using h1
  · intro e he
    obtain ⟨e', he', rfl⟩ := List.mem_map.1 he
    rw [(hg e').1]; exact h2 e' he'
  · refine h3.sublist ?_
    clear h1 h2 h3
    generalize q.entries = l
    induction l with
    | nil => simp
    | cons e l ih =>
      simp only [List.map_cons]
      rcases (hg e).2 with k | k
      · rw [List.filterMap_cons_none k]
        cases hf : e.flight with
        | none => rwa [List.filterMap_cons_none hf]
        | some d => rw [List.filterMap_cons_some hf]; exact ih.cons _
      · cases hf : e.flight with
        | none => rw [List.filterMap_cons_none hf, List.filterMap_cons_none (k.trans hf)]; exact ih
        | some d =>
          rw [List.filterMap_cons_some hf, List.filterMap_cons_some (k.trans hf)]
          exact ih.cons_cons _

/-- A frame sent to a destination without one in flight keeps the queue well kept. -/
theorem queue_ok_send {q : DispatchQueue} {id st : Nat}
    (hst : (q.entries.any fun e => e.phase == .inFlight st) = false) (h : q.ok) :
    (DispatchQueue.mk
      (q.entries.map fun e => if e.id = id then { e with phase := .inFlight st } else e) q.nextId).ok := by
  obtain ⟨h1, h2, h3⟩ := h
  have hno : st ∉ q.entries.filterMap Entry.flight := by
    intro hm
    obtain ⟨e, he, hf⟩ := List.mem_filterMap.1 hm
    have : e.phase = .inFlight st := by
      unfold Entry.flight at hf; split at hf <;> simp_all
    have := List.any_eq_false.1 hst e he
    simp_all
  refine ⟨?_, ?_, ?_⟩
  · have : (Entry.id ∘ fun e : Entry => if e.id = id then { e with phase := .inFlight st } else e) =
        Entry.id := by funext e; simp only [Function.comp]; split <;> rfl
    simpa [List.map_map, this] using h1
  · intro e he
    obtain ⟨e', he', rfl⟩ := List.mem_map.1 he
    have := h2 e' he'
    dsimp only
    split <;> exact this
  · clear h2 hst
    generalize q.entries = l at *
    induction l with
    | nil => simp
    | cons e l ih =>
      simp only [List.map_cons, List.nodup_cons] at h1 ⊢
      have h3' : (l.filterMap Entry.flight).Nodup := by
        cases hf : e.flight with
        | none => rwa [List.filterMap_cons_none hf] at h3
        | some d => rw [List.filterMap_cons_some hf] at h3; exact (List.nodup_cons.1 h3).2
      have hno' : st ∉ l.filterMap Entry.flight := by
        intro hm
        apply hno
        cases hf : e.flight with
        | none => rwa [List.filterMap_cons_none hf]
        | some d => rw [List.filterMap_cons_some hf]; exact List.mem_cons_of_mem _ hm
      by_cases hid : e.id = id
      · have hl : (l.map fun e => if e.id = id then { e with phase := .inFlight st } else e) = l := by
          refine (List.map_congr_left fun e' he' => ?_).trans (List.map_id l)
          have : e'.id ≠ id := fun k => h1.1 (List.mem_map.2 ⟨e', he', k.trans hid.symm⟩)
          simp [this]
        rw [hl, if_pos hid, List.filterMap_cons_some (f := Entry.flight) (b := st) rfl]
        exact List.nodup_cons.2 ⟨hno', h3'⟩
      · rw [if_neg hid]
        have hl := ih h1.2 h3' hno'
        cases hf : e.flight with
        | none => rwa [List.filterMap_cons_none hf]
        | some d =>
          rw [List.filterMap_cons_some hf] at h3 hno ⊢
          refine List.nodup_cons.2 ⟨fun hm => ?_, hl⟩
          obtain ⟨e', he', hfe⟩ := List.mem_filterMap.1 hm
          obtain ⟨e0, he0, rfl⟩ := List.mem_map.1 he'
          split at hfe
          · simp only [Entry.flight, Option.some.injEq] at hfe
            exact hno (by simp [hfe])
          · exact (List.nodup_cons.1 h3).1 (List.mem_filterMap.2 ⟨e0, he0, hfe⟩)

/-! ## The updates -/

@[simp] theorem setView_rests (b : Block) (v : View) (h : Rests a s) : Rests a (setView b v s) := by
  simp only [Rests, setView_pending, setView_conf, setView_store, setView_capture, setView_free, setView_day,
    setView_port, setView_ctxs, setView_line, setView_map, setView_queue] at *
  obtain ⟨h1, h2, h3, h4, h5, h6, h7, h8, h9, h10, h11, h12, h13, h14, h15, h16⟩ := h
  exact ⟨h1, h2, h3, h4, h5, h6, h7, h8, h9, h10, h11, h12, h13, fun x => putView_rising _ _ (h14 x),
    fun x => putView_known _ _ (h15 x), h16⟩

/-- A change of the dispatch queue that keeps it well kept. -/
theorem Rests.queue {q : DispatchQueue} (h : Rests a s) (k : s.queue.ok → q.ok) :
    Rests a { s with queue := q } := by
  obtain ⟨h1, h2, h3, h4, h5, h6, h7, h8, h9, h10, h11, h12, h13, h14, h15, h16⟩ := h
  exact ⟨h1, h2, h3, h4, h5, h6, h7, h8, h9, h10, h11, h12, h13, h14, h15, k ∘ h16⟩

@[simp] theorem enqueue_rests (d : Dispatch) (h : Rests a s) : Rests a (enqueue d s) :=
  h.queue (queue_ok_append rfl rfl)

@[simp] theorem dropEntry_rests (id : Nat) (h : Rests a s) : Rests a (dropEntry id s) :=
  h.queue (queue_ok_filter _)

theorem mapEntry_rests (id : Nat) (f : Entry → Entry)
    (hf : ∀ e : Entry, (f e).id = e.id ∧ ((f e).flight = none ∨ (f e).flight = e.flight))
    (h : Rests a s) : Rests a (mapEntry id f s) := by
  refine h.queue (queue_ok_map _ fun e => ?_)
  split
  · exact hf e
  · simp

@[simp] theorem setEntryPhase_rests (id : Nat) (p : EntryPhase) (hp : ∀ st, p ≠ .inFlight st)
    (h : Rests a s) : Rests a (setEntryPhase id p s) := by
  refine mapEntry_rests _ _ (fun e => ⟨rfl, .inl ?_⟩) h
  unfold Entry.flight
  dsimp only
  split
  · exact absurd rfl (hp _)
  · rfl

@[simp] theorem pushFrame_rests (f : Frame) (o : Owner) (h : Rests a s) :
    Rests a (pushFrame f o s) := by simpa [Rests, pushFrame] using h

@[simp] theorem dropSend_rests (id : Nat) (h : Rests a s) : Rests a (dropSend id s) := by
  simpa [Rests] using h

@[simp] theorem mapSend_rests (id : Nat) (f : SendItem → SendItem) (h : Rests a s) :
    Rests a (mapSend id f s) := by simpa [Rests] using h

@[simp] theorem stopWaiting_rests (w : Waiter) (h : Rests a s) : Rests a (stopWaiting w s) := by
  simpa [Rests] using h

@[simp] theorem setSlot_rests (k : Nat) (sl : Slot) (h : Rests a s) : Rests a (setSlot k sl s) := by
  simpa [Rests] using h

@[simp] theorem setCtx_rests (c : Nat) (x : Ctx) (h : Rests a s) : Rests a (setCtx c x s) := by
  simpa [Rests] using h

@[simp] theorem setHand_rests (x : Handover) (h : Rests a s) : Rests a (setHand x s) := by
  simpa [Rests] using h

@[simp] theorem setPlace_rests (b : Block) (f : CensusPlace → CensusPlace) (h : Rests a s) :
    Rests a (setPlace b f s) := by simpa [Rests] using h

@[simp] theorem dropAnnouncement_rests (id : Nat) (h : Rests a s) :
    Rests a (dropAnnouncement id s) := by simpa [Rests, dropAnnouncement] using h

@[simp] theorem setAnnouncementWait_rests (id : Nat) (w : Bool) (h : Rests a s) :
    Rests a (setAnnouncementWait id w s) := by simpa [Rests, setAnnouncementWait] using h

@[simp] theorem endTurn_rests (h : Rests a s) : Rests a (endTurn s) := by simpa [Rests] using h

@[simp] theorem withdrawClear_rests (h : Rests a s) : Rests a (withdrawClear s) := by
  simpa [Rests] using h

@[simp] theorem refuseFrame_rests (h : Rests a s) : Rests a (refuseFrame s) := by
  simpa [Rests] using h

@[simp] theorem refreshAttention_rests (h : Rests a s) : Rests a (refreshAttention s) := by
  simpa [Rests] using h

@[simp] theorem arbitrate_rests (h : Rests a s) : Rests a (arbitrate s) := by simpa [Rests] using h

@[simp] theorem endGrant_rests (h : Rests a s) : Rests a (endGrant s) := by simpa [Rests] using h

@[simp] theorem askKiosk_rests (c : Nat) (h : Rests a s) : Rests a (askKiosk c s) := by
  simpa [Rests] using h

@[simp] theorem askLine_rests (w : LineWork) (h : Rests a s) : Rests a (askLine w s) := by
  simpa [Rests] using h

@[simp] theorem askStream_rests (w : StreamWork) (h : Rests a s) : Rests a (askStream w s) := by
  simpa [Rests] using h

@[simp] theorem askStreamOnce_rests (w : StreamWork) (h : Rests a s) :
    Rests a (askStreamOnce w s) := by unfold askStreamOnce; split <;> simp (maxDischargeDepth := 12) [h]

@[simp] theorem askSweep_rests (h : Rests a s) : Rests a (askSweep s) := by
  unfold askSweep
  split
  · exact h
  · exact arbitrate_rests (by simpa [Rests] using h)

/-! ## Notices, dispatches, frames -/

@[simp] theorem postNotice_rests (n : Notice) (h : Rests a s) : Rests a (postNotice n s) := by
  unfold postNotice
  split
  · simp only [Rests, List.length_append, List.length_cons, List.length_nil] at *
    obtain ⟨h1, h2, h3, h4, h5, h6, h7, h8, h9, h10, h11, h12, h13, h14, h15⟩ := h
    exact ⟨h1, h2, h3, h4, h5, h6, h7, h8, h9, h10, h11, fun _ => by omega, h13, h14, h15⟩
  · simpa [Rests] using h

@[simp] theorem enqueueAll_rests (ds : List Dispatch) (h : Rests a s) : Rests a (enqueueAll ds s) := by
  induction ds generalizing s with
  | nil => exact h
  | cons d ds ih => exact ih (enqueue_rests d h)

@[simp] theorem emit_rests (e : Effect) (h : Rests a s) : Rests a (emit e s) := by
  unfold emit
  split
  · simp (maxDischargeDepth := 12) [h]
  · split <;> simp (maxDischargeDepth := 12) [h]

@[simp] theorem emitAll_rests (es : List Effect) (h : Rests a s) : Rests a (emitAll es s) := by
  induction es generalizing s with
  | nil => exact h
  | cons e es ih => exact ih (emit_rests e h)

@[simp] theorem waitForPlace_rests (w : Waiter) (h : Rests a s) : Rests a (waitForPlace w s) := by
  unfold waitForPlace
  split
  · exact h
  · simpa [Rests] using h

@[simp] theorem placeOrWait_rests (f : Frame) (o : Owner) (w : Waiter) (h : Rests a s) :
    Rests a (placeOrWait f o w s) := by unfold placeOrWait; split <;> simp (maxDischargeDepth := 12) [h]

/-! ## Slots -/

@[simp] theorem beginStream_rests (h : Rests a s) : Rests a (beginStream s) := by
  unfold beginStream
  repeat' split
  all_goals simp (maxDischargeDepth := 12) [h]

@[simp] theorem releaseSlot_rests (k : Nat) (h : Rests a s) : Rests a (releaseSlot k s) := by
  unfold releaseSlot
  repeat' split
  · simpa [Rests] using h
  all_goals simp (maxDischargeDepth := 12) [h]

@[simp] theorem freeSlot_rests (k : Nat) (h : Rests a s) : Rests a (freeSlot k s) :=
  beginStream_rests (releaseSlot_rests k h)

@[simp] theorem placeAns_rests (k dest : Nat) (x : Ans) (o : Owner) (h : Rests a s) :
    Rests a (placeAns k dest x o s) := freeSlot_rests k (pushFrame_rests _ _ h)

/-! ## Contexts, census requests, resolution -/

@[simp] theorem setRun_rests (c : Nat) (r : Run) (h : Rests a s) : Rests a (setRun c r s) := by
  unfold setRun; split <;> simp (maxDischargeDepth := 12) [h]

theorem openCensus_rests (b : Block) (askers : List Asker) (h : Rests a s)
    (room : s.map.census.length < Config.censusPlaces) : Rests a (openCensus b askers s) := by
  refine placeOrWait_rests _ _ _ ?_
  simp only [Rests, List.length_append, List.length_cons, List.length_nil] at *
  obtain ⟨h1, h2, h3, h4, h5, h6, h7, h8, h9, h10, h11, h12, h13, h14, h15⟩ := h
  exact ⟨h1, h2, h3, h4, h5, h6, h7, h8, h9, h10, h11, h12, fun _ => by omega, h14, h15⟩

@[simp] theorem askCensus_rests (b : Block) (x : Asker) (h : Rests a s) :
    Rests a (askCensus b x s) := by
  unfold askCensus
  split
  · simpa [Rests] using h
  · split
    · exact openCensus_rests _ _ h (by assumption)
    · simpa [Rests] using h

@[simp] theorem endTransaction_rests (c : Nat) (o : OutcomeCode) (why : Option Reason) (v : Values)
    (h : Rests a s) : Rests a (endTransaction c o why v s) := by
  unfold endTransaction
  split
  · dsimp only
    repeat' split
    · exact enqueue_rests _ (by simpa [Rests] using h)
    · simpa [Rests] using h
    · simpa [Rests] using h
  · exact h

@[simp] theorem deferStep_rests (c : Nat) (h : Rests a s) : Rests a (deferStep c s) := by
  unfold deferStep; repeat' split
  all_goals simp (maxDischargeDepth := 12) [h]

@[simp] theorem censusStep_rests (c : Nat) (b : Block) (h : Rests a s) :
    Rests a (censusStep c b s) := by
  unfold censusStep; repeat' split
  all_goals simp (maxDischargeDepth := 12) [h]

@[simp] theorem sendStep_rests (c dest : Nat) (o : OwnerOp) (h : Rests a s) :
    Rests a (sendStep c dest o s) := by unfold sendStep; split <;> simp (maxDischargeDepth := 12) [h]

@[simp] theorem resolveStep_rests (c : Nat) (h : Rests a s) : Rests a (resolveStep c s) := by
  unfold resolveStep; repeat' split
  all_goals simp (maxDischargeDepth := 12) [h]

@[simp] theorem proceed_rests (c : Nat) (v : Values) (h : Rests a s) : Rests a (proceed c v s) := by
  unfold proceed; dsimp only; repeat' split
  all_goals simp (maxDischargeDepth := 12) [h]

@[simp] theorem resumeStep_rests (c : Nat) (h : Rests a s) : Rests a (resumeStep c s) := by
  unfold resumeStep; repeat' split
  all_goals simp (maxDischargeDepth := 12) [h]

@[simp] theorem freeStranded_rests (b : Block) (h : Rests a s) : Rests a (freeStranded b s) := by
  unfold freeStranded; split <;> simp (maxDischargeDepth := 12) [h]

@[simp] theorem becomeForeign_rests (b : Block) (st : Nat) (h : Rests a s) :
    Rests a (becomeForeign b st s) := freeStranded_rests b (setView_rests _ _ h)

@[simp] theorem noteOwner_rests (b : Block) (st : Nat) (h : Rests a s) :
    Rests a (noteOwner b st s) := by unfold noteOwner; split <;> simp (maxDischargeDepth := 12) [h]

@[simp] theorem takeAnswer_rests (c : Nat) (x : StepAnswer) (h : Rests a s) :
    Rests a (takeAnswer c x s) := by
  unfold takeAnswer; dsimp only; repeat' split
  all_goals simp (maxDischargeDepth := 12) [h]

@[simp] theorem takeCtx_rests (c tag : Nat) (q : Request) (h : Rests a s) :
    Rests a (takeCtx c tag q s) := setCtx_rests _ _ h

/-! ## The day unit -/

@[simp] theorem startSweep_rests (h : Rests a s) : Rests a (startSweep s) := by
  unfold startSweep; repeat' split
  · simpa [Rests] using h
  · simpa [Rests] using h
  · exact askSweep_rests (by simpa [Rests] using h)
  · exact h

@[simp] theorem afterBurst_rests (e : BurstEnd) (h : Rests a s) : Rests a (afterBurst e s) := by
  unfold afterBurst; dsimp only; split
  · simpa [Rests] using h
  · simpa [Rests] using h
  · split <;> simpa [Rests] using h

@[simp] theorem becomeHome_rests (b : Block) (h : Rests a s) : Rests a (becomeHome b s) :=
  startSweep_rests (setView_rests _ _ h)

@[simp] theorem carryDay_rests (h : Rests a s) : Rests a (carryDay s) := by
  unfold carryDay; repeat' split
  all_goals exact h

@[simp] theorem setRequeueWait_rests (w : Bool) (h : Rests a s) : Rests a (setRequeueWait w s) := h

@[simp] theorem setAgain_rests (w : Bool) (h : Rests a s) : Rests a (setAgain w s) := h

@[simp] theorem queueDay_rests (h : Rests a s) : Rests a (queueDay s) := by
  unfold queueDay; repeat' split
  all_goals simp (maxDischargeDepth := 12) [h]

@[simp] theorem queueDayAgain_rests (h : Rests a s) : Rests a (queueDayAgain s) := by
  unfold queueDayAgain; split
  · exact queueDay_rests (setAgain_rests _ h)
  · exact h

@[simp] theorem withdrawDay_rests (d : Nat) (h : Rests a s) : Rests a (withdrawDay d s) := by
  unfold withdrawDay; repeat' split
  all_goals simp (maxDischargeDepth := 12) [h]

/-! ## The handover engine -/

@[simp] theorem placeAnnouncement_rests (id : Nat) (b : Block) (st : Nat) (h : Rests a s) :
    Rests a (placeAnnouncement id b st s) := placeOrWait_rests _ _ _ h

@[simp] theorem announce_rests (b : Block) (st : Nat) (h : Rests a s) : Rests a (announce b st s) := by
  exact placeAnnouncement_rests _ _ _ (by simpa [Rests] using h)

@[simp] theorem askFreeze_rests (h : Rests a s) : Rests a (askFreeze s) := by
  unfold askFreeze; repeat' split
  all_goals simp (maxDischargeDepth := 12) [h]

@[simp] theorem startHandover_rests (c : Nat) (b : Block) (t : Nat) (h : Rests a s) :
    Rests a (startHandover c b t s) := by
  unfold startHandover; repeat' split
  all_goals simp (maxDischargeDepth := 12) [h]

@[simp] theorem sendOffer_rests (g : Giving) (h : Rests a s) : Rests a (sendOffer g s) := by
  unfold sendOffer; split <;> simp (maxDischargeDepth := 12) [h]

@[simp] theorem freezeBlock_rests (b : Block) (t : Nat) (h : Rests a s) :
    Rests a (freezeBlock b t s) := setView_rests _ _ (by simpa [Rests] using h)

@[simp] theorem freeze_rests (h : Rests a s) : Rests a (freeze s) := by
  unfold freeze; dsimp only; repeat' split
  all_goals simp (maxDischargeDepth := 12) [h]

@[simp] theorem endOffer_rests (o : OutcomeCode) (why : Option Reason) (h : Rests a s) :
    Rests a (endOffer o why s) := by unfold endOffer; split <;> simp (maxDischargeDepth := 12) [h]

@[simp] theorem streamOn_rests (h : Rests a s) : Rests a (streamOn s) := by
  unfold streamOn; repeat' split
  all_goals simp (maxDischargeDepth := 12) [h]

@[simp] theorem acceptedOffer_rests (h : Rests a s) : Rests a (acceptedOffer s) := by
  unfold acceptedOffer; repeat' split
  all_goals simp (maxDischargeDepth := 12) [h]

@[simp] theorem takeOfferAnswer_rests (x : StepAnswer) (h : Rests a s) :
    Rests a (takeOfferAnswer x s) := by unfold takeOfferAnswer; split <;> simp (maxDischargeDepth := 12) [h]

@[simp] theorem failHandover_rests (g : Giving) (why : Reason) (h : Rests a s) :
    Rests a (failHandover g why s) := by unfold failHandover; dsimp only; split <;> simp (maxDischargeDepth := 12) [h]

@[simp] theorem completeHandover_rests (g : Giving) (h : Rests a s) :
    Rests a (completeHandover g s) := by unfold completeHandover; dsimp only; split <;> simp (maxDischargeDepth := 12) [h]

@[simp] theorem streamDelivered_rests (last : Option Nat) (u : Option StreamUnit) (h : Rests a s) :
    Rests a (streamDelivered last u s) := by
  unfold streamDelivered; dsimp only; repeat' split
  all_goals simp (maxDischargeDepth := 12) [h]

@[simp] theorem streamReturned_rests (h : Rests a s) : Rests a (streamReturned s) := by
  unfold streamReturned; repeat' split
  all_goals simp (maxDischargeDepth := 12) [h]

@[simp] theorem sendQuery_rests (g : Giving) (h : Rests a s) : Rests a (sendQuery g s) :=
  placeOrWait_rests _ _ _ (setHand_rests _ h)

@[simp] theorem takeDecision_rests (o : OutcomeCode) (b : Block) (serial : Nat) (h : Rests a s) :
    Rests a (takeDecision o b serial s) := by
  unfold takeDecision; repeat' split
  all_goals simp (maxDischargeDepth := 12) [h]

@[simp] theorem queryEnded_rests (b : Block) (serial : Nat) (q : QueryState) (h : Rests a s) :
    Rests a (queryEnded b serial q s) := by
  unfold queryEnded; repeat' split
  all_goals simp (maxDischargeDepth := 12) [h]

@[simp] theorem discardBlock_rests (r : Receiving) (h : Rests a s) : Rests a (discardBlock r s) :=
  postNotice_rests _ (becomeForeign_rests _ _ (setHand_rests _ h))

@[simp] theorem takeAbandon_rests (b : Block) (serial src : Nat) (h : Rests a s) :
    Rests a (takeAbandon b serial src s) := by
  unfold takeAbandon; repeat' split
  all_goals simp (maxDischargeDepth := 12) [h]

@[simp] theorem acceptOffer_rests (giver : Nat) (b : Block) (serial : Nat) (c : Counts)
    (h : Rests a s) : Rests a (acceptOffer giver b serial c s) :=
  freeStranded_rests _ (setView_rests _ _ (setHand_rests _ h))

@[simp] theorem takeBlock_rests (k : Nat) (r : Receiving) (h : Rests a s) :
    Rests a (takeBlock k r s) :=
  placeAns_rests _ _ _ _ (postNotice_rests _ (becomeHome_rests _ (setHand_rests _ h)))

@[simp] theorem rejectBlock_rests (k : Nat) (r : Receiving) (h : Rests a s) :
    Rests a (rejectBlock k r s) := by simp [rejectBlock, h]

@[simp] theorem endConfirming_rests (b : Block) (h : Rests a s) : Rests a (endConfirming b s) := by
  unfold endConfirming; repeat' split
  all_goals simp (maxDischargeDepth := 12) [h]

@[simp] theorem homeDelivered_rests (dest : Nat) (b : Block) (serial : Nat) (h : Rests a s) :
    Rests a (homeDelivered dest b serial s) := by
  unfold homeDelivered; repeat' split
  all_goals simp (maxDischargeDepth := 12) [h]

@[simp] theorem endFreeing_rests (b : Block) (h : Rests a s) : Rests a (endFreeing b s) := by
  unfold endFreeing; repeat' split
  all_goals simp (maxDischargeDepth := 12) [h]

/-! ## The dispatch engine -/

@[simp] theorem sendEntry_rests (e : Entry) (st : Nat) (h : Rests a s) :
    Rests a (sendEntry e st s).1 := by
  unfold sendEntry; repeat' split
  · exact h
  · rename_i hf _
    refine (pushFrame_rests _ _ h).queue (queue_ok_send ?_)
    simpa [flightTo] using hf
  · exact waitForPlace_rests _ h

@[simp] theorem censusEntry_rests (id : Nat) (b : Block) (h : Rests a s) :
    Rests a (censusEntry id b s) := by simp [censusEntry, h]

@[simp] theorem resolveEntry_rests (e : Entry) (h : Rests a s) : Rests a (resolveEntry e s).1 := by
  unfold resolveEntry; repeat' split
  all_goals simp (maxDischargeDepth := 12) [h]

@[simp] theorem retireEntry_rests (e : Entry) (h : Rests a s) : Rests a (retireEntry e s) := by
  unfold retireEntry; split <;> simp [h]

@[simp] theorem takeEligible_rests (e : Entry) (h : Rests a s) : Rests a (takeEligible e s).1 := by
  unfold takeEligible; split <;> simp [h]

@[simp] theorem walkFrom_rests (ids : List Nat) (keys : List OrderKey) (h : Rests a s) :
    Rests a (walkFrom ids keys s).1 := by
  induction ids generalizing keys s with
  | nil => exact h
  | cons id rest ih =>
    unfold walkFrom
    split
    · exact ih _ h
    · rename_i e _
      have hr := takeEligible_rests e h
      repeat' split
      · exact ih _ h
      · exact ih _ h
      · rename_i heq; rw [heq] at hr; exact hr
      · rename_i heq _; rw [heq] at hr; exact ih _ hr
      · rename_i heq _; rw [heq] at hr; exact ih _ hr
      · exact ih _ h

@[simp] theorem walk_rests (h : Rests a s) : Rests a (walk s) := by
  have hw := walkFrom_rests (s.queue.entries.map Entry.id) [] h
  unfold walk
  split
  · split
    · rename_i heq; rw [heq] at hw; exact hw
    · rename_i heq; rw [heq] at hw; exact stopWaiting_rests _ hw
  · exact h

@[simp] theorem entryFailed_rests (id : Nat) (h : Rests a s) : Rests a (entryFailed id s) :=
  mapEntry_rests _ _ (fun _ => ⟨rfl, .inl rfl⟩) h

@[simp] theorem entryCensusDone_rests (id : Nat) (h : Rests a s) : Rests a (entryCensusDone id s) := by
  refine mapEntry_rests _ _ (fun e => ?_) h
  split
  · exact ⟨rfl, .inl rfl⟩
  · exact ⟨rfl, .inr rfl⟩

@[simp] theorem tickEntry_rests (e : Entry) (h : Rests a s) : Rests a (tickEntry e s) := by
  unfold tickEntry; repeat' split
  all_goals first | exact h | simp [h]

theorem foldl_rests {β : Type} (f : State → β → State)
    (hf : ∀ (t : State) (x : β), Rests a t → Rests a (f t x)) (l : List β) (h : Rests a s) :
    Rests a (l.foldl f s) := by
  induction l generalizing s with
  | nil => exact h
  | cons x l ih => exact ih (hf _ _ h)

@[simp] theorem retryTick_rests (h : Rests a s) : Rests a (retryTick s) :=
  walk_rests (foldl_rests _ (fun _ _ k => tickEntry_rests _ k) _ h)

@[simp] theorem enterInbound_rests (d : Dispatch) (h : Rests a s) : Rests a (enterInbound d s) :=
  askLine_rests _ (h.queue (queue_ok_append rfl rfl))

@[simp] theorem takeDispatch_rests (d : Dispatch) (src : Nat) (h : Rests a s) :
    Rests a (takeDispatch d src s) := by unfold takeDispatch; split <;> simp (maxDischargeDepth := 12) [h]

@[simp] theorem offerApplications_rests (es : List Entry) (room : Nat) (h : Rests a s) :
    Rests a (offerApplications es room s).1 := by
  induction es generalizing room s with
  | nil => exact h
  | cons e es ih =>
    unfold offerApplications
    split
    · exact ih _ (by simp (maxDischargeDepth := 12) [h])
    · exact ih _ h

@[simp] theorem offerSweep_rests (room : Nat) (h : Rests a s) : Rests a (offerSweep room s) := by
  unfold offerSweep; split
  · exact askSweep_rests (by simpa [Rests] using h)
  · exact h

/-! ## The ownership map -/

@[simp] theorem becomeOnline_rests (h : Rests a s) : Rests a (becomeOnline s) :=
  walk_rests (startSweep_rests (queueDay_rests (by simpa [Rests] using h)))

@[simp] theorem probeOn_rests (h : Rests a s) : Rests a (probeOn s) := by
  unfold probeOn; split
  · exact askCensus_rests _ _ (by simpa [Rests] using h)
  · simp (maxDischargeDepth := 12) [h]

@[simp] theorem afterProbe_rests (b : Block) (h : Rests a s) : Rests a (afterProbe b s) := by
  unfold afterProbe; repeat' split
  all_goals simp (maxDischargeDepth := 12) [h]

@[simp] theorem resolveProbe_rests (b : Block) (others : List Claim) (h : Rests a s) :
    Rests a (resolveProbe b others s) := by
  unfold resolveProbe; split
  · exact afterProbe_rests _ (becomeHome_rests _ h)
  · exact afterProbe_rests _ (postNotice_rests _ (announce_rests _ _ (becomeForeign_rests _ _ h)))
  · exact afterProbe_rests _ (postNotice_rests _ (setView_rests _ _ h))

@[simp] theorem applyCensus_rests (b : Block) (res : Option (List Claim)) (h : Rests a s) :
    Rests a (applyCensus b res s) := by
  unfold applyCensus; repeat' split
  all_goals simp (maxDischargeDepth := 12) [h]

@[simp] theorem censusToContext_rests (c : Nat) (res : Option (List Claim)) (h : Rests a s) :
    Rests a (censusToContext c res s) := by
  unfold censusToContext; repeat' split
  all_goals simp (maxDischargeDepth := 12) [h]

@[simp] theorem censusToProbe_rests (b : Block) (res : Option (List Claim)) (h : Rests a s) :
    Rests a (censusToProbe b res s) := by
  unfold censusToProbe; repeat' split
  · simpa [Rests] using h
  all_goals exact h

@[simp] theorem censusToConfirming_rests (b : Block) (h : Rests a s) :
    Rests a (censusToConfirming b s) := by
  unfold censusToConfirming; repeat' split
  all_goals simp (maxDischargeDepth := 12) [h]

@[simp] theorem censusToAsker_rests (b : Block) (res : Option (List Claim)) (x : Asker)
    (h : Rests a s) : Rests a (censusToAsker b res x s) := by
  unfold censusToAsker; split <;> simp (maxDischargeDepth := 12) [h]

theorem giveFreePlace_rests (h : Rests a s) (room : s.map.census.length < Config.censusPlaces) :
    Rests a (giveFreePlace s) := by
  unfold giveFreePlace; split
  · exact h
  · exact openCensus_rests _ _ (by simpa [Rests] using h) (by simpa using room)

/-- A census list without the place of a block that has one is shorter. -/
theorem census_filter_lt {l : List CensusPlace} {b : Block} {p : CensusPlace}
    (h : l.find? (fun p => p.b == b) = some p) :
    (l.filter fun p => p.b != b).length < l.length := by
  refine List.length_filter_lt_length_iff_exists.2 ⟨p, List.mem_of_find?_eq_some h, ?_⟩
  have := List.find?_some h
  simpa using this

end Sys2Proof.Machine
end

