-- ==== Sys2Proof/Laws/LineRests.lean ====
section
/-! SUPPORT. What the line engine, the ends of a census, the slot events and the timers leave alone (`Rests`). -/

namespace Sys2Proof.Machine

variable {a s : State}

/-! ## The ends of a census, MOVED frames -/

@[simp] theorem endPlace_rests (b : Block) (h : Rests a s) : Rests a (endPlace b s) := by
  unfold endPlace
  split
  · rename_i p heq
    split
    · simp (maxDischargeDepth := 12) [h]
    · have hlt := census_filter_lt heq
      obtain ⟨h1, h2, h3, h4, h5, h6, h7, h8, h9, h10, h11, h12, h13, h14, h15⟩ := h
      by_cases hb : s.map.census.length ≤ Config.censusPlaces
      · refine giveFreePlace_rests ?_ (by dsimp only; omega)
        exact ⟨h1, h2, h3, h4, h5, h6, h7, h8, h9, h10, h11, h12, fun _ => by dsimp only; omega, h14, h15⟩
      · unfold giveFreePlace
        split
        · exact ⟨h1, h2, h3, h4, h5, h6, h7, h8, h9, h10, h11, h12, fun x => absurd (h13 x) hb, h14, h15⟩
        · refine placeOrWait_rests _ _ _ ?_
          exact ⟨h1, h2, h3, h4, h5, h6, h7, h8, h9, h10, h11, h12, fun x => absurd (h13 x) hb, h14, h15⟩
  · exact h

@[simp] theorem observeProbe_rests (b : Block) (others : List Claim) (h : Rests a s) :
    Rests a (observeProbe b others s) := by unfold observeProbe; split <;> simp [h]

@[simp] theorem censusEnded_rests (b : Block) (res : Option (List Claim)) (h : Rests a s) :
    Rests a (censusEnded b res s) :=
  endPlace_rests _
    (foldl_rests _ (fun _ _ k => censusToAsker_rests _ _ _ k) _ (applyCensus_rests _ _ h))

@[simp] theorem takeMovedOther_rests (b : Block) (st : Nat) (h : Rests a s) :
    Rests a (takeMovedOther b st s) := by
  unfold takeMovedOther; split <;> simp (maxDischargeDepth := 12) [h]

@[simp] theorem takeMoved_rests (b : Block) (st src : Nat) (h : Rests a s) :
    Rests a (takeMoved b st src s) := by
  unfold takeMoved; repeat' split
  all_goals simp [h]

/-! ## Contention, acceptance, commitment -/

@[simp] theorem contendFor_rests (i : SendItem) (h : Rests a s) : Rests a (contendFor i s) := by
  unfold contendFor; split <;> simp [h]

@[simp] theorem dropAcceptance_rests (h : Rests a s) : Rests a (dropAcceptance s) := by
  unfold dropAcceptance; dsimp only; repeat' split
  · exact askFreeze_rests (setSlot_rests _ _ (by simpa [Rests] using h))
  · exact askFreeze_rests (by simpa [Rests] using h)
  · exact h

@[simp] theorem winTurn_rests (i : SendItem) (h : Rests a s) : Rests a (winTurn i s) := by
  unfold winTurn; dsimp only; split
  · exact dropAcceptance_rests (by simpa [Rests] using h)
  · simpa [Rests] using h

@[simp] theorem contend_rests (i : SendItem) (rivals : List Nat) (h : Rests a s) :
    Rests a (contend i rivals s) := by
  unfold contend; dsimp only; split
  · simp [h]
  · have := mapSend_rests i.id SendItem.lost (contendFor_rests i h)
    simpa [Rests] using this

@[simp] theorem holdFrame_rests (f : Frame) (h : Rests a s) : Rests a (holdFrame f s) := by
  unfold holdFrame; split <;> simpa [Rests] using h

@[simp] theorem releaseRefuse_rests (h : Rests a s) : Rests a (releaseRefuse s) := by
  simpa [Rests, releaseRefuse] using h

@[simp] theorem acceptFrame_rests (octets : List Nat) (o : Bool) (h : Rests a s) :
    Rests a (acceptFrame octets o s) := by
  unfold acceptFrame; repeat' split
  all_goals simp [h]

@[simp] theorem commitFrame_rests (x : Acceptance) (k : Nat) (h : Rests a s) :
    Rests a (commitFrame x k s) := by
  unfold commitFrame; dsimp only; split
  · exact takeDispatch_rests _ _ (setSlot_rests _ _ (by simpa [Rests] using h))
  · simpa [Rests] using h
  · exact beginStream_rests (by simpa [Rests] using h)

@[simp] theorem pushClear_rests (n : Nat) (h : Rests a s) : Rests a (pushClear n s) :=
  pushFrame_rests _ _ h

/-! ## The ends of frames -/

@[simp] theorem reqDelivered_rests (c : Nat) (h : Rests a s) : Rests a (reqDelivered c s) := by
  unfold reqDelivered; repeat' split
  all_goals simp [h]

@[simp] theorem handoverDelivered_rests (f : Frame) (h : Rests a s) :
    Rests a (handoverDelivered f s) := by
  unfold handoverDelivered; repeat' split
  all_goals simp [h]

@[simp] theorem reportDelivered_rests (i : SendItem) (h : Rests a s) :
    Rests a (reportDelivered i s) := by unfold reportDelivered; split <;> simp [h]

@[simp] theorem openWindow_rests (b : Block) (h : Rests a s) : Rests a (openWindow b s) := by
  simpa [Rests, openWindow] using h

@[simp] theorem frameDelivered_rests (i : SendItem) (h : Rests a s) :
    Rests a (frameDelivered i s) := by
  unfold frameDelivered; split <;> simp (maxDischargeDepth := 12) [h]

@[simp] theorem reportAttempt_rests (i : SendItem) (h : Rests a s) :
    Rests a (reportAttempt i s) := by
  unfold reportAttempt; repeat' split
  all_goals simp [h]

@[simp] theorem reqReturned_rests (c : Nat) (h : Rests a s) : Rests a (reqReturned c s) := by
  unfold reqReturned; repeat' split
  all_goals simp [h]

@[simp] theorem handoverReturned_rests (f : Frame) (h : Rests a s) :
    Rests a (handoverReturned f s) := by unfold handoverReturned; split <;> simp [h]

@[simp] theorem returnFrame_rests (i : SendItem) (res : SendResult) (h : Rests a s) :
    Rests a (returnFrame i res s) := by
  unfold returnFrame; repeat' split
  all_goals simp [h]

@[simp] theorem retryFrame_rests (i : SendItem) (h : Rests a s) : Rests a (retryFrame i s) := by
  unfold retryFrame; dsimp only; split <;> simp (maxDischargeDepth := 12) [h]

@[simp] theorem attemptFailed_rests (i : SendItem) (res : SendResult) (h : Rests a s) :
    Rests a (attemptFailed i res s) := by
  unfold attemptFailed; dsimp only; split <;> simp (maxDischargeDepth := 12) [h]

@[simp] theorem frameUndelivered_rests (i : SendItem) (res : SendResult) (h : Rests a s) :
    Rests a (frameUndelivered i res s) := by
  unfold frameUndelivered; dsimp only; repeat' split
  all_goals simp (maxDischargeDepth := 12) [h]

/-! ## The receive slots -/

@[simp] theorem processReq_rests (k age : Nat) (f : Frame) (q : Query) (h : Rests a s) :
    Rests a (processReq k age f q s) := by
  unfold processReq; dsimp only; repeat' split
  all_goals simp (maxDischargeDepth := 12) [h]

@[simp] theorem takeLate_rests (room k age : Nat) (f : Frame) (x : Ans) (h : Rests a s) :
    Rests a (takeLate room k age f x s) := by
  unfold takeLate; repeat' split
  all_goals simp (maxDischargeDepth := 12) [h]

@[simp] theorem takeMatched_rests (r : Run) (x : Ans) (h : Rests a s) :
    Rests a (takeMatched r x s) := by unfold takeMatched; split <;> simp [h]

@[simp] theorem processAns_rests (k age : Nat) (f : Frame) (x : Ans) (h : Rests a s) :
    Rests a (processAns k age f x s) := by unfold processAns; split <;> simp [h]

@[simp] theorem retryLate_rests (room : Nat) (h : Rests a s) : Rests a (retryLate room s) := by
  unfold retryLate; repeat' split
  all_goals simp [h]

@[simp] theorem offerPlace_rests (w : Waiter) (h : Rests a s) : Rests a (offerPlace s w) := by
  unfold offerPlace; repeat' split
  all_goals simp [h]

@[simp] theorem offerPlaces_rests (h : Rests a s) : Rests a (offerPlaces s) :=
  foldl_rests _ (fun _ _ k => offerPlace_rests _ k) _ h

@[simp] theorem dispatchPlacesFreed_rests (h : Rests a s) : Rests a (dispatchPlacesFreed s) := by
  unfold dispatchPlacesFreed; dsimp only
  exact walk_rests (retryLate_rests _ (offerSweep_rests _ (offerApplications_rests _ _ h)))

@[simp] theorem driveLane_rests (w : Window) (h : Rests a s) : Rests a (driveLane w s) := by
  simpa [Rests, driveLane] using h

@[simp] theorem confirmAlone_rests (b : Block) (own : Option ClaimKind) (others : List Claim)
    (h : Rests a s) : Rests a (confirmAlone b own others s) := by
  unfold confirmAlone; split <;> simp [h]

@[simp] theorem windowEnds_rests (w : Window) (own : Option ClaimKind) (claims : List Claim)
    (h : Rests a s) : Rests a (windowEnds w own claims s) := by
  have h0 : Rests a { s with line := { s.line with window := none } } := by simpa [Rests] using h
  unfold windowEnds; dsimp only; repeat' split
  all_goals simp (maxDischargeDepth := 12) [h0]

@[simp] theorem takeExchange_rests (x : Ans) (h : Rests a s) : Rests a (takeExchange x s) := by
  unfold takeExchange; split <;> simp [h]

@[simp] theorem answerOffer_rests (k src : Nat) (r : CtxRef) (b : Block) (serial : Nat) (c : Counts)
    (h : Rests a s) : Rests a (answerOffer k src r b serial c s) := by
  unfold answerOffer; dsimp only; split <;> simp [h]

@[simp] theorem answerQuery_rests (k src : Nat) (r : CtxRef) (b : Block) (serial : Nat)
    (h : Rests a s) : Rests a (answerQuery k src r b serial s) := placeAns_rests _ _ _ _ h

@[simp] theorem requeueMoved_rests (x : Announcement) (h : Rests a s) :
    Rests a (requeueMoved x s) := by
  unfold requeueMoved; split <;> simp [h]

/-- R182, R184: after the withdrawal no freeze waits for the store; one that holds it ends its grant, and else the
grant held stays. -/
theorem withdrawFreeze_cases (s : State) :
    let left : Arbiter := { s.arb with stream := s.arb.stream.filter fun w => w != .freeze }
    (∃ E, s.arb.held = some ⟨.stream .freeze, E⟩ ∧ withdrawFreeze s = endGrant { s with arb := left }) ∨
      ((∀ E, s.arb.held ≠ some ⟨.stream .freeze, E⟩) ∧ withdrawFreeze s = { s with arb := left }) := by
  unfold withdrawFreeze
  split
  · rename_i E h
    exact .inl ⟨E, h, rfl⟩
  · rename_i h
    exact .inr ⟨h, rfl⟩

@[simp] theorem withdrawFreeze_rests (h : Rests a s) : Rests a (withdrawFreeze s) := by
  have h1 : Rests a { s with arb := { s.arb with stream := s.arb.stream.filter fun w => w != .freeze } } := by
    simpa [Rests] using h
  unfold withdrawFreeze; split <;> simp [h1]

@[simp] theorem drainEnds_rests (g : Giving) (h : Rests a s) : Rests a (drainEnds g s) := by
  unfold drainEnds; split <;> simp (maxDischargeDepth := 12) [h]

@[simp] theorem deliverAnswer_rests (x : StepAnswer) (h : Rests a s) :
    Rests a (deliverAnswer x s) := by
  unfold deliverAnswer; repeat' split
  all_goals simp [h]

end Sys2Proof.Machine
end

