-- ==== Sys2Proof/Laws/Keeps.lean ====
section
/-! SUPPORT. What the work of a grant leaves alone (`Keeps`): as `Rests`, but records and the fault capture may change,
the record tables keeping their canonical form. -/

namespace Sys2Proof.Machine

/-- From `a` to `s` configuration, county day, masks, the exchange in progress, the last reply and the waiting
commands stand; contexts and slots are as many; the bounded tables keep their bounds; the record tables and the view
table keep their canonical form. -/
def Keeps (a s : State) : Prop :=
  s.pending = a.pending ∧ s.conf = a.conf ∧ s.day.county = a.day.county ∧
    s.port.masks = a.port.masks ∧ s.port.exchange = a.port.exchange ∧
    s.port.reply = a.port.reply ∧
    s.ctxs.length = a.ctxs.length ∧ s.line.slots.length = a.line.slots.length ∧
    (a.port.notices.length ≤ Config.notices → s.port.notices.length ≤ Config.notices) ∧
    (a.map.census.length ≤ Config.censusPlaces → s.map.census.length ≤ Config.censusPlaces) ∧
    (tblRising a.map.views = true → tblRising s.map.views = true) ∧
    ((a.map.views.all fun p => p.2 != .unknown) = true →
      (s.map.views.all fun p => p.2 != .unknown) = true) ∧
    (tblRising a.store.items = true → tblRising s.store.items = true) ∧
    (tblRising a.store.titles = true → tblRising s.store.titles = true) ∧
    (tblRising a.store.patrons = true → tblRising s.store.patrons = true) ∧
    (a.queue.ok → s.queue.ok)

@[refl] theorem Keeps.refl (a : State) : Keeps a a := by simp [Keeps]

variable {a s t : State}

/-- What rests is kept. -/
theorem Keeps.of_rests (h : Keeps a s) (k : Rests s t) : Keeps a t := by
  unfold Keeps Rests at *
  obtain ⟨h1, h2, h3, h4, h5, h6, h7, h8, h9, h10, h11, h12, h13, h14, h15⟩ := h
  obtain ⟨k1, k2, k3, k4, k5, k6, k7, k8, k9, k10, k11, k12, k13, k14, k15, k16⟩ := k
  obtain ⟨h15, h16⟩ := h15
  rw [k3]
  exact ⟨k1.trans h1, k2.trans h2, k6.trans h3, k7.trans h4, k8.trans h5, k9.trans h6,
    k10.trans h7, k11.trans h8, k12 ∘ h9, k13 ∘ h10, k14 ∘ h11, k15 ∘ h12, h13, h14, h15, k16 ∘ h16⟩

theorem Rests.keeps (k : Rests a s) : Keeps a s := (Keeps.refl a).of_rests k

/-! ## Records -/

/-- A change of the item table that keeps its form. -/
theorem Keeps.items {l : List (Nat × Item)} (h : Keeps a s)
    (k : tblRising s.store.items = true → tblRising l = true) :
    Keeps a { s with store := { s.store with items := l } } := by
  obtain ⟨h1, h2, h3, h4, h5, h6, h7, h8, h9, h10, h11, h12, h13, h14, h15⟩ := h
  exact ⟨h1, h2, h3, h4, h5, h6, h7, h8, h9, h10, h11, h12, k ∘ h13, h14, h15⟩

/-- A change of the title table that keeps its form. -/
theorem Keeps.titles {l : List (Nat × Title)} (h : Keeps a s)
    (k : tblRising s.store.titles = true → tblRising l = true) :
    Keeps a { s with store := { s.store with titles := l } } := by
  obtain ⟨h1, h2, h3, h4, h5, h6, h7, h8, h9, h10, h11, h12, h13, h14, h15⟩ := h
  exact ⟨h1, h2, h3, h4, h5, h6, h7, h8, h9, h10, h11, h12, h13, k ∘ h14, h15⟩

/-- A change of the patron table that keeps its form. -/
theorem Keeps.patrons {l : List (Nat × Patron)} (h : Keeps a s)
    (k : tblRising s.store.patrons = true → tblRising l = true) :
    Keeps a { s with store := { s.store with patrons := l } } := by
  obtain ⟨h1, h2, h3, h4, h5, h6, h7, h8, h9, h10, h11, h12, h13, h14, h15⟩ := h
  exact ⟨h1, h2, h3, h4, h5, h6, h7, h8, h9, h10, h11, h12, h13, h14, k ∘ h15.1, h15.2⟩

@[simp] theorem putItem_keeps (n : Nat) (r : Item) (h : Keeps a s) : Keeps a (putItem n r s) :=
  h.items (tblSet_rising _ _)
@[simp] theorem putItemRaw_keeps (n : Nat) (r : Item) (h : Keeps a s) :
    Keeps a (putItemRaw n r s) := h.items (tblSet_rising _ _)
@[simp] theorem dropItem_keeps (n : Nat) (h : Keeps a s) : Keeps a (dropItem n s) :=
  h.items (tblDel_rising _)
@[simp] theorem putTitle_keeps (n : Nat) (r : Title) (h : Keeps a s) : Keeps a (putTitle n r s) :=
  h.titles (tblSet_rising _ _)
@[simp] theorem putTitleRaw_keeps (n : Nat) (r : Title) (h : Keeps a s) :
    Keeps a (putTitleRaw n r s) := h.titles (tblSet_rising _ _)
@[simp] theorem dropTitle_keeps (n : Nat) (h : Keeps a s) : Keeps a (dropTitle n s) :=
  h.titles (tblDel_rising _)
@[simp] theorem putPatron_keeps (n : Nat) (r : Patron) (h : Keeps a s) :
    Keeps a (putPatron n r s) := h.patrons (tblSet_rising _ _)
@[simp] theorem putPatronRaw_keeps (n : Nat) (r : Patron) (h : Keeps a s) :
    Keeps a (putPatronRaw n r s) := h.patrons (tblSet_rising _ _)
@[simp] theorem dropPatron_keeps (n : Nat) (h : Keeps a s) : Keeps a (dropPatron n s) :=
  h.patrons (tblDel_rising _)

@[simp] theorem dropRecord_keeps (sp : Space) (n : Nat) (h : Keeps a s) :
    Keeps a (dropRecord sp n s) := by unfold dropRecord; split <;> simp (maxDischargeDepth := 12) [h]

@[simp] theorem recordFault_keeps (f : CapturedFault) (h : Keeps a s) :
    Keeps a (recordFault f s) := by
  unfold recordFault
  split
  · exact Keeps.of_rests (s := { s with capture := { s.capture with captured := some f } })
      (by simpa [Keeps] using h) (postNotice_rests _ (.refl _))
  · simpa [Keeps] using h

@[simp] theorem emitAll_keeps (es : List Effect) (h : Keeps a s) : Keeps a (emitAll es s) :=
  h.of_rests (emitAll_rests _ (.refl _))

@[simp] theorem enqueueAll_keeps (ds : List Dispatch) (h : Keeps a s) : Keeps a (enqueueAll ds s) :=
  h.of_rests (enqueueAll_rests _ (.refl _))

@[simp] theorem enqueue_keeps (d : Dispatch) (h : Keeps a s) : Keeps a (enqueue d s) :=
  h.of_rests (enqueue_rests _ (.refl _))

@[simp] theorem walk_keeps (h : Keeps a s) : Keeps a (walk s) := h.of_rests (walk_rests (.refl _))

/-! ## The owner engine -/

@[simp] theorem fetchItem_keeps (n : Nat) (who : Requester) (E : Nat) (h : Keeps a s) :
    Keeps a (fetchItem n who E s).1 := by
  unfold fetchItem; repeat' split
  all_goals simp (maxDischargeDepth := 12) [h]

@[simp] theorem fetchTitle_keeps (n : Nat) (who : Requester) (E : Nat) (h : Keeps a s) :
    Keeps a (fetchTitle n who E s).1 := by
  unfold fetchTitle; repeat' split
  all_goals simp (maxDischargeDepth := 12) [h]

@[simp] theorem fetchPatron_keeps (n : Nat) (who : Requester) (E : Nat) (h : Keeps a s) :
    Keeps a (fetchPatron n who E s).1 := by
  unfold fetchPatron; repeat' split
  all_goals simp (maxDischargeDepth := 12) [h]

@[simp] theorem touchItem_keeps (E n : Nat) (r : Item) (h : Keeps a s) :
    Keeps a (touchItem E n r s).1 := by
  unfold touchItem; dsimp only; split <;> simp (maxDischargeDepth := 12) [h]

@[simp] theorem expireTitle_keeps (E n room dayRoom fuel : Nat) (h : Keeps a s) :
    Keeps a (expireTitle E n room dayRoom fuel s).1 := by
  induction fuel generalizing s with
  | zero => exact h
  | succ fuel ih =>
    unfold expireTitle; dsimp only; repeat' split
    · exact h
    · exact h
    · simp (maxDischargeDepth := 12) [h]
    · exact h
    · exact ih (by simp (maxDischargeDepth := 12) [h])

@[simp] theorem touchTitle_keeps (E n : Nat) (t : Title) (h : Keeps a s) :
    Keeps a (touchTitle E n t s).1 := by unfold touchTitle; split <;> simp (maxDischargeDepth := 12) [h]

@[simp] theorem itemOp_keeps (n : Nat) (who : Requester) (E : Nat) (read : Bool)
    (rule : Item → ItemResult) (h : Keeps a s) : Keeps a (itemOp n who E read rule s).1 := by
  have hf := fetchItem_keeps n who E h
  unfold itemOp
  split
  · exact h
  · split
    · rename_i heq; rw [heq] at hf; exact hf
    · rename_i s1 r heq
      rw [heq] at hf
      have ht := touchItem_keeps E n r hf
      dsimp only
      repeat' split
      all_goals simp_all (maxDischargeDepth := 12)

@[simp] theorem titleOp_keeps (n : Nat) (who : Requester) (E : Nat) (read : Bool) (missing : Reason)
    (rule : State → Title → TitleResult) (h : Keeps a s) :
    Keeps a (titleOp n who E read missing rule s).1 := by
  have hf := fetchTitle_keeps n who E h
  unfold titleOp
  split
  · exact h
  · split
    · rename_i heq; rw [heq] at hf; exact hf
    · rename_i s1 r heq
      rw [heq] at hf
      have ht := touchTitle_keeps E n r hf
      dsimp only
      repeat' split
      all_goals simp_all (maxDischargeDepth := 12)

@[simp] theorem patronOp_keeps (n : Nat) (who : Requester) (E : Nat) (read : Bool)
    (rule : Patron → PatronResult) (h : Keeps a s) : Keeps a (patronOp n who E read rule s).1 := by
  have hf := fetchPatron_keeps n who E h
  unfold patronOp
  split
  · exact h
  · split
    · rename_i heq; rw [heq] at hf; exact hf
    · rename_i s1 r heq
      rw [heq] at hf
      repeat' split
      all_goals simp_all (maxDischargeDepth := 12)

@[simp] theorem opItemCreate_keeps (i t c sh E : Nat) (h : Keeps a s) :
    Keeps a (opItemCreate i t c sh E s).1 := by
  unfold opItemCreate; repeat' split
  all_goals simp (maxDischargeDepth := 12) [h]

@[simp] theorem opTitleCreate_keeps (n : Nat) (b : Bool) (E : Nat) (h : Keeps a s) :
    Keeps a (opTitleCreate n b E s).1 := by
  unfold opTitleCreate; repeat' split
  all_goals simp (maxDischargeDepth := 12) [h]

@[simp] theorem opPatronCreate_keeps (n c x : Nat) (h : Keeps a s) :
    Keeps a (opPatronCreate n c x s).1 := by
  unfold opPatronCreate; repeat' split
  all_goals simp (maxDischargeDepth := 12) [h]

@[simp] theorem opItemDelete_keeps (n : Nat) (who : Requester) (E : Nat) (h : Keeps a s) :
    Keeps a (opItemDelete n who E s).1 := by
  have hf := fetchItem_keeps n who E h
  unfold opItemDelete
  split
  · exact h
  · split
    · rename_i heq; rw [heq] at hf; exact hf
    · rename_i s1 r heq
      rw [heq] at hf
      have ht := touchItem_keeps E n r hf
      dsimp only [deleteItem]
      repeat' split
      all_goals simp_all (maxDischargeDepth := 12)

@[simp] theorem opTitleDelete_keeps (n : Nat) (who : Requester) (E : Nat) (h : Keeps a s) :
    Keeps a (opTitleDelete n who E s).1 := by
  have hf := fetchTitle_keeps n who E h
  unfold opTitleDelete
  split
  · exact h
  · split
    · rename_i heq; rw [heq] at hf; exact hf
    · rename_i s1 r heq
      rw [heq] at hf
      have ht := touchTitle_keeps E n r hf
      dsimp only [deleteTitle]
      repeat' split
      all_goals simp_all (maxDischargeDepth := 12)

@[simp] theorem opPatronDelete_keeps (n : Nat) (who : Requester) (E : Nat) (h : Keeps a s) :
    Keeps a (opPatronDelete n who E s).1 := by
  have hf := fetchPatron_keeps n who E h
  unfold opPatronDelete
  split
  · exact h
  · split
    · rename_i heq; rw [heq] at hf; exact hf
    · rename_i s1 r heq
      rw [heq] at hf
      repeat' split
      all_goals simp_all (maxDischargeDepth := 12)

@[simp] theorem applyOp_keeps (o : OwnerOp) (who : Requester) (E : Nat) (h : Keeps a s) :
    Keeps a (applyOp o who E s).1 := by
  cases o <;>
    simp [applyOp, opLendItem, opExtend, opTakeReturn, opItemRead, opCopyAdd, opHoldAdd, opHoldDrop,
      opTitleRead, opPatronSet, opStanding, opLoanOpen, opHoldOpen, opPay, opAccountRead, h]

@[simp] theorem discard_keeps (d : Dispatch) (sp : Space) (n E : Nat) (h : Keeps a s) :
    Keeps a (discard d sp n E s) := recordFault_keeps _ h

@[simp] theorem itemDispatch_keeps (d : Dispatch) (n E : Nat) (missing : State → State)
    (rule : State → Item → Item × List Effect)
    (hm : ∀ t : State, Keeps a t → Keeps a (missing t)) (h : Keeps a s) :
    Keeps a (itemDispatch d n E missing rule s) := by
  have hf := fetchItem_keeps n .line E h
  unfold itemDispatch
  split
  · rename_i heq; rw [heq] at hf; exact hm _ hf
  · rename_i s1 r heq
    rw [heq] at hf
    have ht := touchItem_keeps E n r hf
    dsimp only
    split <;> simp [hf, ht]

@[simp] theorem titleDispatch_keeps (d : Dispatch) (n E : Nat) (missing : State → State)
    (rule : Title → TitleChange)
    (hm : ∀ t : State, Keeps a t → Keeps a (missing t)) (h : Keeps a s) :
    Keeps a (titleDispatch d n E missing rule s) := by
  have hf := fetchTitle_keeps n .line E h
  unfold titleDispatch
  split
  · rename_i heq; rw [heq] at hf; exact hm _ hf
  · rename_i s1 r heq
    rw [heq] at hf
    have ht := touchTitle_keeps E n r hf
    dsimp only
    split <;> simp [hf, ht]

@[simp] theorem patronDispatch_keeps (d : Dispatch) (n E : Nat) (rule : Patron → Patron)
    (h : Keeps a s) : Keeps a (patronDispatch d n E rule s) := by
  have hf := fetchPatron_keeps n .line E h
  unfold patronDispatch
  split
  · rename_i heq; rw [heq] at hf; exact hf
  · rename_i s1 r heq
    rw [heq] at hf
    split <;> simp [hf]

@[simp] theorem applyDispatch_keeps (d : Dispatch) (E : Nat) (h : Keeps a s) :
    Keeps a (applyDispatch d E s) := by
  have id_keeps : ∀ t : State, Keeps a t → Keeps a (id t) := fun _ k => k
  have enq_keeps : ∀ (x : Dispatch) (t : State), Keeps a t → Keeps a (enqueue x t) :=
    fun x _ k => enqueue_keeps x k
  cases d <;> first
    | exact patronDispatch_keeps _ _ _ _ h
    | exact itemDispatch_keeps _ _ _ _ _ id_keeps h
    | exact titleDispatch_keeps _ _ _ _ _ id_keeps h
    | exact itemDispatch_keeps _ _ _ _ _ (enq_keeps _) h
    | exact titleDispatch_keeps _ _ _ _ _ (enq_keeps _) h
    | exact h

@[simp] theorem applyEntry_keeps (id E : Nat) (h : Keeps a s) : Keeps a (applyEntry id E s) := by
  have hd : Keeps a (dropEntry id s) := h.of_rests (dropEntry_rests _ (.refl _))
  unfold applyEntry
  repeat' split
  · exact h
  · exact (applyDispatch_keeps _ E hd).of_rests (askFreeze_rests (.refl _))
  · exact h
  · exact walk_keeps (h.of_rests (setEntryPhase_rests _ _ (by simp) (.refl _)))
  · exact h.of_rests (setEntryPhase_rests _ _ (by simp) (.refl _))
  · exact applyDispatch_keeps _ E hd

@[simp] theorem ownerGrant_keeps (x : HeldOp) (h : Keeps a s) : Keeps a (ownerGrant x s) :=
  (applyOp_keeps x.op x.who x.day h).of_rests (endGrant_rests (deliverAnswer_rests _ (.refl _)))

@[simp] theorem entryGrant_keeps (e : Entry) (day : Nat) (h : Keeps a s) :
    Keeps a (entryGrant e day s) :=
  (applyEntry_keeps e.id day h).of_rests (endGrant_rests (.refl _))

/-! ## The sweep -/

@[simp] theorem examineItem_keeps (E n : Nat) (u : Option Nat) (h : Keeps a s) :
    Keeps a (examineItem E n u s).1 := by
  have hf := fetchItem_keeps n .sweep E h
  unfold examineItem
  split
  · exact h
  · split
    · rename_i heq; rw [heq] at hf; exact hf
    · rename_i heq
      rw [heq] at hf
      dsimp only
      repeat' split
      all_goals simp_all (maxDischargeDepth := 12)

@[simp] theorem examineTitle_keeps (E n : Nat) (u : Option Nat) (h : Keeps a s) :
    Keeps a (examineTitle E n u s).1 := by
  have hf := fetchTitle_keeps n .sweep E h
  unfold examineTitle
  split
  · exact h
  · split
    · rename_i heq; rw [heq] at hf; exact hf
    · rename_i heq
      rw [heq] at hf
      dsimp only
      repeat' split
      all_goals simp_all (maxDischargeDepth := 12)

@[simp] theorem examine_keeps (E : Nat) (r : Space × Nat) (u : Option Nat) (h : Keeps a s) :
    Keeps a (examine E r u s).1 := by
  unfold examine; repeat' split
  all_goals simp (maxDischargeDepth := 12) [h]

@[simp] theorem burst_keeps (E fuel : Nat) (u : Option Nat) (pos : SweepPos) (h : Keeps a s) :
    Keeps a (burst E fuel u pos s).1 := by
  induction fuel generalizing u pos s with
  | zero => unfold burst; split <;> exact h
  | succ fuel ih =>
    unfold burst
    split
    · exact h
    · rename_i r _
      have he := examine_keeps E r u h
      split
      · rename_i heq; rw [heq] at he; exact he
      · rename_i heq; rw [heq] at he; exact ih _ _ he

@[simp] theorem runBurst_keeps (E : Nat) (u : Option Nat) (h : Keeps a s) :
    Keeps a (runBurst E u s).1 := burst_keeps _ _ _ _ h

/-! ## The stream -/

@[simp] theorem readUnits_keeps (sp : Space) (n E : Nat) (h : Keeps a s) :
    Keeps a (readUnits sp n E s).1 := by
  have h1 := fetchItem_keeps n .stream E h
  have h2 := fetchTitle_keeps n .stream E h
  have h3 := fetchPatron_keeps n .stream E h
  unfold readUnits
  cases sp <;> dsimp only <;> split <;> simp_all (maxDischargeDepth := 12)

@[simp] theorem streamRead_keeps (E : Nat) (h : Keeps a s) : Keeps a (streamRead E s) := by
  unfold streamRead; dsimp only; repeat' split
  · exact (readUnits_keeps _ _ E h).of_rests (streamOn_rests (setHand_rests _ (.refl _)))
  all_goals exact h

@[simp] theorem drew_keeps (k : Nat) (h : Keeps a s) : Keeps a (drew k s) := by
  simpa [Keeps, drew] using h

@[simp] theorem writeMarker_keeps (sp : Space) (n : Nat) (h : Keeps a s) :
    Keeps a (writeMarker sp n s) := by
  cases sp <;> simp (maxDischargeDepth := 12) [writeMarker, markerItem, markerTitle, markerPatron, h]

@[simp] theorem writeUnitRecord_keeps (o : Nat) (u : StreamUnit) (h : Keeps a s) :
    Keeps a (writeUnitRecord o u s) := by
  unfold writeUnitRecord; repeat' split
  all_goals simp (maxDischargeDepth := 12) [h]

@[simp] theorem writeUnit_keeps (r : Receiving) (u : StreamUnit) (h : Keeps a s) :
    Keeps a (writeUnit r u s) :=
  (writeUnitRecord_keeps r.title u h).of_rests (setHand_rests _ (.refl _))

@[simp] theorem streamWrite_keeps (k : Nat) (h : Keeps a s) : Keeps a (streamWrite k s) := by
  unfold streamWrite
  split
  · split
    · split
      · exact h.of_rests (freeSlot_rests _ (.refl _))
      · rename_i r _
        split
        · simpa [Keeps] using h
        · have close : ∀ (s1 : State) (last : Option Nat), Keeps a s1 →
              Keeps a (match last with
                | none => freeSlot k s1
                | some total =>
                  match s1.hand with
                  | .receiving r1 => if r1.units = total then takeBlock k r1 s1 else rejectBlock k r1 s1
                  | _ => s1) := by
            intro s1 last h1
            repeat' split
            · exact h1.of_rests (freeSlot_rests _ (.refl _))
            · exact h1.of_rests (takeBlock_rests _ _ (.refl _))
            · exact h1.of_rests (rejectBlock_rests _ _ (.refl _))
            · exact h1
          refine close _ _ ?_
          split
          · exact writeUnit_keeps _ _ h
          · exact h
    · exact h
  · exact h

@[simp] theorem freeRecords_keeps (b : Block) (n : Nat) (h : Keeps a s) :
    Keeps a (freeRecords b n s) := by
  unfold freeRecords
  generalize (recordsOf b s).take n = l
  induction l generalizing s with
  | nil => exact h
  | cons k l ih => exact ih (dropRecord_keeps _ _ h)

@[simp] theorem freeing_keeps (b : Block) (h : Keeps a s) : Keeps a (freeing b s) := by
  have hf := freeRecords_keeps b Config.burst h
  unfold freeing; dsimp only; repeat' split
  · exact hf.of_rests (endFreeing_rests _ (.refl _))
  · simpa [Keeps] using hf
  · exact h.of_rests (endFreeing_rests _ (.refl _))

end Sys2Proof.Machine
end

