-- ==== Sys2Proof/Laws/Records.lean ====
section
/-! SUPPORT. The lists of a kiosk record (R203, R204): what is read back behind a count octet, and what a count octet
above its list's capacity makes of the record. -/

namespace Sys2Proof

open Sys2Proof.Machine

variable {α : Type} {r : Read α} {f : α → List Nat} {cap : Nat}

/-- A reader reads back what a writer has put, whatever follows. -/
def Reads (r : Read α) (f : α → List Nat) (x : α) : Prop := ∀ rest, r (f x ++ rest) = some (x, rest)

/-- Entries put one behind the other are read back. -/
theorem readMany_put (l : List α) (h : ∀ x ∈ l, Reads r f x) (rest : List Nat) :
    readMany r l.length ((l.map f).flatten ++ rest) = some (l, rest) := by
  induction l with
  | nil => rfl
  | cons x l ih =>
    have hx := h x (List.mem_cons_self ..) ((l.map f).flatten ++ rest)
    have hl := ih fun y hy => h y (List.mem_cons_of_mem _ hy)
    simp only [readMany, List.length_cons, List.map_cons, List.flatten_cons, List.append_assoc, bind, StateT.bind]
    simp [hx, hl, pure, StateT.pure]

/-- A list within its capacity is read back. -/
theorem readList_put (l : List α) (hc : l.length ≤ cap) (h : ∀ x ∈ l, Reads r f x) (rest : List Nat) :
    readList cap r (putList f l ++ rest) = some (some l, rest) := by
  simp [readList, putList, oct, bind, StateT.bind, hc, readMany_put l h, pure, StateT.pure]

/-- R204: a count octet above the capacity is malformed, and nothing behind it is read. -/
theorem readList_over (r : Read α) {n : Nat} (hn : cap < n) (rest : List Nat) :
    readList cap r (n :: rest) = some (none, rest) := by
  simp [readList, oct, bind, StateT.bind, Nat.not_le.2 hn, pure, StateT.pure]

/-- Lists within their capacity, one behind the other, are read back. -/
theorem readLists_put (ls : List (List α)) (h : ∀ l ∈ ls, l.length ≤ cap ∧ ∀ x ∈ l, Reads r f x)
    (rest : List Nat) :
    readLists cap r ls.length ((ls.map (putList f)).flatten ++ rest) = some (some ls, rest) := by
  induction ls with
  | nil => rfl
  | cons l ls ih =>
    obtain ⟨hc, hx⟩ := h l (List.mem_cons_self ..)
    have hl := readList_put l hc hx ((ls.map (putList f)).flatten ++ rest)
    have hr := ih fun m hm => h m (List.mem_cons_of_mem _ hm)
    simp only [readLists, List.length_cons, List.map_cons, List.flatten_cons, List.append_assoc, bind, StateT.bind]
    simp [hl, StateT.bind, hr, pure, StateT.pure]

/-- R204: a count octet above the capacity, in any of the lists, ends the reading there. -/
theorem readLists_over (ls : List (List α)) (h : ∀ l ∈ ls, l.length ≤ cap ∧ ∀ x ∈ l, Reads r f x)
    {k n : Nat} (hk : ls.length < k) (hn : cap < n) (rest : List Nat) :
    readLists cap r k ((ls.map (putList f)).flatten ++ n :: rest) = some (none, rest) := by
  induction ls generalizing k with
  | nil =>
    obtain ⟨k, rfl⟩ := Nat.exists_eq_succ_of_ne_zero (Nat.ne_of_gt hk)
    simp [readLists, bind, StateT.bind, readList_over r hn, pure, StateT.pure]
  | cons l ls ih =>
    obtain ⟨k, rfl⟩ := Nat.exists_eq_succ_of_ne_zero (Nat.ne_of_gt (Nat.zero_lt_of_lt hk))
    obtain ⟨hc, hx⟩ := h l (List.mem_cons_self ..)
    have hl := readList_put l hc hx ((ls.map (putList f)).flatten ++ n :: rest)
    have hr := ih (fun m hm => h m (List.mem_cons_of_mem _ hm)) (Nat.lt_of_succ_lt_succ hk)
    simp only [readLists, List.map_cons, List.flatten_cons, List.append_assoc, bind, StateT.bind]
    simp [hl, StateT.bind, hr, pure, StateT.pure]

/-- A day is read back (Table 12-1). -/
theorem reads_pair {d : Nat} (h : d < 65536) : Reads pair put2 d := by
  intro rest
  simp only [pair, put2, oct, bind, StateT.bind, pure, StateT.pure, List.cons_append, List.nil_append]
  simp; omega

/-- A three-octet field is read back (Table 12-1). -/
theorem reads_triple {n : Nat} (h : n < numberLimit) : Reads triple put3 n := by
  intro rest
  have := Nat.div_div_eq_div_mul n 256 256
  simp only [numberLimit] at h
  simp only [triple, put3, oct, bind, StateT.bind, pure, StateT.pure, List.cons_append, List.nil_append]
  simp; omega

/-- A standing test within its widths is read back (Table 12-7). -/
theorem reads_test {t : RawTest} (h : t.fits = true) : Reads readTest putTest t := by
  intro rest
  have hv : t.value < numberLimit := by
    simp only [RawTest.fits, tripleOk, Bool.and_eq_true, decide_eq_true_eq] at h
    exact h.2
  have ht := reads_triple hv rest
  simp [readTest, putTest, oct, bind, StateT.bind, ht, pure, StateT.pure]

end Sys2Proof
end

