-- ==== Sys2Proof/Laws/Sweep.lean ====
section
/-! SUPPORT. The walk of the sweep: the records a burst can examine (`State.sweepWalk`) are what `nextRecord` names one
after the other, and the comparison of one record of it in two states is an equivalence. -/

namespace Sys2Proof.Machine

@[simp] theorem State.sameRecord_item (s t : State) (n : Nat) :
    s.sameRecord t (.item, n) ↔ getItem n s = getItem n t := Iff.rfl

@[simp] theorem State.sameRecord_title (s t : State) (n : Nat) :
    s.sameRecord t (.title, n) ↔ getTitle n s = getTitle n t := Iff.rfl

theorem State.sameRecord_refl (s : State) (r : Space × Nat) : s.sameRecord s r := by
  obtain ⟨_ | _ | _, n⟩ := r <;> simp [State.sameRecord]

theorem State.sameRecord_symm {s t : State} {r : Space × Nat} (h : s.sameRecord t r) : t.sameRecord s r := by
  obtain ⟨_ | _ | _, n⟩ := r <;> simp_all [State.sameRecord]

theorem State.sameRecord_trans {s t u : State} {r : Space × Nat} (h : s.sameRecord t r) (k : t.sameRecord u r) :
    s.sameRecord u r := by
  obtain ⟨_ | _ | _, n⟩ := r <;> simp_all [State.sameRecord]

/-- The first key of a rising table is below every other. -/
theorem tblRising_lt {α : Type} : ∀ {a : Nat × α} {l : List (Nat × α)}, tblRising (a :: l) = true → ∀ p ∈ l, a.1 < p.1
  | _, [], _, _, h => nomatch h
  | a, b :: l, h, p, hp => by
    simp only [tblRising, Bool.and_eq_true, decide_eq_true_eq] at h
    rcases List.mem_cons.1 hp with rfl | hp
    · exact h.1
    · exact h.1.trans (tblRising_lt h.2 p hp)

/-- In a rising table the keys from `n` on are the first of them, which `tblFrom` names, and those after it. -/
theorem keysFrom_tblFrom {α : Type} (l : List (Nat × α)) (n : Nat) (h : tblRising l = true) :
    ((l.map Prod.fst).filter fun m => n ≤ m) =
      match tblFrom l n with
      | none => []
      | some p => p.1 :: (l.map Prod.fst).filter fun m => p.1 + 1 ≤ m := by
  induction l with
  | nil => rfl
  | cons a l ih =>
    have lt := tblRising_lt h
    have rising : tblRising l = true := by cases l <;> simp_all [tblRising]
    by_cases hn : n ≤ a.1
    · have all : ∀ m ∈ l.map Prod.fst, (decide (n ≤ m) = true) ∧ (decide (a.1 + 1 ≤ m) = true) := by
        intro m hm
        obtain ⟨p, hp, rfl⟩ := List.mem_map.1 hm
        have := lt p hp
        simp only [decide_eq_true_eq]; omega
      simp only [List.map_cons, tblFrom, List.find?_cons, hn, decide_true, List.filter_cons_of_pos]
      rw [List.filter_cons_of_neg (by simp), List.filter_eq_self.2 fun m hm => (all m hm).1,
        List.filter_eq_self.2 fun m hm => (all m hm).2]
    · have found : tblFrom (a :: l) n = tblFrom l n := by simp [tblFrom, hn]
      rw [found, List.map_cons, List.filter_cons_of_neg (by simpa using hn), ih rising]
      cases hf : tblFrom l n with
      | none => rfl
      | some p =>
        have := lt p (List.mem_of_find?_eq_some hf)
        simp only
        rw [List.filter_cons_of_neg (by simp; omega)]

/-- The walk from a position is the record that `nextRecord` names and the walk after it. -/
theorem State.sweepWalk_nextRecord (s : State) (pos : SweepPos) (h : s.tablesOk) :
    s.sweepWalk pos =
      match nextRecord s pos with
      | none => []
      | some r => r :: s.sweepWalk (posAfter r) := by
  have items := fun n => keysFrom_tblFrom s.store.items n h.1
  have titles := fun n => keysFrom_tblFrom s.store.titles n h.2.1
  have all : ((s.store.titles.map Prod.fst).filter fun m => 0 ≤ m) = s.store.titles.map Prod.fst := by simp
  cases pos with
  | title n =>
    simp only [State.sweepWalk, nextRecord, titles n]
    cases tblFrom s.store.titles n <;> simp [posAfter, posAt]
  | item n =>
    simp only [State.sweepWalk, nextRecord, items n]
    cases hf : tblFrom s.store.items n with
    | some p => simp [posAfter, posAt]
    | none =>
      have map : (s.store.titles.map fun p => ((.title, p.1) : Space × Nat)) =
          (s.store.titles.map Prod.fst).map fun m => (.title, m) := by simp
      simp only [List.map_nil, List.nil_append, map]
      rw [← all, titles 0]
      cases tblFrom s.store.titles 0 <;> simp [posAfter, posAt]

end Sys2Proof.Machine
end

