-- ==== Sys2Proof/Machine/Replies.lean ====
section
/-! DEFINITION. What the part clocks out, as octets: replies, answer records, notice records and the status record
(Tables 12-5, 12-6, 5-4, 10-3). What chapter 12 leaves open in these layouts is in log entries 20 to 24. -/

namespace Sys2Proof.Machine

/-- The request kind (Table 12-8). -/
def Request.kindCode : Request → Nat
  | .lend .. => 1
  | .renew .. => 2
  | .checkIn _ => 3
  | .reserve .. => 4
  | .cancel .. => 5
  | .pay .. => 6
  | .account _ => 7
  | .itemStatus _ => 8
  | .titleStatus .. => 9
  | .enrolTitle .. => 10
  | .enrolPatron .. => 11
  | .updatePatron .. => 12
  | .enrolItem .. => 13
  | .withdrawItem _ => 14
  | .withdrawTitle _ => 15
  | .withdrawPatron _ => 16
  | .handOver .. => 17

/-- A station named by a handover's values (R160, R161), one octet; the other outcomes of a HAND_OVER name none.
PRESUMED (log entry 21): Table 5-4 names the acceptance and the refusing station, and gives them no layout. -/
def putNamedStation : Values → List Nat
  | .refusedBy st | .acceptedBy st => [st]
  | _ => []

/-- Table 5-4, R98: the values of an answer. -/
def answerValues (a : Answer) : List Nat :=
  match a.request, a.values with
  | .enrolPatron p c x, .patronCreated _ _ => put3 p ++ [c] ++ put2 x
  | .updatePatron p _ _, .patronSet c x => put3 p ++ [c] ++ put2 x
  | .handOver .., v => putNamedStation v
  | _, v => putValues a.gathered ++ putValues v

/-- The presence octets of an answer record: those of the values gathered and of the last step's (Table 12-6). -/
def answerPresence (a : Answer) : List Nat := putPresence a.gathered ++ putPresence a.values

/-- The answer record of a context (Table 12-6). -/
def answerOctets (ctx gen : Nat) (a : Answer) : List Nat :=
  [a.tag, ctx, gen, a.request.kindCode, codeOf outcomeTable a.outcome, reasonCode a.reason, a.step,
    a.deferrals, a.redirects, a.attempts] ++ answerPresence a ++ answerValues a

/-- The code of a fault's cause (Table 12-8). -/
def FaultCause.code : FaultCause → Nat
  | .checkFailed => 0
  | .dispatchDiscarded => 1

/-- The code of a requester (Table 12-8). -/
def Requester.code : Requester → Nat
  | .kiosk => 0
  | .line => 1
  | .sweep => 2
  | .stream => 3

/-- Table 9-4: the fault capture, its presence octet at the head (R203, log entry 23). -/
def captureOctets (c : FaultCapture) : List Nat :=
  match c.captured with
  | none => [0, 0] ++ putMark c.further
  | some f =>
    [15 + 16 * presence1 f.dispatch, 1, f.cause.code] ++ putTargetNo f.space f.number ++
      [f.requester.code] ++ put2 f.day ++ putOpt putDispatch f.dispatch ++ putMark c.further

/-- The bit of a piece among the pieces still empty: its place in Table 11-1. -/
def PieceName.bit : PieceName → Nat
  | .stationNumber => 0
  | .lineRate => 1
  | .calendar => 2
  | .classTable => 3
  | .categoryTable => 4
  | .holdLife => 5
  | .pickupWindow => 6
  | .startDay => 7
  | .mapItem => 8
  | .mapTitle => 9
  | .mapPatron => 10
  | .eraseFlag => 11

/-- The set of pieces still empty, in two octets. -/
def emptyOctets (ps : List PieceName) : List Nat := put2 (ps.map fun p => 2 ^ p.bit).sum

/-- The field found at fault: its place in its piece, with a row and a test or an index. -/
def BadField.octets : BadField → List Nat
  | .stationNumber | .lineRate | .weekday0 => [0, 0, 0]
  | .closedDay i => [2, i, 0]
  | .quantity r t => [1, r, t]
  | .relation r t => [2, r, t]
  | .view i => [0, i, 0]

/-- The values of an answer the port gives itself. -/
def PortValues.octets : PortValues → List Nat
  | .nothing => []
  | .day d => put2 d
  | .capture c => captureOctets c
  | .configured clamped ps => putMark clamped ++ emptyOctets ps
  | .badValue f ps => f.octets ++ emptyOctets ps
  | .pieces ps => emptyOctets ps
  | .joined erased d => putMark erased ++ put2 d

/-- The code of a view in a notice (Table 12-8), one octet: a view is a code without a station behind it. -/
def View.code : View → Nat
  | .home => 0
  | .lending _ => 1
  | .receiving _ => 2
  | .probing => 3
  | .foreign _ => 4
  | .unknown => 5

/-- A claimant in a CONFLICT notice. -/
def claimOctets (c : Claim) : List Nat :=
  [c.station, match c.kind with | .firm => 0 | .probing => 1]

/-- The code of a handover's result (Table 12-8). -/
def HandoverResult.code : HandoverResult → Nat
  | .done => 0
  | .failed => 1
  | .received => 2
  | .discarded => 3

/-- The kind of a notice (Table 12-8). -/
def Notice.kindCode : Notice → Nat
  | .route .. => 1
  | .pull .. => 2
  | .late .. => 3
  | .conflict .. => 4
  | .fault .. => 5
  | .day .. => 6
  | .handover .. => 7

/-- The contents of a notice (Table 10-3): a presence octet stands before the patron of a ROUTE and the reason of a
HANDOVER, the two that may be absent. The patron of a PULL is always sent, a PULL without one as 0 (log entry 24). -/
def Notice.contents : Notice → List Nat
  | .route i r p => put3 i ++ putRoute r ++ [presence1 p] ++ putOpt put3 p
  | .pull i r p => put3 i ++ putRoute r ++ put3 (p.getD 0)
  | .late op o why p i t st comp =>
    [codeOf opTable op + 1, codeOf outcomeTable o, reasonCode why] ++ put3 p ++ put3 i ++ put3 t ++
      [st] ++ putMark comp
  | .conflict b v cs => putBlock b ++ [v.code, cs.length] ++ (cs.map claimOctets).flatten
  | .fault c sp n => [c.code] ++ putTargetNo sp n
  | .day d p => put2 d ++ put2 p
  | .handover b st r why units =>
    putBlock b ++ [st, r.code, presence1 why] ++ putOpt (fun w => [reasonCode (some w)]) why ++ put2 units

/-- A notice record: kind, length, contents (Table 12-6). -/
def noticeOctets (n : Notice) : List Nat := [n.kindCode, n.contents.length] ++ n.contents

/-- The code of a station state (Table 12-8). -/
def StationState.code : StationState → Nat
  | .unconfigured => 0
  | .configured => 1
  | .joining => 2
  | .online => 3

/-- The status record (Table 12-6). -/
def statusOctets (r : StatusRecord) : List Nat :=
  [r.station.code, r.number.getD 255, r.contexts, r.answers, r.notices, r.queueDepth] ++ put2 r.day ++
    putMark r.overflow ++ putMark r.locked

/-- What the part clocks out (Table 12-5). An answer the port gives itself has context 255 and generation 0 (R189), and
the model sends 0 for its step index, deferrals, redirects and line attempts. DESIGN CHOICE (log entry 24): the rule
does not give them. -/
def Reply.octets : Reply → List Nat
  | .unknownCommand => [codeOf outcomeTable .unknownCommand]
  | .notOnline => [codeOf outcomeTable .notOnline]
  | .taken c g => [codeOf outcomeTable .taken, c, g]
  | .answer tag kind o why v =>
    [tag, 255, 0, kind, codeOf outcomeTable o, reasonCode why, 0, 0, 0, 0] ++ v.octets
  | .transaction c g a => answerOctets c g a
  | .notice n => noticeOctets n
  | .none => [codeOf outcomeTable .none]
  | .status r => statusOctets r
  | .masks m => [m.toNat]

end Sys2Proof.Machine
end

