-- ==== Sys2Proof/Tests/Slice0.lean ====
section
/-! SUPPORT. The model's own tests: terms that WellFormed refuses, the manual's worked figures, and for each statement
of Obligations.lean a concrete state and operands that meet its hypotheses. -/

open Sys2Proof Sys2Proof.Machine

namespace Sys2Proof.Tests

set_option Elab.async false

/-! ## A small site: station 5 of the worked examples (Table 1-6, Table 4-6) -/

/-- The calendar of Table 4-6. -/
def county : Calendar := ⟨0, 64, [20455]⟩

/-- Class 2 of Table 4-6. -/
def class2 : ClassRow := ⟨100, 2, 1500, 7, 2, 42, 2500⟩

/-- Test 0 of category 1 of Table 4-6. -/
def test0 : StandingTest := ⟨true, true, true, .balance, .ge, 5000⟩

/-- A full configuration of station 5. -/
def conf5 : Configuration :=
  { stationNumber := some 5, lineRate := some .r125, calendar := some county
    classTable := some (List.replicate 8 class2), categoryTable := some (List.replicate 4 [test0])
    holdLife := some 60, pickupWindow := some 7, startDay := some 20400
    mapItem := some (List.replicate 256 .unknown), mapTitle := some (List.replicate 256 .unknown)
    mapPatron := some (List.replicate 256 (.foreign 17)), eraseFlag := some true }

/-- Item 4,202,518 of title 7,340,100 and patrons 1,180,004 and 2,210,771. -/
def item : Nat := 4202518
def title : Nat := 7340100
def patron : Nat := 1180004
def other : Nat := 2210771

/-- Their blocks: item block 64, title block 112, patron block 18. -/
def itemB : Block := ⟨.item, 64⟩
def titleB : Block := ⟨.title, 112⟩
def patronB : Block := ⟨.patron, 18⟩

/-- Station 5 CONFIGURED on day 20,461. -/
def configured : State :=
  { State.reset with
    station := .configured, conf := conf5, day := { State.reset.day with county := 20461 } }

/-- Station 5 ONLINE on day 20,461, the three blocks HOME. -/
def online : State :=
  { configured with
    station := .online
    map := { State.reset.map with views := [(64, .home), (368, .home), (530, .home)] } }

/-- An item record with a state, current to the day. -/
def rec (st : ItemState) : Item := ⟨title, 2, 5, st, 5, 20461, false, .agrees⟩

/-- The site with the item in a state. -/
def has (st : ItemState) : State := putItem item (rec st) online

/-- A title record of two copies. -/
def two (a b : CopyView) (hs : List HoldEntry) : Title :=
  ⟨true, [⟨item, a, .agrees⟩, ⟨item + 1, b, .agrees⟩], hs, 20461, false, .agrees⟩

/-- The site with a title. -/
def hasTitle (t : Title) : State := putTitle title t online

/-- A hold entry of a patron. -/
def hold (p : Nat) (st : HoldState) : HoldEntry := ⟨p, 12, 20460, 20520, st, .agrees⟩

/-- A patron record with a balance and a loan count. -/
def acct (balance loans : Nat) : Patron := ⟨1, 20500, balance, false, loans, 0, false, .agrees⟩

/-- The site with a patron. -/
def hasPatron (p : Patron) : State := putPatron patron p online

/-- The state with an operation from station 12 at its grant. -/
def withOp (o : OwnerOp) (s : State) : State :=
  { s with
    line := { s.line with slots := [.processing 0 ⟨12, .station 5, .req ⟨0, 7, 1⟩ (.op o)⟩ true, .free] }
    arb := { s.arb with held := some ⟨.line (.req 0), s.day.county⟩ } }

/-- The state with an INBOUND dispatch at its grant. -/
def withEntry (d : Dispatch) (s : State) : State :=
  { s with
    queue := ⟨[⟨0, .inbound, d, 0, .applying⟩], 1⟩
    arb := { s.arb with held := some ⟨.line (.entry 0), s.day.county⟩ } }

/-- The state with context 0 running and its step at its grant. -/
def withRun (r : Run) (s : State) : State :=
  { s with
    ctxs := s.ctxs.set 0 ⟨7, .running r⟩
    arb := { s.arb with held := some ⟨.kiosk 0, s.day.county⟩ } }

/-- A run of a request. -/
def runOf (q : Request) (step : Nat) (ph : Phase) (comp : Bool) : Run :=
  ⟨3, q, step, ph, 0, 0, 0, .nothing, comp⟩

/-- The state with a frame FULL in slot 0. -/
def withFull (f : Frame) (s : State) : State :=
  { s with line := { s.line with slots := [.full 0 f, .free], nextAge := 1 } }

/-- The state with a frame in its place of the send queue, holding the turn. -/
def withTurn (b : Body) (o : Owner) (attempts : Nat) (clearing : Bool) (s : State) : State :=
  { s with
    line := { s.line with
      sendq := [⟨0, ⟨5, .all, b⟩, b.baseClass, attempts, 0, o⟩], nextId := 1, turn := some ⟨0, clearing⟩ } }

/-- The state with `n` entries of the dispatch queue taken. -/
def crowded (n : Nat) (s : State) : State :=
  { s with
    queue := ⟨(List.range n).map fun k => ⟨k + 1, .outbound, .loanClose patron, 0, .waitTick⟩, n + 1⟩ }

/-- The next state of a command, if it has one. -/
def run (i : Instr) (s : State) : Option State :=
  match exec i s with
  | .next t => some t
  | _ => none

/-- An operation at its grant is `granted`, where its block is HOME and there is room. -/
theorem granted_withOp (o : OwnerOp) (s : State) (h : viewOf o.block (withOp o s) = .home)
    (r : 3 ≤ freePlaces (withOp o s)) : granted o .line s.day.county (withOp o s) :=
  ⟨rfl, h, r⟩

/-- An INBOUND dispatch at its grant is `applied`. -/
theorem applied_withEntry (d : Dispatch) (s : State) :
    applied ⟨0, .inbound, d, 0, .applying⟩ s.day.county (withEntry d s) :=
  ⟨rfl, Or.inl rfl⟩

/-! ## Ill-formed commands are refused -/

theorem test_wf_command_octet : (Instr.unknownCommand (.command 5)).wellFormed = false := by decide
theorem test_wf_request_kind : (Instr.unknownCommand (.requestKind 22 0)).wellFormed = false := by decide
theorem test_wf_tag : (Instr.status 256 .whole).wellFormed = false := by decide
theorem test_wf_number : (Instr.lend 0 .whole 16777216 1).wellFormed = false := by decide
theorem test_wf_octet : (Instr.enrolItem 0 .whole 1 1 256).wellFormed = false := by decide
theorem test_wf_day : (Instr.advanceDay 0 .whole 65536).wellFormed = false := by decide
theorem test_wf_optional : (Instr.updatePatron 0 .whole 1 none (some 65536)).wellFormed = false := by decide
theorem test_wf_piece : (Instr.configure 0 .whole (.holdLife 65536)).wellFormed = false := by decide
theorem test_wf_class_row :
    (Instr.configure 0 .whole (.classTable [{ class2 with grace := 256 }])).wellFormed = false := by decide
theorem test_wf_test_row :
    (Instr.configure 0 .whole (.categoryTable [[⟨7, 0, 5, 16777216⟩]])).wellFormed = false := by decide
theorem test_wf_rival : (Instr.contention [128]).wellFormed = false := by decide
theorem test_wf_frame_octet : (Instr.frameAcceptance [256] false).wellFormed = false := by decide
theorem test_wf_station : (Instr.clear 32).wellFormed = false := by decide
theorem test_wf_context : (Instr.answerLimit 8).wellFormed = false := by decide
theorem test_wf_block : (Instr.movedRequeueWait ⟨.item, 256⟩).wellFormed = false := by decide
theorem test_wf_claim_lane_twice :
    (Instr.censusWindowEnd [⟨3, .firm⟩, ⟨3, .probing⟩]).wellFormed = false := by decide

/-! ## The manual's worked figures -/

/-- Table 4-7: the fines for returns of an item due on 20,450. -/
theorem test_fines_of_table_4_7 :
    [20450, 20452, 20453, 20454, 20461, 20472].map (overdueFine class2 county 20450) =
      [0, 0, 0, 300, 800, 1500] := by decide +kernel

/-- Table 4-8: the due days, with the "shortened by card" mark. -/
theorem test_due_days_of_table_4_8 :
    dueDay county 20461 7 20500 = (20468, false) ∧ dueDay county 20461 7 20466 = (20466, true) ∧
      dueDay county 20464 7 20464 = (20464, true) ∧
      dueDay { county with closedDays := [20601, 20602, 20603, 20604, 20605, 20606, 20608, 20609, 20610, 20611,
        20612, 20613, 20615] } 20594 7 20700 = (20615, false) ∧
      dueDay county 65530 7 65535 = (65535, false) ∧
      dueDay { county with closedDays := [65531, 65532, 65533, 65534, 65535] } 65524 7 65535 =
        (65535, false) := by decide

/-- Table 3-4: the loss that a day's transition finds, fine 1,500 and CHARGE of 4,000. -/
theorem test_loss_of_table_3_4 :
    bringUp class2 county 20492 item (rec (.onLoan patron 20450 0 false)) =
      ({ rec (.lost patron 20450 1500 2500) with currentTo := 20492 },
        [.send (.charge patron 4000 item .lost), .send (.copyState title item .lost false)]) := by decide +kernel

/-- R62: a pickup-by day of 20,468 lapses on 20,469, not on 20,468. -/
theorem test_lapse_falls_after_the_pickup_by_day :
    (bringUp class2 county 20468 item (rec (.held ⟨other, 12⟩ 20461 20468 false))).2 = [] ∧
      (bringUp class2 county 20469 item (rec (.held ⟨other, 12⟩ 20461 20468 false))).2 =
        [.send (.pickupLapsed title other item)] := by decide

/-- Table 1-6, the return at station 12 on day 20,461 of the trapped copy: AWAIT_ROUTE at 12, and CHARGE(800),
LOAN_CLOSE and COPY_FREE in this order. -/
theorem test_return_of_table_1_6 :
    ((run .takeReturn (withOp (.takeReturn item 12) (has (.onLoan patron 20450 0 true)))).map fun t =>
        ((getItem item t).map fun r => (r.state, r.at_), t.queue.entries.map Entry.disp)) =
      some (some (.awaitRoute, 12),
        [.charge patron 800 item .overdue, .loanClose patron, .copyFree title item 12]) := by decide +kernel

/-- Table 1-6, the REDIRECT for a pickup at the at station: HELD with a window of 7 days, and a KIOSK_NOTE there. -/
theorem test_redirect_of_table_1_6 :
    ((run .redirect (withEntry (.redirect item other 12) (putItem item { rec .awaitRoute with at_ := 12 } online))).map
        fun t => ((getItem item t).map Item.state, t.queue.entries.map Entry.disp)) =
      some (some (.held ⟨other, 12⟩ 20461 20468 false), [.kioskNote 12 item .holdShelf (some other)]) := by
  decide +kernel

/-- 4.9.2: the renewal on day 20,461 gives day 20,468 and charges 800. -/
theorem test_renewal_of_4_9_2 :
    ((run .extend (withOp (.extend item patron 20500) (has (.onLoan patron 20450 0 false)))).map fun t =>
        ((getItem item t).map Item.state, t.queue.entries.map Entry.disp)) =
      some (some (.onLoan patron 20468 1 false),
        [.charge patron 800 item .overdue, .copyState title item (.loan 20468) false]) := by decide +kernel

/-- 4.9.2: a balance of 4,900 passes test 0, one of 5,700 is refused BLOCKED. -/
theorem test_standing_of_4_9_2 :
    standingRefusal [test0] 20461 .renew (acct 4900 1) = none ∧
      standingRefusal [test0] 20461 .renew (acct 5700 1) =
        some (.refused .blocked (.blocked 0 .balance 5700)) := by decide

/-- Table 9-5, grant 5: EXTEND of a quarantined record is refused DAMAGED and enters no fault. -/
theorem test_damaged_of_table_9_5 :
    ((run .extend (withOp (.extend item patron 20500)
        (putItemRaw item { rec .onShelf with quarantined := true } online))).map fun t =>
        (t.line.sendq.map fun j => j.frame.body, t.capture)) =
      some ([.ans ⟨⟨0, 7, 1⟩, .extend, patron, item, 0, .refused .damaged .nothing⟩], ⟨none, false⟩) := by
  decide +kernel

/-- Table 9-5, grant 1: a failed check locks the capture, and the fault is posted. -/
theorem test_failed_check_of_table_9_5 :
    ((run .itemRead (withOp (.itemRead item)
        (putItemRaw item { rec .onShelf with check := .off 1#16 } online))).map fun t =>
        ((getItem item t).map Item.quarantined, t.port.notices, t.port.attention)) =
      some (some true, [.fault .checkFailed .item item], true) := by decide +kernel

/-- Table 10-4: a notice of a masked kind raises no attention, and the 33rd notice is dropped with the mark set. -/
theorem test_attention_of_table_10_4 :
    let p : KioskPort := { KioskPort.atReset with masks := 32#8, notices := List.replicate 32 (.day 20476 20475) }
    p.wantsAttention = false ∧
      (postNotice (.day 20477 20476) { online with port := p }).port.overflow = true ∧
      (postNotice (.day 20477 20476) { online with port := p }).port.notices.length = 32 := by decide

/-- R131's polynomial, from all ones: the check value published for this CRC, over the octets of "123456789", is 29B1
hexadecimal (PRESUMED: the manual gives no worked check). -/
theorem test_frame_check : frameCheck [49, 50, 51, 52, 53, 54, 55, 56, 57] = 0x29B1 := by decide +kernel

/-- A DAY frame of station 3 with day 20,492 written out: kind 4, source 3, destination ALL, length 2, the day. -/
theorem test_day_frame_octets :
    (encodeFrame ⟨3, .all, .day 20492⟩).take 6 = [4, 3, 255, 2, 80, 12] := by decide +kernel

/-! ## Witnesses: states and operands that meet the hypotheses of the statements -/

/-- An item operation at its grant on a record in a state. -/
abbrev itemCase (o : OwnerOp) (st : ItemState) : Prop :=
  granted o .line 20461 (withOp o (has st)) ∧ itemAt item (rec st) 20461 (withOp o (has st)) ∧
    (withOp o (has st)).tablesOk

/-- A title operation at its grant on a title. -/
abbrev titleCase (o : OwnerOp) (t : Title) : Prop :=
  granted o .line 20461 (withOp o (hasTitle t)) ∧ titleAt title t 20461 (withOp o (hasTitle t))

/-- A patron operation at its grant on a patron. -/
abbrev patronCase (o : OwnerOp) (p : Patron) : Prop :=
  granted o .line 20461 (withOp o (hasPatron p)) ∧ patronAt patron p (withOp o (hasPatron p)) ∧
    (withOp o (hasPatron p)).tablesOk

/-- A dispatch for the item at its grant on a record in a state. -/
abbrev itemEntry (d : Dispatch) (st : ItemState) : Prop :=
  heldEntry (withEntry d (has st)) = some (⟨0, .inbound, d, 0, .applying⟩, 20461) ∧
    itemAt item (rec st) 20461 (withEntry d (has st)) ∧ (withEntry d (has st)).tablesOk

/-- A dispatch for the title at its grant. -/
abbrev titleEntry (d : Dispatch) (t : Title) : Prop :=
  heldEntry (withEntry d (hasTitle t)) = some (⟨0, .inbound, d, 0, .applying⟩, 20461) ∧
    titleAt title t 20461 (withEntry d (hasTitle t))

/-- One state of each kind, for the clauses that run over the states. -/
def loan : ItemState := .onLoan patron 20450 0 false
def trapped : ItemState := .onLoan patron 20450 0 true
def pull : ItemState := .pull ⟨other, 12⟩
def going : ItemState := .inTransit (some ⟨other, 12⟩) 12
def home5 : ItemState := .inTransit none 5
def held : ItemState := .held ⟨other, 12⟩ 20461 20468 false
def lapsed : ItemState := .held ⟨other, 12⟩ 20461 20468 true
def lost : ItemState := .lost patron 20450 1500 2500

/-- A pool with no free item place: the 6,144 places are reserved for a handover. -/
def fullItems (s : State) : State :=
  { s with hand := .receiving ⟨.receiving, 9, ⟨.item, 1⟩, 1, ⟨6144, 0, 0⟩, 0, 0⟩ }

theorem witness_StepTakesFrontCommand : State.reset.pending = [] := rfl

theorem witness_AttentionAndBoundsKeptByEveryStep :
    State.reset.attentionOk ∧ State.reset.boundsOk ∧
      ∃ t, step { State.reset with pending := [.readStatus] } = .next t :=
  ⟨rfl, by decide, _, rfl⟩

theorem witness_TablesAndConfigurationKeptByEveryStep :
    (withOp (.lendItem item patron 20500 5) (has .onShelf)).tablesOk ∧ online.conf.inRange = true ∧
      ∃ t, step { withOp (.lendItem item patron 20500 5) (has .onShelf) with pending := [.lendItem] } = .next t :=
  ⟨by decide +kernel, by decide +kernel, _, rfl⟩

theorem witness_OneFlightPerDestination :
    ({ online with queue := ⟨[⟨0, .outbound, .trap item, 0, .inFlight 9⟩, ⟨1, .outbound, .trap 7, 0, .queued⟩], 2⟩ } :
      State).queue.ok := by
  unfold DispatchQueue.ok; decide

/-- The JOIN of a configured station with its erase flag set lowers the county day from 20,461 to 20,400. -/
theorem witness_DayAndRecordsChangeOnlyAsGranted :
    ((run (.join 0 .whole) configured).map fun t => (t.day.county, t.store == configured.store)) =
        some (20400, false) ∧
      ((run (.startReset (.inErase 5)) configured).map fun t => (t.day.county, t.store == configured.store)) =
        some (20400, false) ∧ configured.arb.held = none ∧ joinErases configured = true ∧
      configured.conf.startDay = some 20400 := by decide +kernel

theorem witness_ExchangeDecodesToItsCommand :
    (Instr.updatePatron 255 .whole 16777215 (some 3) (some 65535)).wellFormed = true ∧
      (Instr.updatePatron 255 .whole 16777215 (some 3) (some 65535)).shaped = true ∧
      encodeExchange (.updatePatron 255 .whole 16777215 (some 3) (some 65535)) =
        some [1, 12, 255, 255, 255, 255, 3, 3, 255, 255] ∧
      decodeExchange [1, 12, 255, 255, 255, 255, 3, 3, 255, 255] =
        some (.updatePatron 255 .whole 16777215 (some 3) (some 65535)) := by decide +kernel

/-- R204: a closed-day count of 65 and a test count of 5, with no octet behind them, one entry too few, or every entry;
at the capacity the record is whole, or cut short where a day is missing (R188). -/
theorem witness_ExchangeDecodesToItsCommand_counts :
    (∀ l ∈ [[], List.replicate 128 0, List.replicate 130 0],
        ∃ p, decodeExchange (submitOctets 21 7 ([3, 0, 0, 65] ++ l)) = some (.configure 7 .misshapen p)) ∧
      (∀ l ∈ [[], List.replicate 24 0, List.replicate 33 0],
        ∃ p, decodeExchange (submitOctets 21 7 ([5] ++
          ([[⟨7, 0, 5, 16777215⟩], [], List.replicate 4 ⟨7, 0, 5, 0⟩].map (putList putTest)).flatten ++ 5 :: l)) =
            some (.configure 7 .misshapen p)) ∧
      decodeExchange (submitOctets 21 7 ([3, 0, 0, 64] ++ List.replicate 128 0)) =
        some (.configure 7 .whole (.calendar 0 0 (List.replicate 64 0))) ∧
      decodeExchange (submitOctets 21 7 ([3, 0, 0, 64] ++ List.replicate 126 0)) =
        some (.exchangeCutShort .submit) := by
  refine ⟨fun l hl => ⟨.eraseFlag 0, ?_⟩, fun l hl => ⟨.eraseFlag 0, ?_⟩, by decide +kernel, by decide +kernel⟩ <;>
    (revert l; decide +kernel)

theorem witness_FrameDecodesToItself :
    Frame.fits ⟨31, .all, .census ⟨.patron, 255⟩⟩ = true ∧
      Frame.fits ⟨0, .station 31, .req ⟨255, 255, 255⟩ (.op (.lendItem 16777215 1 65535 31))⟩ = true ∧
      Frame.fits ⟨12, .station 5, .dispatch (.copyState title item (.loan 65535) true)⟩ = true ∧
      (∀ p ∈ [(OpCode.accountRead, StepAnswer.done (.account 500000 true 255 255 65535 3)),
          (.patronDelete, .refused .notEmpty (.notEmpty 255 0 500000)), (.titleDelete, .refused .notEmpty .nothing),
          (.lastDecision, .exchange .badCount ⟨.title, 255⟩ 255), (.itemRead, .movedTo 31),
          (.itemRead, .other .refused none)],
        Frame.fits ⟨9, .station 5, .ans ⟨⟨7, 255, 2⟩, p.1, 16777215, 0, 0, p.2⟩⟩ = true) ∧
      ∀ u ∈ [none, some (StreamUnit.item 16777215 (rec (.lost patron 65535 500000 0))),
          some (.copyRef ⟨item, .away (some patron), .agrees⟩), some (.marker .patron 16777215)],
        Frame.fits ⟨9, .station 5, .stream ⟨.item, 255⟩ 255 (some 65535) u⟩ = true := by decide +kernel

/-- Each clause: the views that turn an operation away and the one that serves a read, no record, a quarantined one and
2 free places; a free number, a taken one, a full pool; the states a delete takes and refuses. The room is 3 places
exactly in the first creation. -/
theorem witness_ItemsAreMadeAndRemoved :
    (∀ v ∈ [View.probing, .receiving 9, .lending 9, .foreign 9, .unknown],
        ∀ o ∈ [.lendItem item patron 20500 5, .itemRead item],
      heldOp (setView itemB v (withOp o (has .onShelf))) = some ⟨o, .line, 20461⟩ ∧
        viewOf o.block (setView itemB v (withOp o (has .onShelf))) = v) ∧
      (OwnerOp.lendItem item patron 20500 5).mark online = none ∧
      (OwnerOp.copyAdd title item).mark online = none ∧
      (OwnerOp.lendItem item patron 20500 5).mark (putItemRaw item { rec loan with quarantined := true } online) =
        some true ∧
      (OwnerOp.lendItem item patron 20500 5).mark (crowded 94 (has .onShelf)) = some false ∧
      (OwnerOp.lendItem item patron 20500 5).passesCheck (crowded 94 (has .onShelf)) = true ∧
      viewOf itemB (crowded 94 (has .onShelf)) = .home ∧ freePlaces (crowded 94 (has .onShelf)) = 2 ∧
    granted (.itemCreate item title 7 31) .line 20461 (withOp (.itemCreate item title 7 31) (crowded 93 online)) ∧
      freePlaces (withOp (.itemCreate item title 7 31) (crowded 93 online)) = 3 ∧
      granted (.itemCreate item title 2 5) .line 20461 (withOp (.itemCreate item title 2 5) (has .onShelf)) ∧
      freeItems (withOp (.itemCreate item title 2 5) (fullItems online)) = 0 ∧
      granted (.itemCreate item title 2 5) .line 20461 (withOp (.itemCreate item title 2 5) (fullItems online)) ∧
      itemCase (.itemDelete item) .onShelf ∧ itemCase (.itemDelete item) loan ∧
      granted (.itemDelete item) .line 20461
        (withOp (.itemDelete item) (putItemRaw item { rec loan with quarantined := true } online)) := by
  decide +kernel

theorem witness_LendItemLendsOrRefuses :
    (∀ st ∈ [.onShelf, held, lapsed, loan, pull, lost],
      itemCase (.lendItem item other 20500 12) st ∧ itemCase (.lendItem item patron 20500 5) st) ∧
      itemCase (.lendItem item other 20500 5) held := by
  decide +kernel

/-- The checks of EXTEND at their edges: another borrower, the mark, the renewal maximum, a card that gains no day. -/
theorem witness_ExtendChecksThenRenews :
    itemCase (.extend item patron 20500) loan ∧ itemCase (.extend item other 20500) loan ∧
      itemCase (.extend item patron 20500) trapped ∧
      itemCase (.extend item patron 20500) (.onLoan patron 20450 2 false) ∧
      itemCase (.extend item patron 20500) (.onLoan patron 20450 1 false) ∧
      itemCase (.extend item patron 20464) (.onLoan patron 20464 0 false) ∧
      (dueDay county 20464 7 20464).1 ≤ 20464 ∧ itemCase (.extend item patron 20500) .onShelf := by
  and_intros <;> decide +kernel

theorem witness_ReturnEndsTheLoan :
    ∀ st ∈ [loan, trapped, lost, .lost patron 20450 0 0],
      itemCase (.takeReturn item 5) st ∧ itemCase (.takeReturn item 12) st := by
  decide +kernel

theorem witness_ReturnRoutesTheItem :
    ∀ st ∈ [pull, going, home5, .onShelf, .awaitRoute, held],
      itemCase (.takeReturn item 5) st ∧ itemCase (.takeReturn item 12) st := by
  decide +kernel

/-- The site with the item's block lent to station 9. -/
def lendingItem (s : State) : State := setView itemB (.lending 9) s

theorem witness_ItemReadAnswersTheRecord :
    itemCase (.itemRead item) held ∧
      heldOp (lendingItem (withOp (.itemRead item) (has held))) = some ⟨.itemRead item, .line, 20461⟩ ∧
      viewOf (blockOf .item item) (lendingItem (withOp (.itemRead item) (has held))) = .lending 9 ∧
      (lendingItem (withOp (.itemRead item) (has held))).tablesOk := by
  decide +kernel

/-- The loss on the day due + lost-after and not on the day before; the lapse after the pickup-by day; and a record of
an earlier day that an operation touches. -/
theorem witness_TouchAppliesTheDayTransitions :
    20450 + class2.lostAfter = 20492 ∧ ¬ 20450 + class2.lostAfter ≤ 20491 ∧ (20468 : Nat) < 20469 ∧
      (OwnerOp.lendItem item other 20500 12).target = (.item, item) ∧
      viewOf itemB (putItem item { rec held with currentTo := 20460 } online) = .home ∧
      3 ≤ freePlaces (putItem item { rec held with currentTo := 20460 } online) ∧
      getItem item (putItem item { rec held with currentTo := 20460 } online) =
        some { rec held with currentTo := 20460 } := by decide +kernel

/-- A burst of the sweep at its grant. -/
def burst (s : State) : State :=
  { s with
    day := { s.day with sweep := .running, pos := some (.item 0) }
    arb := { s.arb with held := some ⟨.sweep, s.day.county⟩ } }

theorem witness_SweepBurstOnlyBringsUp :
    (burst (has loan)).arb.held = some ⟨.sweep, 20461⟩ ∧ getItem item (burst (has loan)) = some (rec loan) ∧
      nextRecord (burst online) ((burst online).day.pos.getD .first) = none ∧
      (burst online).day.restart = false := by decide +kernel

theorem witness_TrapUntrapAndAllocate :
    (∀ st ∈ [loan, .onShelf, lost],
      itemEntry (.trap item) st ∧ itemEntry (.untrap item) st ∧ itemEntry (.allocate item title other 12) st ∧
        itemEntry (.allocate item (title + 1) other 12) st) ∧
      heldEntry (withEntry (.allocate item title other 12) online) =
        some (⟨0, .inbound, .allocate item title other 12, 0, .applying⟩, 20461) ∧
      getItem item (withEntry (.allocate item title other 12) online) = none := by
  decide +kernel

theorem witness_RedirectAndReleasePlaceTheCopy :
    (∀ st ∈ [.awaitRoute, going, held, pull, .onShelf, loan, lost],
      itemEntry (.redirect item other 5) st ∧ itemEntry (.redirect item other 12) st ∧
        itemEntry (.release item) st) ∧
      ∀ d ∈ [.trap item, .untrap item, .redirect item other 12, .release item, .allocate item title other 12],
        heldEntry (withEntry d online) = some (⟨0, .inbound, d, 0, .applying⟩, 20461) ∧
          (withEntry d online).tablesOk ∧ getItem item (withEntry d online) = none ∧
          getItem item (withEntry d (putItemRaw item { rec held with quarantined := true } online)) =
            some { rec held with quarantined := true } := by
  decide +kernel

/-! ### Titles -/

def onShelf2 : Title := two .shelf .shelf []
def waits : Title := two (.loan 20450 true) .lost [hold other .waiting]
def given : Title := two (.away (some other)) .lost [hold other (.allocated item), hold patron .waiting]
def given1 : Title := two (.away (some other)) .lost [hold other (.allocated item)]
def given2 : Title := two (.away none) (.away (some other)) [hold other (.allocated (item + 1)), hold patron .waiting]

/-- Copies are distinct, and the settle has work: a waiting entry with a copy on the shelf. -/
theorem witness_SettleLeavesTheTitleBalanced :
    ((two .shelf (.loan 20450 false) [hold other .waiting]).copies.map CopyRef.item).Nodup ∧
      (settle title (two .shelf (.loan 20450 false) [hold other .waiting])).2 = [.allocate item title other 12] := by
  decide +kernel

/-- A title of an earlier day, without and with an expired entry; with 4 free places, and with 5 and 93 entries. -/
theorem witness_TouchRemovesExpiredHoldsFirst :
    let old : Title := { waits with currentTo := 20500 }
    Title.expired old 20520 = none ∧ Title.expired old 20521 = some (hold other .waiting) ∧
      (OwnerOp.holdAdd title patron 5).target = (.title, title) ∧
      viewOf titleB (crowded 92 (hasTitle old)) = .home ∧ freePlaces (crowded 92 (hasTitle old)) = 4 ∧
      freePlaces (crowded 90 (hasTitle old)) = 6 ∧ getTitle title (crowded 92 (hasTitle old)) = some old ∧
      old.checks = true := by decide +kernel

theorem witness_TitlesAreMadeReadAndRemoved :
    granted (.titleCreate title true) .line 20461 (withOp (.titleCreate title true) online) ∧
      granted (.titleCreate title true) .line 20461 (withOp (.titleCreate title true) (hasTitle waits)) ∧
      titleCase (.titleDelete title) ⟨true, [], [], 20461, false, .agrees⟩ ∧
      titleCase (.titleDelete title) waits ∧
      granted (.titleDelete title) .line 20461
        (withOp (.titleDelete title) (putTitleRaw title { waits with quarantined := true } online)) ∧
      titleCase (.titleRead title none) given ∧ titleCase (.titleRead title (some other)) given ∧
      titleCase (.titleRead title (some patron)) given ∧ given.entryOf patron = some (hold patron .waiting) ∧
      titleCase (.titleRead title (some 1)) given ∧
      heldOp (setView titleB (.lending 9) (withOp (.titleRead title none) (hasTitle given))) =
        some ⟨.titleRead title none, .line, 20461⟩ := by
  decide +kernel

/-- The refusals of COPY_ADD and HOLD_ADD one by one: no record, the copy there, 16 copies; not holdable, every copy
lost, the patron there, 32 entries; and a title that takes them. -/
theorem witness_CopyAddAndHoldAdd :
    granted (.copyAdd title 7) .line 20461 (withOp (.copyAdd title 7) online) ∧
      titleCase (.copyAdd title item) waits ∧ titleCase (.copyAdd title 7) waits ∧
      (waits.copies.map CopyRef.item).Pairwise (· < ·) ∧
      titleCase (.copyAdd title 99)
        ⟨true, (List.range 16).map fun k => ⟨k, .shelf, .agrees⟩, [], 20461, false, .agrees⟩ ∧
      titleCase (.holdAdd title patron 5) { waits with holdable := false } ∧
      titleCase (.holdAdd title patron 5) (two .lost .lost []) ∧ titleCase (.holdAdd title other 5) waits ∧
      titleCase (.holdAdd title patron 5)
        (two .shelf .shelf ((List.range 32).map fun k => hold k .waiting)) ∧
      titleCase (.holdAdd title patron 5) onShelf2 ∧ titleCase (.holdAdd title patron 5) waits := by
  and_intros <;> decide +kernel

theorem witness_HoldDropReassignsTheCopy :
    titleCase (.holdDrop title 1) given ∧ titleCase (.holdDrop title patron) given ∧
      titleCase (.holdDrop title other) given ∧ titleCase (.holdDrop title other) given1 ∧
      given.entryOf 1 = none ∧ given.entryOf patron = some (hold patron .waiting) ∧
      given.entryOf other = some (hold other (.allocated item)) ∧
      (given1.dropEntry other).oldestWaiting = none ∧
      (given.dropEntry other).oldestWaiting = some (hold patron .waiting) := by
  decide +kernel

theorem witness_CopyStateMovesTheView :
    ∀ rep ∈ [.shelf, .lost, .loan 20468, .away],
      titleEntry (.copyState title item rep false) given ∧ titleEntry (.copyState title item rep true) given ∧
        titleEntry (.copyState title 9 rep false) given := by
  decide +kernel

theorem witness_CopyFreeAndHoldFilled :
    heldEntry (withEntry (.copyFree title item 12) online) =
        some (⟨0, .inbound, .copyFree title item 12, 0, .applying⟩, 20461) ∧
      titleEntry (.copyFree title 9 12) waits ∧ titleEntry (.copyFree title item 12) waits ∧
      titleEntry (.copyFree title item 12) (two (.loan 20450 false) .lost []) ∧
      titleEntry (.holdFilled title 1 item) given ∧ titleEntry (.holdFilled title patron item) given ∧
      titleEntry (.holdFilled title other item) given ∧ titleEntry (.holdFilled title other item) given2 ∧
      titleEntry (.holdFilled title other 9) given1 := by
  and_intros <;> decide +kernel

theorem witness_PickupLapsedAndCopyRemove :
    heldEntry (withEntry (.pickupLapsed title other item) online) =
        some (⟨0, .inbound, .pickupLapsed title other item, 0, .applying⟩, 20461) ∧
      titleEntry (.pickupLapsed title other item) given ∧ titleEntry (.pickupLapsed title other item) given1 ∧
      titleEntry (.pickupLapsed title patron item) given ∧
      titleEntry (.pickupLapsed title patron item) (two (.away none) .lost []) ∧
      titleEntry (.copyRemove title item) given ∧ titleEntry (.copyRemove title 9) given ∧
      titleEntry (.copyRemove title item) onShelf2 := by
  decide +kernel

/-! ### Patrons -/

/-- A full patron pool: its 4,096 places are reserved for a handover. -/
def fullPatrons (s : State) : State :=
  { s with hand := .receiving ⟨.receiving, 9, ⟨.patron, 1⟩, 1, ⟨4096, 0, 0⟩, 0, 0⟩ }

theorem witness_PatronRecordsAndPayments :
    granted (.patronCreate patron 3 65535) .line 20461 (withOp (.patronCreate patron 3 65535) online) ∧
      patronCase (.patronCreate patron 3 65535) (acct 0 0) ∧
      freePatrons (withOp (.patronCreate patron 0 1) (fullPatrons online)) = 0 ∧
      patronCase (.patronSet patron (some 0) none) (acct 5 1) ∧ patronCase (.patronDelete patron) (acct 0 0) ∧
      patronCase (.patronDelete patron) (acct 1 0) ∧ patronCase (.patronDelete patron) (acct 0 1) ∧
      granted (.patronDelete patron) .line 20461
        (withOp (.patronDelete patron) (putPatronRaw patron { acct 5 1 with quarantined := true } online)) ∧
      patronCase (.pay patron 0) { acct 500000 1 with saturated := true } ∧
      patronCase (.pay patron 500000) { acct 500000 1 with saturated := true } ∧
      patronCase (.accountRead patron) (acct 5 1) ∧
      heldOp (setView patronB (.lending 9) (withOp (.accountRead patron) (hasPatron (acct 5 1)))) =
        some ⟨.accountRead patron, .line, 20461⟩ := by
  and_intros <;> decide +kernel

/-- A card that expires on the event day, one a day later; a balance of 5,000 and of 4,999; counts at 254 and 255. -/
theorem witness_StandingDecisions :
    (∀ o ∈ [.standing patron, .loanOpen patron, .holdOpen patron],
      patronCase o { acct 0 0 with cardExpiry := 20461 } ∧ patronCase o { acct 4999 254 with cardExpiry := 20462 } ∧
        patronCase o (acct 5000 0) ∧ patronCase o { acct 0 255 with holds := 255 }) ∧
      (online.conf.categoryTable.getD []).getD 1 [] = [test0] ∧
      ∀ u ∈ [Purpose.lend, .renew, .reserve],
        test0.trueOf u (acct 5000 0) ∧ ¬ test0.trueOf u (acct 4999 254) := by
  refine ⟨by decide +kernel, by decide +kernel, ?_⟩
  intro u hu
  simp only [List.mem_cons, List.not_mem_nil, or_false] at hu
  obtain rfl | rfl | rfl := hu <;> simp [StandingTest.trueOf, test0, acct]

theorem witness_PatronDispatchesChangeTheAccount :
    ∀ d ∈ [.charge patron 1 item .overdue, .credit patron 1 item, .loanClose patron,
        .holdEnded patron title .expired],
      heldEntry (withEntry d (hasPatron (acct 500000 0))) =
          some (⟨0, .inbound, d, 0, .applying⟩, 20461) ∧
        patronAt patron (acct 500000 0) (withEntry d (hasPatron (acct 500000 0))) ∧
        patronAt patron (acct 0 1) (withEntry d (hasPatron (acct 0 1))) ∧
        getPatron patron (withEntry d online) = none ∧
        getPatron patron (withEntry d (putPatronRaw patron { acct 0 1 with quarantined := true } online)) =
          some { acct 0 1 with quarantined := true } := by decide +kernel

/-- The due day's three cases at their edges: a sum of 65,535 and of 65,536, the last of the fifteen days open, and
all fifteen closed. -/
theorem witness_FineAndDueDay :
    65535 < 65529 + 7 ∧ 65528 + 7 ≤ 65535 ∧ isOpen county (20468 + 0) = true ∧
      isOpen ⟨0, 64, [1, 2, 3, 4, 5, 7, 8, 9, 10, 11, 12, 14]⟩ 15 = true ∧
      (∀ j ∈ List.range 14, isOpen ⟨0, 64, [1, 2, 3, 4, 5, 7, 8, 9, 10, 11, 12, 14]⟩ (1 + j) = false) ∧
      ∀ j ∈ List.range 15, isOpen ⟨0, 127, []⟩ (1 + j) = false := by decide

/-! ### Start reset, configuration and join -/

/-- The store is initialised and the erase flag clear. -/
def kept : State :=
  { configured with
    conf := { conf5 with eraseFlag := some false }, store := { configured.store with stamp := true } }

theorem witness_StartResetKeepsWholeUnits :
    heldOp (withOp (.lendItem item other 20500 12) (has held)) =
        some ⟨.lendItem item other 20500 12, .line, 20461⟩ ∧
      configured.station = .configured ∧ joinErases configured = true ∧ 1 ≤ 1 ∧ 4 < 5 ∧ 5 ≤ 5 := by
  decide +kernel

/-- A raw test that is taken, its value clamped, and two that are refused. -/
def rawTest : RawTest := ⟨7, 0, 5, 500001⟩
def badQuantity : RawTest := ⟨7, 3, 5, 0⟩
def badRelation : RawTest := ⟨7, 2, 6, 0⟩

/-- The pieces at the edges of their ranges: rate codes 3 and 4, weekdays 6 and 7, closed days in order up to the third
of them, 64 and 65 of them, days 65,535 and 65,536, quantity codes 2 and 3, relation codes 5 and 6, views 33 and 34. -/
theorem witness_ConfigureTakesPieces :
    State.reset.port.exchange = none ∧ State.reset.station = .unconfigured ∧ configured.station = .configured ∧
      online.station = .online ∧ 31 < 32 ∧ 32 ≤ 32 ∧ (List.replicate 8 class2).length = 8 ∧
      [LineRate.r125, .r250, .r500, .r1000][3]? = some .r1000 ∧ 6 ≤ 6 ∧ 6 < 7 ∧ 127 < 128 ∧
      (List.range 64).length ≤ 64 ∧ (List.range 64).Pairwise (· < ·) ∧ 64 < (List.range 65).length ∧
      (∀ d ∈ [1, 65535], d ≤ 65535) ∧ ([1, 65535] : List Nat).Pairwise (· < ·) ∧ 65536 ∈ [1, 65536] ∧ 65535 < 65536 ∧
      65535 ≤ 65535 ∧
      (([1, 5, 5] : List Nat).take 2).Pairwise (· < ·) ∧ ¬ (([1, 5, 5] : List Nat).take 3).Pairwise (· < ·) ∧
      testTakenAs rawTest ⟨true, true, true, .balance, .ge, 500000⟩ ∧ 500000 < rawTest.value ∧
      3 ≤ badQuantity.quantity ∧ badRelation.quantity < 3 ∧ 6 ≤ badRelation.relation ∧
      (List.replicate 5 rawTest).length = 5 ∧ (∀ v ∈ List.replicate 255 33, v ≤ 33) ∧
      (List.replicate 255 33 ++ [34])[255]? = some 34 ∧ (List.replicate 255 33 ++ [34]).length = 256 := by
  unfold testTakenAs; and_intros <;> decide +kernel

/-- The rows of a category table are taken test by test. -/
theorem witness_ConfigureTakesPieces_rows :
    List.Forall₂ (List.Forall₂ testTakenAs) [[rawTest], [], [], []]
      [[⟨true, true, true, .balance, .ge, 500000⟩], [], [], []] :=
  .cons (.cons ⟨by decide, by decide, by decide, by decide, by decide, by decide⟩ .nil)
    (.cons .nil (.cons .nil (.cons .nil .nil)))

theorem witness_JoinStartsFromTheConfiguration :
    (∀ s ∈ [configured, kept],
      s.port.exchange = none ∧ s.station = .configured ∧ s.hand = .idle ∧ s.tablesOk ∧ s.conf.inRange = true) ∧
      joinErases configured = true ∧ joinErases kept = false ∧ State.reset.station = .unconfigured ∧
      online.station = .online := by decide +kernel

/-- Each view of a block before the pass, a record of it in the store, and a dispatch taken for it. -/
theorem witness_JoinStartsFromTheConfiguration_pass :
    ∀ v ∈ [View.home, .lending 9, .receiving 9, .probing, .foreign 9, .foreign 5, .unknown],
      let s := setView itemB v
        { kept with
          store := { kept.store with items := [(item, rec .onShelf)] }
          queue := ⟨[⟨0, .inbound, .trap item, 0, .queued⟩], 1⟩ }
      s.station = .configured ∧ s.hand = .idle ∧ s.tablesOk ∧ s.conf.inRange = true ∧ joinErases s = false ∧
        viewOf itemB s = v ∧
        recordsOf itemB s = [item] ∧ item < 16777216 ∧ s.store.titles = [] ∧ s.store.patrons = [] ∧
        (run (.join 0 .whole) s).map (fun t => (t.station, t.queue.entries)) =
          some (match v with
            | .foreign 9 | .receiving _ => (.online, [⟨0, .inbound, .trap item, 0, .queued⟩])
            | _ => (.joining, [⟨0, .outbound, .trap item, 0, .queued⟩])) := by
  decide +kernel

/-- A join that probes the first of two PROBING blocks, a title's before a patron's. -/
theorem witness_JoinStartsFromTheConfiguration_probe :
    let s := setView titleB .home (setView patronB (.lending 9) kept)
    s.station = .configured ∧ s.tablesOk ∧ titleB.num < 256 ∧
      (run (.join 0 .whole) s).map (fun t => (t.station, t.map.views, t.map.probe)) =
        some (.joining, [(titleB.key, .probing), (patronB.key, .probing)], some ⟨titleB, false⟩) ∧
      (run (.join 0 .whole) s).map (fun t => t.line.sendq.map fun j => j.frame) =
        some [⟨5, .all, .census titleB⟩] := by decide +kernel

/-- A dispatch for a block, in a phase, and the state that holds it before a join. -/
def waitingTrap (ph : EntryPhase) : Entry := ⟨0, .outbound, .trap item, 3, ph⟩
def keptWith (v : View) : State := setView itemB v { kept with queue := ⟨[waitingTrap .queued], 1⟩ }

/-- A join that finds no block to probe: the sweep has the grant. -/
theorem witness_JoinStartsFromTheConfiguration_online :
    (∀ v ∈ [View.foreign 9, .unknown],
      joinErases (keptWith v) = false ∧ (keptWith v).queue.entries = [waitingTrap .queued]) ∧
      (∀ v ∈ [View.foreign 9, .unknown],
        (run (.join 0 .whole) (keptWith v)).map (fun t => (t.station, t.map.probe, t.day.pos, t.arb.held)) =
          some (.online, none, some (.item 0), some ⟨.sweep, 20461⟩)) ∧
      (waitingTrap .queued).disp.block = some itemB ∧ kept.HandoverKept :=
  ⟨by decide +kernel, by decide +kernel, rfl, fun _ h => (nomatch h), fun _ _ _ h => (nomatch h),
    fun _ h => (nomatch h), fun _ h => (nomatch h), fun _ _ => by decide +kernel⟩

/-- R201: the dispatch engine walks the queue behind the DAY frame: an entry of a block FOREIGN is sent, one of a block
UNKNOWN asks a census. -/
theorem test_join_walks_the_queue :
    ∀ p ∈ [(View.foreign 9, Body.dispatch (.trap item), EntryPhase.inFlight 9), (.unknown, .census itemB, .census)],
      (run (.join 0 .whole) (keptWith p.1)).map (fun t => t.line.sendq.map fun j => j.frame.body) =
          some [.day 20461, p.2.1] ∧
        (run (.join 0 .whole) (keptWith p.1)).map (fun t => t.queue.entries) = some [waitingTrap p.2.2] := by
  decide +kernel

/-! ### The kiosk port -/

theorem witness_PortCommandsOfEveryState :
    ∀ s ∈ [State.reset, configured, online], s.port.exchange = none ∧ s.attentionOk := by decide +kernel

/-- An ANSWERED context, and its answer at the head of the order. -/
def answered : Answer :=
  ⟨3, .checkIn item, .done, none, 1, 0, 0, 0, .nothing, .nothing⟩

theorem witness_ReadsReturnTheHead :
    let s : State := { online with
      ctxs := online.ctxs.set 7 ⟨255, .answered answered⟩
      port := { online.port with answers := [7], notices := [.day 2 1] } }
    s.port.exchange = none ∧ s.port.answers = 7 :: [] ∧ getCtx 7 s = some ⟨255, .answered answered⟩ ∧
      7 ∉ ([] : List Nat) ∧ s.port.notices = .day 2 1 :: [] ∧ online.port.answers = [] ∧
      online.port.notices = [] := by decide +kernel

/-- No FREE context. -/
def busy : State := { online with ctxs := List.replicate 8 ⟨0, .answered answered⟩ }

theorem witness_PortRefusesInOrder :
    online.port.exchange = none ∧ online.station = .online ∧ freeCtx busy = none ∧ busy.station = .online ∧
      configured.station ≠ .online ∧ online.conf.stationNumber ≠ some 31 ∧
      online.conf.stationNumber = some 5 ∧ (31 < 32 ∧ 32 ≤ 32) ∧ (2 < 3 ∧ 3 ≤ 3) ∧
      (65535 ≤ 65535 ∧ 65535 < 65536) ∧
      (500000 ≤ 500000 ∧ 500000 < 500001) ∧ (1 < 2 ∧ 2 ≤ 2) ∧ (3 < 4 ∧ 4 ≤ 4) ∧ (7 < 8 ∧ 8 ≤ 8) := by
  and_intros <;> decide +kernel

/-- The lowest FREE context is the last one; HAND_OVER of a block that is HOME, of one that is not, with a handover in
flight, and without room. -/
theorem witness_RequestsTakeTheLowestContext :
    freeCtx { busy with ctxs := busy.ctxs.set 7 ⟨255, .free⟩ } = some 7 ∧ freeCtx online = some 0 ∧
      viewOf itemB online = .home ∧ online.hand = .idle ∧ 0 < freePlaces (crowded 95 online) ∧
      freePlaces (crowded 96 online) = 0 ∧ viewOf ⟨.item, 255⟩ online ≠ .home ∧
      (fullItems online).hand ≠ .idle ∧ online.conf.stationNumber ≠ some 31 ∧
      takenFor itemB online = false ∧ streamAsked .freeze online = false ∧ 3 < 4 ∧ 65535 ≤ 65535 := by decide +kernel

theorem witness_AdvanceDayAdoptsALaterDay :
    online.port.exchange = none ∧ online.station = .online ∧ online.day.county < 20462 ∧
      20461 ≤ online.day.county ∧ 65535 ≤ 65535 ∧ burstHeld online = false ∧ burstHeld (burst online) = true := by
  decide +kernel

/-! ### Transactions -/

/-- A LEND's context at its grant, at step 1, and at step 2 with its compensation entry. -/
def lend1 : Run := runOf (.lend patron item) 1 .local_ false
def lend2 : Run := runOf (.lend patron item) 2 .local_ true

theorem witness_AnswersMoveTheTransaction :
    (withRun lend1 online).arb.held = some ⟨.kiosk 0, 20461⟩ ∧
      getCtx 0 (withRun lend1 online) = some ⟨7, .running lend1⟩ ∧
      getCtx 0 (withRun lend2 online) = some ⟨7, .running lend2⟩ ∧ lend2.step ≠ 1 ∧ lend2.comp = true ∧
      getRun 0 (withRun lend1 online) = some lend1 ∧ lend1.step = 1 ∧ lend1.request.steps = 2 ∧
      ({ lend1 with step := 2, gathered := .loanOpened 20500 0 1 } : Run).op 5 =
        some (.lendItem item patron 20500 5) ∧
      lend1.request.compensation ≠ none ∧ freePlaces (crowded 96 (withRun lend1 online)) = 0 ∧
      freePlaces (crowded 95 (withRun lend1 online)) = 1 ∧
      (runOf (.renew patron item) 1 .local_ false).request.compensation = none := by
  and_intros <;> decide +kernel

/-- A step of an operation for a block that is HOME, of one that is FOREIGN, and the edges of the counters. -/
theorem witness_DeferredMovedAndNotOwner :
    let far (n d : Nat) : State := withRun { lend1 with deferrals := n, redirects := d }
      (setView patronB (.foreign 17) online)
    (far 38 0).arb.held = some ⟨.kiosk 0, 20461⟩ ∧ (getRun 0 (far 38 0)).map Run.deferrals = some 38 ∧
      (getRun 0 (far 39 1)).map Run.deferrals = some 39 ∧ lend1.op (stationNo (far 38 0)) = some (.loanOpen patron) ∧
      viewOf (OwnerOp.loanOpen patron).block (far 38 0) = .foreign 17 ∧ 5 = stationNo (far 38 0) ∧
      17 ≠ stationNo (far 38 0) ∧ (getRun 0 (far 0 1)).map Run.redirects = some 1 := by decide +kernel

theorem witness_AnswersToReqsLeaveAsAns :
    (withOp (.standing patron) online).arb.held = some ⟨.line (.req 0), 20461⟩ ∧
      getSlot 0 (withOp (.standing patron) online) =
        .processing 0 ⟨12, .station 5, .req ⟨0, 7, 1⟩ (.op (.standing patron))⟩ true := by decide +kernel

/-- The giver of block 64 to station 9, in a phase. -/
def giving (ph : GivePhase) : Giving := ⟨ph, 9, itemB, 4, ⟨1, 0, 0⟩, 1, 0, 0, []⟩

/-- The giver's state, with its context. -/
def gives (ph : GivePhase) (s : State) : State :=
  { s with
    hand := .giving (giving ph)
    ctxs := s.ctxs.set 0 ⟨7, .running (runOf (.handOver itemB 9) 1 .awaiting false)⟩ }

theorem witness_AnswerLimitAndDeferralWait :
    getRun 0 (withRun (runOf (.lend patron item) 1 .awaiting false) online) =
        some (runOf (.lend patron item) 1 .awaiting false) ∧
      getRun 0 (gives .offering online) = some (runOf (.handOver itemB 9) 1 .awaiting false) ∧
      (gives .offering online).hand = .giving (giving .offering) ∧ (giving .offering).ctx = 0 ∧
      getRun 0 (withRun { runOf (.lend patron item) 2 .deferring false with deferrals := 38 } (crowded 95 online)) =
        some { runOf (.lend patron item) 2 .deferring false with deferrals := 38 } ∧
      0 < freePlaces (withRun (runOf (.lend patron item) 2 .deferring false) (crowded 95 online)) ∧
      (runOf (.lend patron item) 2 .deferring false).op 5 = some (.lendItem item patron 0 5) := by decide +kernel

/-! ### The line -/

/-- A REQ of station 12, and an ANS to context 0. -/
def req12 : Frame := ⟨12, .station 5, .req ⟨0, 7, 1⟩ (.op (.standing patron))⟩
def ansTo (a : StepAnswer) : Frame := ⟨17, .station 5, .ans ⟨⟨0, 7, 1⟩, .loanOpen, patron, 0, 0, a⟩⟩

/-- A send queue with `n` ANS frames. -/
def anses (n : Nat) (s : State) : State :=
  { s with
    line := { s.line with
      sendq := (List.range n).map fun k => ⟨k, ansTo .deferred, 1, 0, 0, .ownerEngine⟩, nextId := n } }

/-- A place is free and nothing waits; a context's step waits for a place it could use; no place is free. -/
theorem witness_ReqAndAnsAreTakenFromTheSlots_place :
    (withFull req12 online).ansPlaceFor 0 ∧
      (let s := withFull req12 { online with line := { online.line with waiters := [.context 0 17] } }
       ¬ s.ansPlaceFor 0 ∧ ¬ (withFull req12 (anses 23 online)).ansPlaceFor 0) := by
  refine ⟨⟨by decide, fun l w r h => ?_⟩, fun h => ?_, fun h => ?_⟩
  · cases l <;> cases h
  · exact absurd (h.2 [] (.context 0 17) [] rfl (by decide)) (by decide)
  · exact absurd h.1 (by decide)

theorem witness_ReqAndAnsAreTakenFromTheSlots :
    headSlot (withFull req12 online) = some (0, 0, req12) ∧ (withFull req12 online).line.roomForAns = true ∧
      (withFull req12 (anses 22 online)).line.roomForAns = true ∧
      (withFull req12 (anses 23 online)).line.roomForAns = false ∧
      headSlot (withFull (ansTo .deferred) online) = some (0, 0, ansTo .deferred) ∧
      (runOf (.lend patron item) 1 .awaiting false).awaits 5 = some (.loanOpen, patron, 0, 0) ∧
      getCtx 0 (withRun (runOf (.lend patron item) 1 .awaiting false) online) =
        some ⟨7, .running (runOf (.lend patron item) 1 .awaiting false)⟩ := by decide +kernel

/-- A refusal of LEND_ITEM that comes late: no context waits for it. -/
def lateAns (a : StepAnswer) : Ans := ⟨⟨0, 7, 2⟩, .lendItem, patron, item, 0, a⟩
def lateFrame (a : StepAnswer) : Frame := ⟨9, .station 5, .ans (lateAns a)⟩

/-- A late refusal in its slot, with `k` entries of the dispatch queue taken and one application that waits. -/
def lateBehind (k : Nat) (p : SweepState) : State :=
  { online with
    queue := ⟨(crowded k online).queue.entries ++ [⟨k + 1, .outbound, .loanClose patron, 0, .awaitRoom⟩], k + 2⟩
    day := { online.day with sweep := p }
    line := { online.line with
      slots := [.processing 0 (lateFrame (.refused .wrongState .nothing)) false, .free] } }

/-- With one application waiting: 2 places free, 5 with a PAUSED sweep, and 6. -/
theorem witness_LateAnswersAreCompensated_room :
    (∀ k ∈ [93, 90, 89], waitingLate (lateBehind k .paused) =
      some (0, 0, lateFrame (.refused .wrongState .nothing))) ∧
      ((lateBehind 93 .idle).queue.entries.filter fun e => e.phase == .awaitRoom).length = 1 ∧
      freePlaces (lateBehind 93 .idle) = 2 ∧ freePlaces (lateBehind 90 .paused) = 5 ∧
      freePlaces (lateBehind 89 .paused) = 6 := by decide +kernel

theorem witness_LateAnswersAreCompensated :
    (∀ a ∈ [.refused .wrongState .nothing, .done .nothing, .deferred, .movedTo 3, .notOwner],
      headSlot (withFull (lateFrame a) online) = some (0, 0, lateFrame a) ∧ (lateAns a).isExchange = false) ∧
      getCtx 0 online = some ⟨0, .free⟩ ∧
      waitingLate { online with line := { online.line with
        slots := [.processing 0 (lateFrame (.refused .wrongState .nothing)) false, .free] } } =
        some (0, 0, lateFrame (.refused .wrongState .nothing)) ∧
      freePlaces (crowded 96 online) = 0 ∧ freePlaces (crowded 95 online) = 1 := by
  decide +kernel

/-! ### The dispatch queue -/

/-- One entry in a phase. -/
def one (d : Dispatch) (f : Nat) (ph : EntryPhase) (s : State) : State :=
  { s with queue := ⟨[⟨0, .outbound, d, f, ph⟩], 1⟩ }

theorem witness_RetryTickKeepsBlockDispatches :
    online.station = .online ∧ ((one (.trap item) 4 .waitTick online).queue.entries.map Entry.id).Nodup ∧
      (Dispatch.trap item).block ≠ none ∧ (Dispatch.kioskNote 9 item .shelve none).block = none ∧
      (∀ n ∈ [0, 3, 4], (one (.trap item) n .queued online).queue.entries = [⟨0, .outbound, .trap item, n, .queued⟩]) ∧
      (∀ v ∈ [View.home, .lending 9, .receiving 9, .probing, .foreign 9, .unknown],
        viewOf itemB (setView itemB v online) = v) := by decide +kernel

theorem witness_DispatchPlacesAreGivenInOrder :
    ((one (.trap item) 0 .awaitRoom online).queue.entries.map Entry.id).Nodup ∧
      freePlaces (crowded 94 online) = 2 ∧ freePlaces (crowded 95 online) = 1 ∧ freePlaces (crowded 93 online) = 3 ∧
      (∀ e ∈ (crowded 93 online).queue.entries, e.phase ≠ .awaitRoom) ∧
      heldEntry { one (.trap item) 0 .applying online with
        arb := { online.arb with held := some ⟨.line (.entry 0), 20461⟩ } } =
        some (⟨0, .outbound, .trap item, 0, .applying⟩, 20461) ∧
      viewOf itemB online = .home ∧ viewOf itemB (setView itemB (.foreign 9) online) ≠ .home := by
  and_intros <;> decide +kernel

/-- A send queue with a REQ behind a STREAM; a rival of the field 70 and one of 68, beside 69. -/
theorem witness_ContentionPicksTheHead :
    let i : SendItem := ⟨1, req12, 2, 0, 0, .context 0⟩
    let s : State := { online with
      line := { online.line with
        sendq := [⟨0, ⟨5, .station 9, .stream itemB 4 none none⟩, 3, 0, 0, .handover⟩, i], nextId := 2 } }
    sendHead s.line.sendq = some i ∧ s.line.turn = none ∧ s.line.window = none ∧ s.line.acc = none ∧
      s.station = .online ∧ i.cls * 32 + stationNo s < 70 ∧ 68 ≤ i.cls * 32 + stationNo s := by decide +kernel

/-- A REQ to another station. -/
def req9 : Frame := ⟨12, .station 9, .req ⟨0, 7, 1⟩ (.op (.standing patron))⟩

/-- A DAY frame of station 3 as octets; the same with a damaged check; a DISPATCH that is not taken. -/
theorem witness_AcceptedFramesFillTheSlots :
    let day : Frame := ⟨3, .all, .day 20492⟩
    let trapF : Frame := ⟨9, .station 5, .dispatch (.trap item)⟩
    namesHere (encodeFrame day) online = true ∧ decodeFrame (encodeFrame day) = some day ∧
      decodeFrame ((encodeFrame day).dropLast ++ [0]) = none ∧
      namesHere ((encodeFrame day).dropLast ++ [0]) online = true ∧
      decodeFrame (encodeFrame trapF) = some trapF ∧ freePlaces (crowded 94 online) < 3 ∧
      3 ≤ freePlaces (crowded 93 online) ∧ freeSlotNo online = some 0 ∧
      freeSlotNo { online with line := { online.line with slots := [.full 0 day, .full 1 day] } } = none ∧
      online.line.turn = none ∧ online.line.window = none ∧ online.line.acc = none ∧ 1 < online.line.slots.length ∧
      namesHere (encodeFrame req9) online = false := by
  and_intros <;> decide +kernel

/-- The receiver of block 64 from station 9. -/
def receiving (ph : ReceivePhase) : Receiving := ⟨ph, 9, itemB, 4, ⟨1, 1, 1⟩, 2, title⟩

/-- The receiver's state. -/
def receives (ph : ReceivePhase) (s : State) : State :=
  setView itemB (.receiving 9) { s with hand := .receiving (receiving ph) }

/-- ONLINE and with no INBOUND entry and no frame in acceptance, the handover engine agrees with the views when its
phase does. -/
theorem handoverKept_of {s : State} (on : s.station = .online) (acc : s.line.acc = none)
    (outs : ∀ e ∈ s.queue.entries, e.dir = .outbound)
    (giving : ∀ g, s.hand = .giving g →
      (∀ l, g.phase = .draining l → viewOf g.b s = .home) ∧
      ((∀ l, g.phase ≠ .draining l) → g.phase ≠ .freeing → viewOf g.b s = .lending g.receiver))
    (receiving : ∀ r, s.hand = .receiving r →
      (r.phase = .receiving → viewOf r.b s = .receiving r.giver) ∧ (r.phase ≠ .receiving → viewOf r.b s = .home)) :
    s.HandoverKept :=
  ⟨fun e he h => by simp [outs e he] at h, fun _ _ _ h => by simp [acc] at h, giving, receiving,
    fun _ h => absurd on h⟩

/-- A frame of station 9 in acceptance, the other slot holding `sl`. -/
def accepts (b : Body) (sl : Slot) (s : State) : State :=
  { s with line := { s.line with acc := some ⟨⟨9, .station 5, b⟩, some 0, false⟩, slots := [.reserved, sl] } }

/-- Each kind in acceptance: a dispatch, a note, an ABANDON of the handover and of another, a STREAM with and without
LAST, before a free slot and behind a REQ in processing, with and without room for its decision, a CENSUS and a MOVED; a
CLEAR queued by the clear guard; a refuse line to release. -/
theorem witness_AcceptedFramesFillTheSlots_commit :
    (∀ b ∈ [Body.dispatch (.trap item), .dispatch (.kioskNote 5 item .shelve none), .dispatch (.abandon 5 itemB 4),
        .dispatch (.abandon 5 itemB 5), .stream itemB 4 none none, .stream itemB 4 (some 2) none, .census itemB,
        .moved itemB 3],
      (accepts b .free (receives .receiving online)).line.acc = some ⟨⟨9, .station 5, b⟩, some 0, false⟩ ∧
        0 < (accepts b .free (receives .receiving online)).line.slots.length ∧
        (accepts b .free (receives .receiving online)).line.sendq = [] ∧
        getSlot 0 (accepts b .free (receives .receiving online)) = .reserved ∧
        getSlot 1 (accepts b .free (receives .receiving online)) = .free) ∧
      (receives .receiving online).hand = .receiving (receiving .receiving) ∧
      (accepts (.census itemB) (.processing 0 req12 true) online).line.slots.any Slot.busy = true ∧
      (accepts (.stream itemB 4 (some 2) none) .free online).line.roomForAns = true ∧ online.line.waiters = [] ∧
      (accepts (.stream itemB 4 (some 2) none) .free (anses 23 online)).line.roomForAns = false ∧
      ((run .clearGuard (accepts (.moved itemB 3) .free online)).map fun t => t.line.sendq.map fun j => j.frame.body) =
        some [.clear 9] ∧
      ((run (.frameAcceptance [0, 9, 5] false) online).map fun t => (t.line.refuse, t.line.acc)) =
        some (true, none) := by
  and_intros <;> decide +kernel

/-- The site with a frame of station 3 in acceptance. -/
def accepting : State :=
  { online with line := { online.line with acc := some ⟨⟨3, .all, .day 20492⟩, some 0, false⟩ } }

theorem witness_ClearsEndAStuckFrame :
    (withTurn (.day 20461) .dayUnit 0 false online).line.turn = some ⟨0, false⟩ ∧
      sending (withTurn (.day 20461) .dayUnit 0 false online) =
        some ⟨0, ⟨5, .all, .day 20461⟩, 2, 0, 0, .dayUnit⟩ ∧
      (withTurn (.day 20461) .dayUnit 0 false online).line.window = none ∧
      accepting.line.acc = some ⟨⟨3, .all, .day 20492⟩, some 0, false⟩ ∧ accepting.line.sendq = [] := by
  decide +kernel

/-- A CLEAR ends the acceptance of a DISPATCH for a draining block: the giver asks for its freeze (R129). -/
theorem test_clear_lets_the_freeze_ask :
    (run (.clear 9) (accepts (.dispatch (.trap item)) .free (gives (.draining true) online))).map
      (fun t => t.arb.held) = some (some ⟨.stream .freeze, 20461⟩) := by decide +kernel

/-- A DAY frame below the county day, taken while the own one is being sent: nothing waits for a place, and the next own
frame is queued when that one has left (R55, R132). -/
theorem test_occasion_during_own_day :
    ((run .dayFrame (let s := withTurn (.day 20461) .dayUnit 0 false online
        { s with line := { s.line with slots := [.full 0 ⟨3, .all, .day 20460⟩, .free] } })).bind fun t =>
      (run .frameDelivered t).map fun u => (t.line.waiters, t.day.again, u.day.again, u.line.sendq)) =
      some ([], true, false, [⟨1, ⟨5, .all, .day 20461⟩, 2, 0, 0, .dayUnit⟩]) := by decide +kernel

/-- The turn of a frame, before its first and after its third attempt, cut short by a CLEAR and not. -/
theorem witness_FramesEndDeliveredOrReturned :
    (∀ o ∈ [Owner.context 0, .entry 0, .announcement 0 itemB 9, .ownerEngine, .dayUnit, .census itemB],
      ∀ n ∈ [0, 3],
        sending (withTurn (.moved itemB 9) o n false online) =
            some ⟨0, ⟨5, .all, .moved itemB 9⟩, 2, n, 0, o⟩ ∧
          clearing (withTurn (.moved itemB 9) o n false online) = false ∧
          clearing (withTurn (.moved itemB 9) o n true online) = true) ∧
      sending (withTurn (.census itemB) (.census itemB) 0 false online) =
        some ⟨0, ⟨5, .all, .census itemB⟩, 2, 0, 0, .census itemB⟩ ∧
      (∀ j ∈ (withTurn (.day 20460) .dayUnit 0 false online).line.sendq, j.owner = .dayUnit → j.id = 0) ∧
      getRun 0 (withRun (runOf (.lend patron item) 1 .sending false) online) =
        some (runOf (.lend patron item) 1 .sending false) := by decide +kernel

/-- A census, an announcement and a context's step wait for a place, `n` ANS frames being in the send queue. -/
def waiting3 (n : Nat) : State :=
  let s := anses n (withRun (runOf (.lend patron item) 1 .sending false) online)
  { s with line := { s.line with waiters := [.census itemB, .announcement 0 itemB 9, .context 0 17] } }

/-- Room for all three, for two of them, and for none. -/
theorem witness_FreedSendPlaceGoesToTheFirstWaiting :
    (waiting3 0).line.waiters = .census itemB :: [.announcement 0 itemB 9, .context 0 17] ∧
      (waiting3 0).line.waiters.Nodup ∧ (∀ w ∈ (waiting3 0).line.waiters, (w.frame (waiting3 0)).isSome = true) ∧
      (Waiter.census itemB).frame (waiting3 0) = some (⟨5, .all, .census itemB⟩, .census itemB) ∧
      (waiting3 0).queue.entries = [] ∧ headSlot (waiting3 0) = none ∧ (waiting3 0).sendRoom = 20 ∧
      (waiting3 21).sendRoom = 2 ∧ (waiting3 23).sendRoom = 0 := by decide +kernel

theorem witness_CensusCollectsTheClaims :
    let s (v : View) (w : Window) : State := setView itemB v
      { withTurn (.census itemB) (.census itemB) 0 false online with
        line := { (withTurn (.census itemB) (.census itemB) 0 false online).line with window := some w } }
    (s .unknown ⟨itemB, true, none, none⟩).line.window = some ⟨itemB, true, none, none⟩ ∧
      (sending (s .unknown ⟨itemB, true, some none, none⟩)).isSome = true ∧
      viewOf itemB (s .unknown ⟨itemB, true, some none, none⟩) = .unknown ∧
      viewOf itemB (s (.foreign 9) ⟨itemB, true, some none, none⟩) = .foreign 9 ∧
      (s .unknown ⟨itemB, true, some none, none⟩).hand = .idle ∧
      (s .unknown ⟨itemB, false, some none, some 1⟩).queue.entries = [] ∧
      1 < (s .unknown ⟨itemB, false, some none, some 1⟩).line.slots.length ∧
      ∀ c ∈ [(⟨31, .firm⟩ : Claim)], c.station ≠ stationNo (s .unknown ⟨itemB, true, some none, none⟩) := by
  and_intros <;> decide +kernel

theorem witness_DayFramesRaiseTheDay :
    (∀ d ∈ [20460, 20461, 20462],
      headSlot (withFull ⟨3, .all, .day d⟩ online) = some (0, 0, ⟨3, .all, .day d⟩)) ∧
      online.day.county = 20461 ∧ online.port.notices.length < 32 ∧
      ownDay { withTurn (.day 20461) .dayUnit 0 false online with
        line := { (withTurn (.day 20461) .dayUnit 0 false online).line with turn := none } } =
        some ⟨0, ⟨5, .all, .day 20461⟩, 2, 0, 0, .dayUnit⟩ ∧
      headSlot { withFull ⟨3, .all, .day 20462⟩ (withTurn (.day 20461) .dayUnit 0 false online) with
        line := { (withFull ⟨3, .all, .day 20462⟩ (withTurn (.day 20461) .dayUnit 0 false online)).line with
          turn := none } } = some (0, 0, ⟨3, .all, .day 20462⟩) ∧
      ({ online with day := { online.day with requeueWait := true } } : State).day.requeueWait = true := by
  decide +kernel

theorem witness_MovedFramesAndRetries :
    headSlot (withFull ⟨9, .all, .moved itemB 3⟩ online) = some (0, 0, ⟨9, .all, .moved itemB 3⟩) ∧
      3 ≠ stationNo online ∧ viewOf itemB (setView itemB .probing online) = .probing ∧
      5 = stationNo online ∧ (receives (.confirming true) online).hand = .receiving (receiving (.confirming true)) ∧
      (∀ v ∈ [View.foreign 3, .foreign 9],
        ({ setView itemB v online with map := { (setView itemB v online).map with
          moved := [⟨0, itemB, 3, true⟩] } } : State).map.moved.find? (fun a => a.b == itemB && a.waiting) =
          some ⟨0, itemB, 3, true⟩) ∧
      ({ online with map := { online.map with probe := some ⟨itemB, true⟩ } } : State).map.probe =
        some ⟨itemB, true⟩ := by
  and_intros <;> decide +kernel

/-- A MOVED frame for a block PROBING, LENDING and RECEIVING, the engine in accord with the views. -/
theorem witness_MovedFramesAndRetries_views :
    let f : Frame := ⟨9, .all, .moved itemB 3⟩
    (∀ s ∈ [withFull f (setView itemB .probing online),
        withFull f (setView itemB (.lending 9) (gives .deciding online)),
        withFull f (receives .receiving online)], headSlot s = some (0, 0, f)) ∧
      viewOf itemB (receives .receiving online) = .receiving 9 ∧
      (withFull f (setView itemB .probing online)).HandoverKept ∧
      (withFull f (setView itemB (.lending 9) (gives .deciding online))).HandoverKept := by
  refine ⟨by decide +kernel, by decide +kernel,
    handoverKept_of rfl rfl (fun _ h => nomatch h) (fun _ h => nomatch h) (fun _ h => nomatch h),
    handoverKept_of rfl rfl (fun _ h => nomatch h) (fun g h => ?_) (fun _ h => nomatch h)⟩
  obtain rfl := Handover.giving.inj h
  exact ⟨fun _ h => (nomatch h), fun _ _ => by decide +kernel⟩

/-- A MOVED from the giver that names this station, of the block of the wait and of another. -/
theorem witness_MovedFramesAndRetries_confirming :
    ∀ b ∈ [itemB, titleB],
      let s := withFull ⟨9, .all, .moved b 5⟩ (receives (.confirming true) online)
      headSlot s = some (0, 0, ⟨9, .all, .moved b 5⟩) ∧ stationNo s = 5 ∧ itemB ≠ titleB ∧
        s.hand = .receiving (receiving (.confirming true)) ∧ (receiving (.confirming true)).giver = 9 ∧
        (receiving (.confirming true)).b = itemB := by decide +kernel

/-! ### The handover -/

/-- Stream work at its grant. -/
def withStream (w : StreamWork) (s : State) : State :=
  { s with arb := { s.arb with held := some ⟨.stream w, s.day.county⟩ } }

theorem witness_FreezeLendsTheBlock :
    (withStream .freeze (gives (.draining true) online)).hand = .giving (giving (.draining true)) ∧
      getRun 0 (withStream .freeze (gives (.draining true) online)) =
        some (runOf (.handOver itemB 9) 1 .awaiting false) ∧
      (runOf (.handOver itemB 9) 1 .awaiting false).request.compensation = none ∧
      takenFor itemB (gives (.draining true) online) = false ∧
      (let s : State := { gives (.draining true) online with queue := ⟨[⟨0, .inbound, .trap item, 0, .applying⟩], 1⟩ }
       inboundFor itemB s = true ∧ takenFor itemB s = true ∧ s.arb.held = none ∧
         (withStream .freeze s).arb.held = some ⟨.stream .freeze, 20461⟩ ∧
         inboundFor itemB (withStream .freeze s) = true) ∧
      takenFor itemB (accepts (.dispatch (.trap item)) .free (gives (.draining true) online)) = true := by
  decide +kernel

/-- The block with `n` records, owned by another station. -/
def many (n : Nat) : State :=
  setView itemB (.foreign 9)
    { online with store := { online.store with items := (List.range n).map fun k => (item + k, rec loan) } }

theorem witness_StreamReadsAndFreesTheBlock :
    (withStream .read (gives .streaming (has loan))).arb.held = some ⟨.stream .read, 20461⟩ ∧
      nextInBlock itemB 0 (gives .streaming (has loan)) = some item ∧
      getItem item (gives .streaming (has loan)) = some (rec loan) ∧
      getItem item (gives .streaming (putItemRaw item { rec loan with quarantined := true } online)) =
        some { rec loan with quarantined := true } ∧
      getItem item (gives .streaming (putItemRaw item { rec loan with check := .off 1#16 } online)) =
        some { rec loan with check := .off 1#16 } ∧
      patronAt patron (acct 5 1) (hasPatron (acct 5 1)) ∧
      titleAt title given 20461 (hasTitle given) ∧
      viewOf itemB (setView itemB (.foreign 9) (has loan)) = .foreign 9 ∧
      (recordsOf itemB (has loan)).length ≤ 64 ∧ blockOf .item item = itemB ∧
      (recordsOf itemB (many 65)).length = 65 ∧ (many 65).tablesOk ∧ viewOf itemB (many 65) = .foreign 9 ∧
      (gives .freeing online).hand = .giving (giving .freeing) := by
  and_intros <;> decide +kernel

theorem witness_DecisionEndsTheHandover :
    (∀ o ∈ [OutcomeCode.home, .badCount, .notHome, .deferred], ∀ serial ∈ [4, 5],
      headSlot (withFull ⟨9, .station 5, .ans ⟨⟨255, 0, 0⟩, .lastDecision, 0, 0, 0, .exchange o itemB serial⟩⟩
          (gives .deciding online)) =
        some (0, 0, ⟨9, .station 5, .ans ⟨⟨255, 0, 0⟩, .lastDecision, 0, 0, 0, .exchange o itemB serial⟩⟩)) ∧
      (giving .deciding).b = itemB ∧ (giving .deciding).serial = 4 ∧
      ∀ ph ∈ [GivePhase.deciding, .querying .awaiting, .querying .retryWait],
        (gives ph online).hand = .giving (giving ph) ∧ recordsOf itemB (gives ph online) = [] ∧
          recordsOf itemB (gives ph (has loan)) ≠ [] := by decide +kernel

/-- An OFFER and a BLOCK_QUERY of station 9 in processing. -/
def asked (q : Query) (s : State) : State :=
  { s with line := { s.line with
    slots := [.processing 0 ⟨9, .station 5, .req ⟨255, 0, 0⟩ q⟩ true, .free] } }

theorem witness_OffersAndQueriesAreAnswered :
    processingSlot Frame.isOffer (asked (.offer itemB 4 ⟨1, 0, 0⟩) online) =
        some (0, 0, ⟨9, .station 5, .req ⟨255, 0, 0⟩ (.offer itemB 4 ⟨1, 0, 0⟩)⟩) ∧
      processingSlot Frame.isBlockQuery (asked (.blockQuery itemB 4) online) =
        some (0, 0, ⟨9, .station 5, .req ⟨255, 0, 0⟩ (.blockQuery itemB 4)⟩) ∧
      viewOf itemB online = .home ∧ viewOf itemB (setView itemB (.foreign 9) online) ≠ .home ∧
      roomForOffer itemB ⟨6144, 8192, 2048⟩ online = true ∧
      roomForOffer itemB ⟨6145, 0, 0⟩ online = false ∧ online.hand = .idle ∧
      (gives .deciding online).hand ≠ .idle := by
  and_intros <;> decide +kernel

/-- The receiver with a committed STREAM frame at its grant. -/
def streamed (u : Option StreamUnit) (last : Option Nat) (s : State) : State :=
  withStream (.write 0) { receives .receiving s with
    line := { s.line with
      slots := [.processing 0 ⟨9, .station 5, .stream itemB 4 last u⟩ false, .free] } }

/-- A freeing of the block waits. -/
def freeingWaits (s : State) : State := { s with arb := { s.arb with stream := [.free itemB] } }

theorem witness_StreamWritesTheUnits :
    ∀ u ∈ [StreamUnit.item item (rec loan), .patron patron (acct 5 1), .titleHeader title true 20461,
        .copyRef ⟨7, .shelf, .agrees⟩, .holdEntry (hold patron .waiting), .marker .item item, .marker .title title,
        .marker .patron patron],
      (streamed (some u) none (hasTitle waits)).arb.held = some ⟨.stream (.write 0), 20461⟩ ∧
        getSlot 0 (streamed (some u) none (hasTitle waits)) =
          .processing 0 ⟨9, .station 5, .stream itemB 4 none (some u)⟩ false ∧
        (streamed (some u) none (hasTitle waits)).arb.stream.contains (.free itemB) = false ∧
        (streamed (some u) none (hasTitle waits)).hand = .receiving (receiving .receiving) ∧
        (freeingWaits (streamed (some u) none (hasTitle waits))).arb.stream.contains (.free itemB) = true ∧
        (withStream (.write 0) { streamed (some u) none online with hand := .idle }).hand = .idle ∧
        getTitle title (streamed (some u) none (hasTitle waits)) = some waits := by decide +kernel

/-- The LAST frame, empty and with a unit, with the total met and missed. -/
theorem witness_LastFrameDecides :
    (receives .receiving online).hand = .receiving (receiving .receiving) ∧
      (receiving .receiving).units + 0 = 2 ∧ (receiving .receiving).units + 1 = 3 ∧
      ∀ u ∈ [none, some (StreamUnit.item item (rec loan))], ∀ n ∈ [2, 3],
        getSlot 0 (streamed u (some n) online) =
            .processing 0 ⟨9, .station 5, .stream itemB 4 (some n) u⟩ false ∧
          (streamed u (some n) online).arb.held = some ⟨.stream (.write 0), 20461⟩ ∧
          (streamed u (some n) online).arb.stream.contains (.free itemB) = false ∧
          (freeingWaits (streamed u (some n) online)).arb.stream.contains (.free itemB) = true ∧
          ({ streamed u (some n) online with hand := .idle } : State).hand = .idle := by decide +kernel

/-! ### Further clauses of the statements: records that fail their check, the invariants, and the ends of frames -/

/-- A DAY frame in its turn keeps what the invariants of the line ask. -/
theorem witness_AttentionAndBoundsKeptByEveryStep_kept :
    (withTurn (.day 20461) .dayUnit 0 false online).line.Kept :=
  ⟨by decide, by simp [withTurn], by decide, by decide, by decide, by decide, by decide, (fun _ _ h => nomatch h),
    by simp [withTurn, online, configured, State.reset, LineEngine.atReset]⟩

/-- The start day at the end of its range. -/
theorem witness_TablesAndConfigurationKeptByEveryStep_piece :
    conf5.inRange = true ∧ (Instr.configure 0 .whole (.startDay 65535)).wellFormed = true ∧
      ∃ t, step { configured with pending := [.configure 0 .whole (.startDay 65535)] } = .next t :=
  ⟨by decide +kernel, by decide, _, rfl⟩

/-- The queue is full: 93 entries, and the 3 places of a DISPATCH frame held here for a block viewed HOME. The title is
settled, and the grant is no stream's. -/
theorem witness_OneFlightPerDestination_room :
    let s : State := { crowded 93 (hasTitle given1) with
      line := { online.line with acc := some ⟨⟨9, .station 5, .dispatch (.trap item)⟩, some 0, true⟩ } }
    s.queue.ok ∧ s.EntriesKept ∧ s.RoomKept ∧ s.HandoverKept ∧ s.homeSettled ∧ s.tablesOk ∧ s.arb.held = none ∧
      getTitle title s = some given1 ∧ viewOf (blockOf .title title) s = .home := by
  intro s
  have outs : ∀ e ∈ s.queue.entries, e.dir = .outbound := by decide +kernel
  refine ⟨by unfold DispatchQueue.ok; decide +kernel,
    ⟨by simp [s, online, configured, State.reset, LineEngine.atReset],
      fun e he h => by simp [outs e he] at h⟩,
    ⟨by decide +kernel, fun a ha _ => by obtain rfl := Option.some.inj ha; rfl⟩,
    ⟨fun e he h => by simp [outs e he] at h, fun a d b ha hd hb => ?_, (fun _ h => nomatch h), (fun _ h => nomatch h),
      fun _ h => absurd rfl h⟩,
    fun n x h _ _ => ?_, by decide +kernel, rfl, by decide +kernel, by decide +kernel⟩
  · obtain rfl := Option.some.inj ha
    obtain rfl := Body.dispatch.inj hd
    obtain rfl := Option.some.inj hb
    decide +kernel
  have store : s.store.titles = [(title, given1)] := by decide +kernel
  have hx : given1 = x := by
    simp only [getTitle, store, tblGet] at h
    split at h
    · exact Option.some.inj h
    · cases h
  subst hx
  exact ⟨⟨by decide, by decide⟩, by decide, by decide⟩

/-- A unit of the title that the receiver has open, at its grant, beside another title. -/
theorem witness_OneFlightPerDestination_stream :
    let s := streamed (some (.copyRef ⟨7, .shelf, .agrees⟩)) none (putTitle (title + 1) given (hasTitle waits))
    s.tablesOk ∧ s.arb.held = some ⟨.stream (.write 0), 20461⟩ ∧
      getSlot 0 s = .processing 0 ⟨9, .station 5, .stream itemB 4 none (some (.copyRef ⟨7, .shelf, .agrees⟩))⟩ false ∧
      s.hand = .receiving (receiving .receiving) ∧ (receiving .receiving).title = title ∧
      ((match step { s with pending := [.streamUnitWrite] } with
        | .next t => some t
        | _ => none).bind fun t => getTitle (title + 1) t) = some given := by
  and_intros <;> decide +kernel

/-- An item, a title and a patron record whose check word fails, as an operation, a delete and a dispatch find them. -/
def failingItem : Item := { rec loan with check := .off 1#16 }
def failingTitle : Title := { given with holds := [{ hold other (.allocated item) with check := .off 1#16 }] }
def failingPatron : Patron := { acct 500000 0 with check := .absent }
def failing (s : State) : State :=
  putItemRaw item failingItem (putTitleRaw title failingTitle (putPatronRaw patron failingPatron s))

/-- None of their check words is the computed one (R180). -/
theorem failing_words :
    ¬ failingItem.wordAgrees item ∧ ¬ failingTitle.wordsAgree title ∧ ¬ failingPatron.wordAgrees patron := by
  simp only [Item.wordAgrees_iff, Title.wordsAgree_iff, Patron.wordAgrees_iff]; decide

theorem witness_ItemsAreMadeAndRemoved_failing :
    (∀ o ∈ [.lendItem item patron 20500 5, .itemDelete item, .holdAdd title patron 5, .titleDelete title,
        .standing patron, .patronDelete patron],
      heldOp (withOp o (failing online)) = some ⟨o, .line, 20461⟩ ∧ viewOf o.block (withOp o (failing online)) = .home ∧
        o.isCreate = false ∧ 3 ≤ freePlaces (withOp o (failing online))) ∧
      (∀ o : OwnerOp, getItem item (withOp o (failing online)) = some failingItem ∧
        getTitle title (withOp o (failing online)) = some failingTitle ∧
        getPatron patron (withOp o (failing online)) = some failingPatron) := by
  have found : getItem item (failing online) = some failingItem ∧
      getTitle title (failing online) = some failingTitle ∧
      getPatron patron (failing online) = some failingPatron := by decide +kernel
  exact ⟨by decide +kernel, fun _ => found⟩

/-- A dispatch of each kind at its grant: its record fails its check, there is none, or the title is quarantined. It
serves the clauses of CopyStateMovesTheView, CopyFreeAndHoldFilled and PatronDispatchesChangeTheAccount too. -/
theorem witness_RedirectAndReleasePlaceTheCopy_failing :
    (∀ d ∈ [.trap item, .untrap item, .allocate item title other 12, .redirect item other 12, .release item,
        .copyState title item .shelf false, .copyFree title item 12, .holdFilled title other item,
        .pickupLapsed title other item, .copyRemove title item, .charge patron 1 item .overdue],
      ∀ s ∈ [failing online, online, putTitleRaw title { given with quarantined := true } online],
      heldEntry (withEntry d s) = some (⟨0, .inbound, d, 0, .applying⟩, 20461) ∧
        dispatchRows.any (fun p => p.2 == d.kind) = true ∧ (withEntry d s).tablesOk) ∧
      getTitle title online = none ∧ online.capture.captured = none ∧
      ({ online with capture := ⟨some ⟨.checkFailed, .item, item, .line, 0, none⟩, false⟩ } : State).capture.captured ≠
        none := by decide +kernel

/-- Dispatches that touch a record of an earlier day. -/
theorem witness_TouchAppliesTheDayTransitions_dispatch :
    let s := withEntry (.trap item) (putItem item { rec held with currentTo := 20460 } online)
    heldEntry s = some (⟨0, .inbound, .trap item, 0, .applying⟩, 20461) ∧ (.trap, DispatchKind.trap) ∈ dispatchRows ∧
      (Dispatch.trap item).target = some (.item, item) ∧
      getItem item s = some { rec held with currentTo := 20460 } := by decide +kernel

/-- A title of day 20,450 with an entry that expired on 20,455. -/
def expiring : Title :=
  { two .lost .lost [{ hold other .waiting with expiry := 20455 }] with currentTo := 20450 }

/-- A burst that finds first an item, current but for the day, and its 2 and its 3 places. -/
theorem witness_SweepBurstOnlyBringsUp_item :
    let s := burst (putItem item { rec loan with currentTo := 20450 } online)
    nextRecord s (s.day.pos.getD .first) = some (.item, item) ∧ viewOf (blockOf .item item) s = .home ∧
      getItem item s = some { rec loan with currentTo := 20450 } ∧ freePlaces (crowded 94 s) = 2 ∧
      freePlaces (crowded 93 s) = 3 := by decide +kernel

/-- The walks of 64 and of 65 items, the last position past all but one of them, and of an item before a title. -/
theorem witness_SweepBurstOnlyBringsUp_walk :
    (∀ n ∈ [64, 65], ((burst (many n)).sweepWalk (.item 0)).length = n ∧ (burst (many n)).tablesOk) ∧
      ((burst (many 65)).sweepWalk (.item 0))[64]? = some (.item, item + 64) ∧
      (burst (many 65)).sweepWalk (.item (item + 64)) = [(.item, item + 64)] ∧
      (burst (putItem item (rec loan) (hasTitle expiring))).sweepWalk (.item 0) = [(.item, item), (.title, title)] := by
  decide +kernel

/-- R59: a burst examines 64 records, also those it skips, and the position names the 65th; with 64 the sweep ends. -/
theorem test_sweep_burst_of_64 :
    ([64, 65].map fun n => (run .sweepBurst (burst (many n))).map fun t => (t.day.sweep, t.day.pos)) =
      [some (.idle, none), some (.running, some (.item (item + 64)))] := by decide +kernel

/-- R60: a title pauses the sweep behind an item that needed nothing. -/
theorem witness_SweepBurstOnlyBringsUp_pause :
    let s := crowded 94 (burst (putItem item (rec loan) (hasTitle expiring)))
    s.tablesOk ∧ (run .sweepBurst s).map (fun t => (t.day.sweep, t.day.pos, getTitle title t)) =
      some (.paused, some (.title title), some expiring) := by decide +kernel

/-- Two items of an earlier day in a burst: with 1 unit complete the first is current, and with 2 the second too. -/
def behind : State :=
  burst { online with
    store := { online.store with
      items := [(item, { rec loan with currentTo := 20460 }), (item + 1, { rec loan with currentTo := 20460 })] } }

theorem witness_StartResetKeepsWholeUnits_burst :
    behind.arb.held = some ⟨.sweep, 20461⟩ ∧ behind.tablesOk ∧ behind.homeSettled ∧
      behind.sweepWalk (behind.day.pos.getD (.item 0)) = [] ++ (.item, item) :: [(.item, item + 1)] ∧
      viewOf (blockOf .item item) behind = .home ∧ 3 ≤ freePlaces behind ∧
      ([0, 1, 2, 3].map fun k => (run (.startReset (.inGrant k)) behind).map fun t =>
        (behind.burstUnits t, t.store.items.map fun p => p.2.currentTo)) =
        [some (0, [20460, 20460]), some (1, [20461, 20460]), some (2, [20461, 20461]), some (2, [20461, 20461])] := by
  refine ⟨rfl, by decide +kernel, fun n x h => ?_, by decide +kernel, by decide +kernel, by decide +kernel,
    by decide +kernel⟩
  simp [behind, burst, online, configured, State.reset, getTitle, tblGet] at h

/-- A burst that finds only a title, current but for the day and with an expired entry, and its 2 and its 3 places. -/
theorem witness_SweepBurstOnlyBringsUp_title :
    (∀ t ∈ [expiring, { waits with currentTo := 20450 }],
      let s := burst (hasTitle t)
      nextRecord s (s.day.pos.getD .first) = some (.title, title) ∧ (∀ p ∈ s.store.titles, p.1 ≤ title) ∧
        s.day.restart = false ∧ viewOf (blockOf .title title) s = .home ∧ getTitle title s = some t ∧
        t.quarantined = false ∧ t.checks = true ∧ t.currentTo ≠ 20461) ∧
      expiring.expired 20461 = some { hold other .waiting with expiry := 20455 } ∧
      (settle title (expiring.dropEntry other)).1.expired 20461 = none ∧
      Title.expired { waits with currentTo := 20450 } 20461 = none ∧
      freePlaces (crowded 94 (burst (hasTitle expiring))) = 2 ∧
      freePlaces (crowded 93 (burst (hasTitle waits))) = 3 := by
  decide +kernel

/-- Each grant that a start reset can fall within: an application, a burst, the freeze, a read, a unit without and with
the LAST mark, and a freeing of a block FOREIGN and HOME. -/
theorem witness_StartResetKeepsWholeUnits_grants :
    heldEntry (withEntry (.trap item) (has loan)) = some (⟨0, .inbound, .trap item, 0, .applying⟩, 20461) ∧
      (.trap, DispatchKind.trap) ∈ dispatchRows ∧ (burst (has loan)).arb.held = some ⟨.sweep, 20461⟩ ∧
      (withStream .freeze (gives (.draining true) online)).arb.held = some ⟨.stream .freeze, 20461⟩ ∧
      (withStream .read (gives .streaming (has loan))).arb.held = some ⟨.stream .read, 20461⟩ ∧
      (∀ last ∈ [none, some 3],
        (streamed (some (.item item (rec loan))) last online).arb.held = some ⟨.stream (.write 0), 20461⟩ ∧
          getSlot 0 (streamed (some (.item item (rec loan))) last online) =
            .processing 0 ⟨9, .station 5, .stream itemB 4 last (some (.item item (rec loan)))⟩ false) ∧
      (withStream (.free itemB) (many 65)).arb.held = some ⟨.stream (.free itemB), 20461⟩ ∧
      (withStream (.free itemB) (many 65)).tablesOk ∧ viewOf itemB (withStream (.free itemB) (many 65)) = .foreign 9 ∧
      viewOf itemB (withStream (.free itemB) (has loan)) = .home := by
  and_intros <;> decide +kernel

/-- An answer reaches a context that waits for it in a matching ANS, and at the end of its own grant. -/
theorem witness_AnswersMoveTheTransaction_answered :
    (∀ a ∈ [StepAnswer.done (.loanOpened 20500 0 1), .refused .damaged .nothing, .deferred, .notOwner, .movedTo 17],
      ∃ t, (withFull (ansTo a) (withRun (runOf (.lend patron item) 1 .awaiting false) online)).answered 0 a t) ∧
      ∀ a, (withRun lend1 online).answered 0 a (afterAnswer a (withRun lend1 online)) := by
  refine ⟨fun a ha => ?_, fun a => .inl ⟨_, rfl, rfl⟩⟩
  refine ⟨_, .inr ⟨0, 0, ansTo a, _, runOf (.lend patron item) 1 .awaiting false, rfl, rfl, ?_, rfl, rfl, rfl, rfl,
    rfl, rfl, (fun _ _ h => nomatch h), rfl⟩⟩
  fin_cases ha <;> rfl

/-- A view of every kind that a MOVED_TO finds. -/
theorem witness_DeferredMovedAndNotOwner_views :
    ∀ v ∈ [View.home, .lending 9, .receiving 9, .foreign 12, .unknown, .probing],
      viewOf patronB (setView patronB v (withRun lend1 online)) = v ∧
        getRun 0 (setView patronB v (withRun lend1 online)) = some lend1 := by decide +kernel

/-- The dispatch of a title that expires, with 5 places free once its entry has left and with 4. -/
theorem witness_TouchRemovesExpiredHoldsFirst_dispatch :
    let s := withEntry (.copyFree title item 12) (hasTitle expiring)
    heldEntry s = some (⟨0, .inbound, .copyFree title item 12, 0, .applying⟩, 20461) ∧
      (.copyFree, DispatchKind.copyFree) ∈ dispatchRows ∧
      (Dispatch.copyFree title item 12).target = some (.title, title) ∧ getTitle title s = some expiring ∧
      expiring.checks = true ∧ expiring.currentTo ≠ 20461 ∧ freePlaces (dropEntry 1 (crowded 92 s)) = 5 ∧
      freePlaces (dropEntry 1 (crowded 93 s)) = 4 := by decide +kernel

theorem witness_StandingDecisions_lending :
    heldOp (setView patronB (.lending 9) (withOp (.standing patron) (hasPatron (acct 0 0)))) =
        some ⟨.standing patron, .line, 20461⟩ ∧
      (setView patronB (.lending 9) (withOp (.standing patron) (hasPatron (acct 0 0)))).tablesOk := by decide +kernel

/-- The sweep and the stream wait, the kiosk was granted last: the sweep is the first in the cycle that waits. -/
theorem witness_AnswersToReqsLeaveAsAns_arbiter :
    ({ online with arb := { online.arb with sweep := true, stream := [.read, .freeze], last := .kiosk } } :
      State).arb.held = none ∧
      ([.line, .sweep, .stream, .kiosk] : List Requester) = [.line] ++ .sweep :: [.stream, .kiosk] := by decide

/-- A census of block 64, its place FOLLOW_UP: a context, an entry, the probe and the receiver have asked, another entry
asks the next. -/
def collects (v : View) (own : Option ClaimKind) (sender : Bool) : State :=
  let s := setView itemB v (withTurn (.census itemB) (.census itemB) 3 false
    (withRun (runOf (.checkIn item) 1 .census false) online))
  { s with
    line := { s.line with window := some ⟨itemB, sender, some own, none⟩ }
    queue := ⟨[⟨0, .outbound, .trap item, 4, .census⟩], 1⟩
    map := { s.map with
      census := [⟨itemB, .followUp, [.context 0, .entry 0, .probe, .confirming], [.entry 1]⟩] } }

/-- The probe of block 64 at the end of its window, other blocks seen as `vs`. -/
def joins (vs : List (Nat × View)) : State :=
  let s := collects .probing (some .probing) true
  { s with station := .joining, map := { s.map with probe := some ⟨itemB, false⟩, views := (64, .probing) :: vs } }

/-- The same census, its frame about to be returned. -/
def unheld : State :=
  let s := collects .unknown none true
  { s with
    line := { s.line with window := none }, map := { s.map with probe := some ⟨itemB, false⟩ }
    hand := .receiving (receiving (.confirming false)) }

theorem witness_CensusCollectsTheClaims_askers :
    let s := collects .unknown none true
    let p : CensusPlace := ⟨itemB, .followUp, [.context 0, .entry 0, .probe, .confirming], [.entry 1]⟩
    (s.map.census.find? fun q => q.b == itemB) = some p ∧ (unheld.map.census.find? fun q => q.b == itemB) = some p ∧
      (s.queue.entries.map Entry.id).Nodup ∧
      getRun 0 s = some (runOf (.checkIn item) 1 .census false) ∧
      (runOf (.checkIn item) 1 .census false).op (stationNo s) = some (.takeReturn item 5) ∧
      (OwnerOp.takeReturn item 5).block = itemB ∧
      (sending unheld).map (fun i => (i.owner, i.frame.body, i.attempts)) = some (.census itemB, .census itemB, 3) ∧
      unheld.line.window = none ∧ unheld.map.probe = some ⟨itemB, false⟩ ∧
      unheld.hand = .receiving (receiving (.confirming false)) ∧ (receiving (.confirming false)).b = itemB := by
  decide +kernel

/-- A census window of a FOREIGN block ends while another block is received. -/
theorem witness_CensusCollectsTheClaims_handover :
    let s : State := setView titleB (.receiving 9)
      { collects (.foreign 9) none true with
        hand := .receiving { receiving .receiving with b := titleB }, queue := ⟨[], 0⟩ }
    s.HandoverKept ∧ s.line.window = some ⟨itemB, true, some none, none⟩ ∧ (sending s).isSome = true ∧
      viewOf itemB s = .foreign 9 := by
  intro s
  refine ⟨handoverKept_of rfl rfl (fun _ h => nomatch h) (fun _ h => nomatch h) (fun r h => ?_), rfl, rfl, ?_⟩
  · obtain rfl := Handover.receiving.inj h
    exact ⟨fun _ => by decide +kernel, fun h => absurd rfl h⟩
  · decide +kernel

/-- A census window of a block viewed HOME and LENDING, in which this station claims, with and without another. -/
theorem witness_CensusCollectsTheClaims_own :
    ∀ v ∈ [View.home, .lending 9],
      let s := collects v (some .firm) true
      s.HandoverKept ∧ s.line.window = some ⟨itemB, true, some (some .firm), none⟩ ∧ viewOf itemB s = v ∧
        (s.queue.entries.map Entry.id).Nodup ∧ getRun 0 s = some (runOf (.checkIn item) 1 .census false) := by
  intro v hv s
  refine ⟨handoverKept_of rfl rfl (fun e he => ?_) (fun _ h => nomatch h) (fun _ h => nomatch h), rfl, ?_, ?_, rfl⟩
  · obtain rfl : e = ⟨0, .outbound, .trap item, 4, .census⟩ := by simpa [s, collects] using he
    rfl
  · revert s; revert v; decide +kernel
  · exact List.nodup_singleton _

/-- The last probe, with an entry of its block QUEUED, and a probe before that of block 18 of the patrons. -/
theorem witness_CensusCollectsTheClaims_probe :
    ∀ vs ∈ [[], [((530 : Nat), View.probing)]],
      let s := { joins vs with queue := ⟨[⟨0, .outbound, .trap item, 3, .queued⟩], 1⟩ }
      s.line.window = some ⟨itemB, true, some (some .probing), none⟩ ∧ viewOf itemB s = .probing ∧ s.hand = .idle ∧
        s.map.probe = some ⟨itemB, false⟩ ∧ s.tablesOk ∧ s.station = .joining ∧ burstHeld s = false ∧
        s.arb.sweep = false ∧ (s.map.views.filter fun p => p.2 == .probing && p.1 != itemB.key) = vs := by
  decide +kernel

/-- The ANS of the OFFER, accepting and refusing it, and its REQ before the last attempt, for a block with a record and
one without. -/
theorem witness_FreezeLendsTheBlock_offer :
    (∀ a ∈ [StepAnswer.done .nothing, .refused .noRoom .nothing],
      let f : Frame := ⟨9, .station 5, .ans ⟨⟨0, 7, 1⟩, .offer, 0, 0, 0, a⟩⟩
      headSlot (withFull f (gives .offering online)) = some (0, 0, f)) ∧
      (gives .offering online).hand = .giving (giving .offering) ∧
      getCtx 0 (gives .offering online) = some ⟨7, .running (runOf (.handOver itemB 9) 1 .awaiting false)⟩ ∧
      recordsOf itemB online = [] ∧ recordsOf itemB (has loan) = [item] ∧
      (let b := Body.req ⟨0, 7, 1⟩ (.offer itemB 4 ⟨1, 0, 0⟩)
       sending (withTurn b (.context 0) 3 false (gives .offering online)) =
           some ⟨0, ⟨5, .all, b⟩, 2, 3, 0, .context 0⟩ ∧
         clearing (withTurn b (.context 0) 3 true (gives .offering online)) = true) := by decide +kernel

/-- A STREAM of a block with a record to come and without, with and without the LAST mark; a unit still to send. -/
theorem witness_StreamReadsAndFreesTheBlock_stream :
    (∀ last ∈ [none, some 2], ∀ u ∈ [none, some (StreamUnit.item item (rec loan))],
      let b := Body.stream itemB 4 last u
      let s := withTurn b .handover 0 false (gives .streaming (has loan))
      sending s = some ⟨0, ⟨5, .all, b⟩, 3, 0, 0, .handover⟩ ∧ clearing s = false ∧ s.line.window = none ∧
        s.hand = .giving (giving .streaming)) ∧
      nextInBlock itemB 0 (has loan) = some item ∧ nextInBlock itemB 0 online = none ∧
      (giving .streaming).receiver ≠ stationNo online ∧ online.queue.entries = [] := by decide +kernel

theorem witness_DecisionEndsTheHandover_query :
    ∀ c ∈ [false, true],
      let b := Body.req ⟨255, 0, 0⟩ (.blockQuery itemB 4)
      let s := withTurn b .handover 3 c (gives (.querying .sending) online)
      sending s = some ⟨0, ⟨5, .all, b⟩, 2, 3, 0, .handover⟩ ∧ clearing s = c ∧ s.line.window = none ∧
        s.hand = .giving (giving (.querying .sending)) := by decide +kernel

/-- The decision HOME in its turn, and a window of the block in which this station claims. -/
theorem witness_LastFrameDecides_confirming :
    (let b := Body.ans ⟨⟨255, 0, 0⟩, .lastDecision, 0, 0, 0, .exchange .home itemB 4⟩
     let s := withTurn b .handover 0 false { online with hand := .receiving (receiving (.confirming true)) }
     (sending { s with line := { s.line with sendq := [⟨0, ⟨5, .station 9, b⟩, 1, 0, 0, .handover⟩] } }) =
         some ⟨0, ⟨5, .station 9, b⟩, 1, 0, 0, .handover⟩ ∧
       s.hand = .receiving (receiving (.confirming true))) ∧
      (receiving (.confirming true)).giver = 9 ∧ (receiving (.confirming true)).serial = 4 ∧
      ∀ sender ∈ [false, true],
        (collects .home (some .firm) sender).line.window = some ⟨itemB, sender, some (some .firm), none⟩ ∧
          viewOf itemB (collects .home (some .firm) sender) = .home := by decide +kernel

end Sys2Proof.Tests
end

section
/-! PROOFS. An owner operation and a dispatch at their grant: what the command of the row leaves, said once for all
operations and all dispatch kinds; the reading of a record through its check word; a dispatch queue entry added and
its place. -/

namespace Sys2Proof.Machine

/-! ## The commands of the rows -/

/-- Every owner operation's row is `ownerStep` of the operation's code. -/
theorem exec_row (o : OwnerOp) (s : State) : exec o.row s = ownerStep o.code s := by
  cases o <;> rfl

/-- The command of the operation that holds the grant applies it and answers. -/
theorem exec_row_of_heldOp {s : State} {h : HeldOp} (hh : heldOp s = some h) :
    exec h.op.row s =
      .next (afterAnswer (applyOp h.op h.who h.day s).2 (applyOp h.op h.who h.day s).1) := by
  simp [exec_row, ownerStep, hh, finish, ownerGrant, afterAnswer]

/-- What an operation leaves at its grant, when its result is known. -/
theorem exec_row_eq {s u : State} {o : OwnerOp} {who : Requester} {E : Nat} {a : StepAnswer}
    (hh : heldOp s = some ⟨o, who, E⟩) (ho : applyOp o who E s = (u, a)) :
    exec o.row s = .next (afterAnswer a u) := by
  rw [exec_row_of_heldOp (h := ⟨o, who, E⟩) hh, ho]

/-- Every dispatch kind's row is `dispatchStep` of the kind. -/
theorem exec_dispatchRow {i : Instr} {k : DispatchKind} (h : (i, k) ∈ dispatchRows) (s : State) :
    exec i s = dispatchStep k s := by
  simp only [dispatchRows, List.mem_cons, Prod.mk.injEq, List.not_mem_nil, or_false] at h
  rcases h with ⟨rfl, rfl⟩ | ⟨rfl, rfl⟩ | ⟨rfl, rfl⟩ | ⟨rfl, rfl⟩ | ⟨rfl, rfl⟩ | ⟨rfl, rfl⟩ | ⟨rfl, rfl⟩ |
    ⟨rfl, rfl⟩ | ⟨rfl, rfl⟩ | ⟨rfl, rfl⟩ | ⟨rfl, rfl⟩ | ⟨rfl, rfl⟩ | ⟨rfl, rfl⟩ | ⟨rfl, rfl⟩ <;> rfl

/-- The entry that holds the grant is the one its id finds. -/
theorem findEntry_of_heldEntry {s : State} {e : Entry} {E : Nat} (h : heldEntry s = some (e, E)) :
    s.arb.held = some ⟨.line (.entry e.id), E⟩ ∧ findEntry e.id s = some e := by
  unfold heldEntry at h
  split at h
  · rename_i id day heq
    obtain ⟨e', hf, he⟩ := Option.map_eq_some_iff.1 h
    obtain ⟨rfl, rfl⟩ := Prod.mk.inj he
    have hid : e'.id = id := by simpa using List.find?_some hf
    rw [hid]
    exact ⟨heq, hf⟩
  · cases h

/-- The command of the dispatch kind whose entry holds the grant. -/
theorem exec_of_heldEntry {s : State} {e : Entry} {E : Nat} {i : Instr} (h : heldEntry s = some (e, E))
    (hi : (i, e.disp.kind) ∈ dispatchRows) :
    exec i s = .next (refreshAttention (entryGrant e E s)) := by
  simp [exec_dispatchRow hi, dispatchStep, h, finish]

/-- An entry whose application is not put off leaves the queue and its dispatch is applied (R128). -/
theorem exec_of_applied {s : State} {e : Entry} {E : Nat} {i : Instr} (h : applied e E s)
    (hi : (i, e.disp.kind) ∈ dispatchRows) :
    exec i s = .next (afterApplication e (applyDispatch e.disp E (dropEntry e.id s))) := by
  obtain ⟨held, now⟩ := h
  have found := (findEntry_of_heldEntry held).2
  rw [exec_of_heldEntry held hi]
  have : applyEntry e.id E s =
      if e.dir = .inbound then askFreeze (applyDispatch e.disp E (dropEntry e.id s))
      else applyDispatch e.disp E (dropEntry e.id s) := by
    unfold applyEntry
    rw [found]
    cases hd : e.dir with
    | inbound => simp [hd]
    | outbound =>
      obtain ⟨⟨b, hb, hv⟩, hr⟩ := now.resolve_left (by simp [hd])
      simp [hd, hb, hv, Nat.not_lt.2 hr]
  rw [entryGrant, this, afterApplication]

/-! ## The tables -/

/-- What a table gives for a number is listed in it. -/
theorem mem_of_tblGet {α : Type} {l : List (Nat × α)} {n : Nat} {v : α} (h : tblGet l n = some v) :
    (n, v) ∈ l := by
  induction l with
  | nil => cases h
  | cons a l ih =>
    obtain ⟨k, w⟩ := a
    simp only [tblGet] at h
    split at h
    · simp_all
    · exact List.mem_cons_of_mem _ (ih h)

/-- A value written where it stands changes nothing (R178). -/
theorem tblSet_self {α : Type} {l : List (Nat × α)} {n : Nat} {v : α} (hr : tblRising l = true)
    (h : tblGet l n = some v) : tblSet l n v = l := by
  induction l with
  | nil => cases h
  | cons a l ih =>
    obtain ⟨k, w⟩ := a
    have rising : tblRising l = true := by cases l <;> simp_all [tblRising]
    simp only [tblGet] at h
    split at h
    · simp_all [tblSet]
    · have : k < n := tblRising_lt hr _ (mem_of_tblGet h)
      rw [tblSet, if_neg (by omega), if_neg (by omega), ih rising h]

/-- A whole item record written as it stands changes nothing. -/
theorem putItem_self {s : State} {n : Nat} {r : Item} (ht : s.tablesOk) (hg : getItem n s = some r)
    (hc : r.check = .agrees) : putItem n r s = s := by
  have : ({ r with check := .agrees } : Item) = r := by rw [← hc]
  simp only [putItem, this, tblSet_self ht.1 hg]

/-! ## Reading a record through its check word (R180, R181) -/

section Fetch

variable {s : State} {n E : Nat} {who : Requester}

theorem fetchItem_none (h : getItem n s = none) : fetchItem n who E s = (s, none) := by
  simp [fetchItem, h]

/-- A record that is quarantined, or whose check word agrees, is read without a change. -/
theorem fetchItem_read {r : Item} (h : getItem n s = some r) (hr : r.quarantined = true ∨ r.check = .agrees) :
    fetchItem n who E s = (s, some r) := by
  rcases hr with hr | hr <;> simp [fetchItem, h, hr]

/-- A record whose check fails is marked, and the failure is a fault. -/
theorem fetchItem_failing {r : Item} (h : getItem n s = some r) (hq : r.quarantined = false)
    (hc : r.check ≠ .agrees) :
    fetchItem n who E s =
      (recordFault ⟨.checkFailed, .item, n, who, E, none⟩ (markItem n r s), some { r with quarantined := true }) := by
  simp only [fetchItem, h, hq, hc]
  rfl

theorem fetchTitle_none (h : getTitle n s = none) : fetchTitle n who E s = (s, none) := by
  simp [fetchTitle, h]

theorem fetchTitle_read {t : Title} (h : getTitle n s = some t) (ht : t.quarantined = true ∨ t.checks = true) :
    fetchTitle n who E s = (s, some t) := by
  rcases ht with ht | ht <;> simp [fetchTitle, h, ht]

theorem fetchTitle_failing {t : Title} (h : getTitle n s = some t) (hq : t.quarantined = false)
    (hc : t.checks = false) :
    fetchTitle n who E s =
      (recordFault ⟨.checkFailed, .title, n, who, E, none⟩ (markTitle n t s),
        some { t with quarantined := true }) := by
  simp only [fetchTitle, h, hq, hc]
  rfl

theorem fetchPatron_none (h : getPatron n s = none) : fetchPatron n who E s = (s, none) := by
  simp [fetchPatron, h]

theorem fetchPatron_read {p : Patron} (h : getPatron n s = some p)
    (hp : p.quarantined = true ∨ p.check = .agrees) : fetchPatron n who E s = (s, some p) := by
  rcases hp with hp | hp <;> simp [fetchPatron, h, hp]

theorem fetchPatron_failing {p : Patron} (h : getPatron n s = some p) (hq : p.quarantined = false)
    (hc : p.check ≠ .agrees) :
    fetchPatron n who E s =
      (recordFault ⟨.checkFailed, .patron, n, who, E, none⟩ (markPatron n p s),
        some { p with quarantined := true }) := by
  simp only [fetchPatron, h, hq, hc]
  rfl

end Fetch

/-! ## Dispatches and notices queued -/

@[simp] theorem emitAll_nil (s : State) : emitAll [] s = s := rfl

@[simp] theorem emitAll_cons (e : Effect) (es : List Effect) (s : State) :
    emitAll (e :: es) s = emitAll es (emit e s) := rfl

theorem emitAll_append (es fs : List Effect) (s : State) :
    emitAll (es ++ fs) s = emitAll fs (emitAll es s) := List.foldl_append

@[simp] theorem emit_send (d : Dispatch) (s : State) : emit (.send d) s = enqueue d s := rfl

/-- The CHARGE of a fine is queued when the fine is above 0 (R12, R14). -/
theorem emitAll_overdueCharge (b fine n : Nat) (s : State) :
    emitAll (overdueCharge b fine n) s = chargeIf fine b n s := by
  unfold overdueCharge chargeIf
  split <;> rfl

@[simp] theorem enqueueAll_nil (s : State) : enqueueAll [] s = s := rfl

@[simp] theorem enqueueAll_cons (d : Dispatch) (ds : List Dispatch) (s : State) :
    enqueueAll (d :: ds) s = enqueueAll ds (enqueue d s) := rfl

theorem enqueueAll_append (ds es : List Dispatch) (s : State) :
    enqueueAll (ds ++ es) s = enqueueAll es (enqueueAll ds s) := List.foldl_append

/-- Effects that are all dispatches are queued as those dispatches. -/
theorem emitAll_sends (ds : List Dispatch) (s : State) : emitAll (ds.map .send) s = enqueueAll ds s := by
  induction ds generalizing s with
  | nil => rfl
  | cons d ds ih => exact ih _

/-- Queueing dispatches changes the dispatch queue alone. -/
theorem enqueueAll_eq (ds : List Dispatch) (s : State) : ∃ q, enqueueAll ds s = { s with queue := q } := by
  induction ds generalizing s with
  | nil => exact ⟨_, rfl⟩
  | cons d ds ih => exact ih (enqueue d s)

/-! ## Faults (R185) -/

/-- A fault enters the capture and may post a notice; nothing else changes. -/
theorem recordFault_eq (f : CapturedFault) (s : State) :
    ∃ c p, recordFault f s = { s with capture := c, port := p } := by
  unfold recordFault postNotice
  split
  · split <;> exact ⟨_, _, rfl⟩
  · exact ⟨_, _, rfl⟩

section Fault

variable (f : CapturedFault) (s : State)

@[simp] theorem recordFault_conf : (recordFault f s).conf = s.conf := by
  obtain ⟨c, p, h⟩ := recordFault_eq f s; rw [h]

@[simp] theorem recordFault_store : (recordFault f s).store = s.store := by
  obtain ⟨c, p, h⟩ := recordFault_eq f s; rw [h]

@[simp] theorem recordFault_arb : (recordFault f s).arb = s.arb := by
  obtain ⟨c, p, h⟩ := recordFault_eq f s; rw [h]

@[simp] theorem recordFault_day : (recordFault f s).day = s.day := by
  obtain ⟨c, p, h⟩ := recordFault_eq f s; rw [h]

@[simp] theorem recordFault_ctxs : (recordFault f s).ctxs = s.ctxs := by
  obtain ⟨c, p, h⟩ := recordFault_eq f s; rw [h]

@[simp] theorem recordFault_queue : (recordFault f s).queue = s.queue := by
  obtain ⟨c, p, h⟩ := recordFault_eq f s; rw [h]

@[simp] theorem recordFault_line : (recordFault f s).line = s.line := by
  obtain ⟨c, p, h⟩ := recordFault_eq f s; rw [h]

@[simp] theorem recordFault_map : (recordFault f s).map = s.map := by
  obtain ⟨c, p, h⟩ := recordFault_eq f s; rw [h]

@[simp] theorem recordFault_hand : (recordFault f s).hand = s.hand := by
  obtain ⟨c, p, h⟩ := recordFault_eq f s; rw [h]

@[simp] theorem recordFault_free : (recordFault f s).free = s.free := by
  obtain ⟨c, p, h⟩ := recordFault_eq f s; rw [h]

@[simp] theorem recordFault_pending : (recordFault f s).pending = s.pending := by
  obtain ⟨c, p, h⟩ := recordFault_eq f s; rw [h]

/-- A fault takes no entry of the dispatch queue. -/
@[simp] theorem freePlaces_recordFault : freePlaces (recordFault f s) = freePlaces s := by
  obtain ⟨c, p, h⟩ := recordFault_eq f s; rw [h]; rfl

end Fault

@[simp] theorem freePlaces_markItem (n : Nat) (r : Item) (s : State) :
    freePlaces (markItem n r s) = freePlaces s := rfl

@[simp] theorem freePlaces_markTitle (n : Nat) (t : Title) (s : State) :
    freePlaces (markTitle n t s) = freePlaces s := rfl

@[simp] theorem freePlaces_markPatron (n : Nat) (p : Patron) (s : State) :
    freePlaces (markPatron n p s) = freePlaces s := rfl

end Sys2Proof.Machine
end

section
/-! PROOFS. The checks of the owner engine (R3, R30, R69), one lemma per check, for the shared forms of an operation
and then for every owner operation at once. -/

namespace Sys2Proof.Machine

/-! ## The view of the block -/

/-- A view that lets an operation go on: HOME, or LENDING to a read. -/
theorem gateOf_ne_answer {v : View} {read : Bool} (h : v = .home ∨ (∃ st, v = .lending st) ∧ read = true)
    (a : StepAnswer) : gateOf v read ≠ .answer a := by
  rcases h with rfl | ⟨⟨st, rfl⟩, rfl⟩ <;> simp [gateOf]

section ItemForm

variable {n E : Nat} {who : Requester} {read : Bool} {rule : Item → ItemResult} {s s1 : State} {r : Item}

theorem itemOp_gated {a : StepAnswer} (hg : gateOf (viewOf (blockOf .item n) s) read = .answer a) :
    itemOp n who E read rule s = (s, a) := by
  simp [itemOp, hg]

theorem itemOp_missing (hg : ∀ a, gateOf (viewOf (blockOf .item n) s) read ≠ .answer a)
    (h : getItem n s = none) : itemOp n who E read rule s = (s, .refused .notFound .nothing) := by
  unfold itemOp
  split
  · exact absurd ‹_› (hg _)
  · simp [fetchItem_none h]

theorem itemOp_damaged (hg : ∀ a, gateOf (viewOf (blockOf .item n) s) read ≠ .answer a)
    (hf : fetchItem n who E s = (s1, some r)) (hq : r.quarantined = true) :
    itemOp n who E read rule s = (s1, .refused .damaged .nothing) := by
  unfold itemOp
  split
  · exact absurd ‹_› (hg _)
  · simp [hf, hq]

theorem itemOp_noRoom (hv : viewOf (blockOf .item n) s = .home) (hf : fetchItem n who E s = (s, some r))
    (hq : r.quarantined = false) (hr : freePlaces s < 3) : itemOp n who E read rule s = (s, .deferred) := by
  simp [itemOp, hv, gateOf, hf, hq, roomForOp, hr]

end ItemForm

section TitleForm

variable {n E : Nat} {who : Requester} {read : Bool} {missing : Reason} {rule : State → Title → TitleResult}
  {s s1 : State} {t : Title}

theorem titleOp_gated {a : StepAnswer} (hg : gateOf (viewOf (blockOf .title n) s) read = .answer a) :
    titleOp n who E read missing rule s = (s, a) := by
  simp [titleOp, hg]

theorem titleOp_missing (hg : ∀ a, gateOf (viewOf (blockOf .title n) s) read ≠ .answer a)
    (h : getTitle n s = none) : titleOp n who E read missing rule s = (s, .refused missing .nothing) := by
  unfold titleOp
  split
  · exact absurd ‹_› (hg _)
  · simp [fetchTitle_none h]

theorem titleOp_damaged (hg : ∀ a, gateOf (viewOf (blockOf .title n) s) read ≠ .answer a)
    (hf : fetchTitle n who E s = (s1, some t)) (hq : t.quarantined = true) :
    titleOp n who E read missing rule s = (s1, .refused .damaged .nothing) := by
  unfold titleOp
  split
  · exact absurd ‹_› (hg _)
  · simp [hf, hq]

theorem titleOp_noRoom (hv : viewOf (blockOf .title n) s = .home) (hf : fetchTitle n who E s = (s, some t))
    (hq : t.quarantined = false) (hr : freePlaces s < 3) :
    titleOp n who E read missing rule s = (s, .deferred) := by
  simp [titleOp, hv, gateOf, hf, hq, roomForOp, hr]

end TitleForm

section PatronForm

variable {n E : Nat} {who : Requester} {read : Bool} {rule : Patron → PatronResult} {s s1 : State} {p : Patron}

theorem patronOp_gated {a : StepAnswer} (hg : gateOf (viewOf (blockOf .patron n) s) read = .answer a) :
    patronOp n who E read rule s = (s, a) := by
  simp [patronOp, hg]

theorem patronOp_missing (hg : ∀ a, gateOf (viewOf (blockOf .patron n) s) read ≠ .answer a)
    (h : getPatron n s = none) : patronOp n who E read rule s = (s, .refused .notFound .nothing) := by
  unfold patronOp
  split
  · exact absurd ‹_› (hg _)
  · simp [fetchPatron_none h]

theorem patronOp_damaged (hg : ∀ a, gateOf (viewOf (blockOf .patron n) s) read ≠ .answer a)
    (hf : fetchPatron n who E s = (s1, some p)) (hq : p.quarantined = true) :
    patronOp n who E read rule s = (s1, .refused .damaged .nothing) := by
  unfold patronOp
  split
  · exact absurd ‹_› (hg _)
  · simp [hf, hq]

theorem patronOp_noRoom (hv : viewOf (blockOf .patron n) s = .home) (hf : fetchPatron n who E s = (s, some p))
    (hq : p.quarantined = false) (hr : freePlaces s < 3) : patronOp n who E read rule s = (s, .deferred) := by
  simp [patronOp, hv, gateOf, hf, hq, roomForOp, hr]

end PatronForm

/-! ## The operations that remove a record -/

section Deletes

variable {n E : Nat} {who : Requester} {s s1 : State}

theorem opItemDelete_gated {a : StepAnswer} (hg : gateOf (viewOf (blockOf .item n) s) false = .answer a) :
    opItemDelete n who E s = (s, a) := by
  simp [opItemDelete, hg]

theorem opItemDelete_missing (hg : ∀ a, gateOf (viewOf (blockOf .item n) s) false ≠ .answer a)
    (h : getItem n s = none) : opItemDelete n who E s = (s, .refused .notFound .nothing) := by
  unfold opItemDelete
  split
  · exact absurd ‹_› (hg _)
  · simp [fetchItem_none h]

theorem opItemDelete_noRoom {r : Item} (hv : viewOf (blockOf .item n) s = .home)
    (hf : fetchItem n who E s = (s, some r)) (hr : freePlaces s < 3) :
    opItemDelete n who E s = (s, .deferred) := by
  simp [opItemDelete, hv, gateOf, hf, roomForOp, hr]

/-- A quarantined record is removed in any state and without a touch (R8). -/
theorem opItemDelete_damaged {r : Item} (hg : ∀ a, gateOf (viewOf (blockOf .item n) s) false ≠ .answer a)
    (hf : fetchItem n who E s = (s1, some r)) (hq : r.quarantined = true) (hr : 3 ≤ freePlaces s1) :
    opItemDelete n who E s = deleteItem n r s1 := by
  unfold opItemDelete
  split
  · exact absurd ‹_› (hg _)
  · simp [hf, hq, roomForOp, hr]

theorem opTitleDelete_gated {a : StepAnswer} (hg : gateOf (viewOf (blockOf .title n) s) false = .answer a) :
    opTitleDelete n who E s = (s, a) := by
  simp [opTitleDelete, hg]

theorem opTitleDelete_missing (hg : ∀ a, gateOf (viewOf (blockOf .title n) s) false ≠ .answer a)
    (h : getTitle n s = none) : opTitleDelete n who E s = (s, .refused .notFound .nothing) := by
  unfold opTitleDelete
  split
  · exact absurd ‹_› (hg _)
  · simp [fetchTitle_none h]

theorem opTitleDelete_noRoom {t : Title} (hv : viewOf (blockOf .title n) s = .home)
    (hf : fetchTitle n who E s = (s, some t)) (hr : freePlaces s < 3) :
    opTitleDelete n who E s = (s, .deferred) := by
  simp [opTitleDelete, hv, gateOf, hf, roomForOp, hr]

theorem opTitleDelete_damaged {t : Title} (hg : ∀ a, gateOf (viewOf (blockOf .title n) s) false ≠ .answer a)
    (hf : fetchTitle n who E s = (s1, some t)) (hq : t.quarantined = true) (hr : 3 ≤ freePlaces s1) :
    opTitleDelete n who E s = deleteTitle n t s1 := by
  unfold opTitleDelete
  split
  · exact absurd ‹_› (hg _)
  · simp [hf, hq, roomForOp, hr]

theorem opPatronDelete_gated {a : StepAnswer} (hg : gateOf (viewOf (blockOf .patron n) s) false = .answer a) :
    opPatronDelete n who E s = (s, a) := by
  simp [opPatronDelete, hg]

theorem opPatronDelete_missing (hg : ∀ a, gateOf (viewOf (blockOf .patron n) s) false ≠ .answer a)
    (h : getPatron n s = none) : opPatronDelete n who E s = (s, .refused .notFound .nothing) := by
  unfold opPatronDelete
  split
  · exact absurd ‹_› (hg _)
  · simp [fetchPatron_none h]

theorem opPatronDelete_noRoom {p : Patron} (hv : viewOf (blockOf .patron n) s = .home)
    (hf : fetchPatron n who E s = (s, some p)) (hr : freePlaces s < 3) :
    opPatronDelete n who E s = (s, .deferred) := by
  simp [opPatronDelete, hv, gateOf, hf, roomForOp, hr]

theorem opPatronDelete_damaged {p : Patron}
    (hg : ∀ a, gateOf (viewOf (blockOf .patron n) s) false ≠ .answer a)
    (hf : fetchPatron n who E s = (s1, some p)) (hq : p.quarantined = true) (hr : 3 ≤ freePlaces s1) :
    opPatronDelete n who E s = (dropPatron n s1, .done (.patronDeleted n)) := by
  unfold opPatronDelete
  split
  · exact absurd ‹_› (hg _)
  · simp [hf, hq, roomForOp, hr]

end Deletes

/-! ## Every owner operation -/

/-- The refusal of an operation that finds no record (R3, R30, R39, R69). -/
def OwnerOp.missing (o : OwnerOp) : Reason := if o.code = .copyAdd then .notEnrolled else .notFound

/-- The three shapes of an owner operation in each number space: one on an existing record, one that removes a record
and one that makes a record. -/
inductive OpForm (who : Requester) (E : Nat) (s : State) (o : OwnerOp) : Prop
  | item (n : Nat) (rule : Item → ItemResult) (target : o.target = (.item, n)) (create : o.isCreate = false)
      (delete : o.isDelete = false) (missing : o.missing = .notFound)
      (form : applyOp o who E s = itemOp n who E o.isRead rule s)
  | title (n : Nat) (rule : State → Title → TitleResult) (target : o.target = (.title, n))
      (create : o.isCreate = false) (delete : o.isDelete = false)
      (form : applyOp o who E s = titleOp n who E o.isRead o.missing rule s)
  | patron (n : Nat) (rule : Patron → PatronResult) (target : o.target = (.patron, n))
      (create : o.isCreate = false) (delete : o.isDelete = false) (missing : o.missing = .notFound)
      (form : applyOp o who E s = patronOp n who E o.isRead rule s)
  | itemDelete (n : Nat) (op : o = .itemDelete n)
  | titleDelete (n : Nat) (op : o = .titleDelete n)
  | patronDelete (n : Nat) (op : o = .patronDelete n)
  | create (op : o.isCreate = true) (read : o.isRead = false)
      (gated : ∀ a, gateOf (viewOf o.block s) false = .answer a → applyOp o who E s = (s, a))
      (noRoom : viewOf o.block s = .home → freePlaces s < 3 → applyOp o who E s = (s, .deferred))

/-- Every operation is of one of the shapes. -/
theorem opForm (who : Requester) (E : Nat) (s : State) (o : OwnerOp) : OpForm who E s o := by
  cases o
  case itemCreate n t c sh =>
    exact .create rfl rfl (fun a h => by simp_all [applyOp, opItemCreate, OwnerOp.block, OwnerOp.target])
      (fun hv hr => by simp_all [applyOp, opItemCreate, OwnerOp.block, OwnerOp.target, gateOf, roomForOp])
  case titleCreate n b =>
    exact .create rfl rfl (fun a h => by simp_all [applyOp, opTitleCreate, OwnerOp.block, OwnerOp.target])
      (fun hv hr => by simp_all [applyOp, opTitleCreate, OwnerOp.block, OwnerOp.target, gateOf, roomForOp])
  case patronCreate n c x =>
    exact .create rfl rfl (fun a h => by simp_all [applyOp, opPatronCreate, OwnerOp.block, OwnerOp.target])
      (fun hv hr => by simp_all [applyOp, opPatronCreate, OwnerOp.block, OwnerOp.target, gateOf, roomForOp])
  case itemDelete n => exact .itemDelete n rfl
  case titleDelete n => exact .titleDelete n rfl
  case patronDelete n => exact .patronDelete n rfl
  case lendItem | extend | takeReturn | itemRead => exact .item _ _ rfl rfl rfl rfl rfl
  case copyAdd | holdAdd | holdDrop | titleRead => exact .title _ _ rfl rfl rfl rfl
  case patronSet | standing | loanOpen | holdOpen | pay | accountRead => exact .patron _ _ rfl rfl rfl rfl rfl

section Checks

variable {who : Requester} {E : Nat} {s : State} {o : OwnerOp}

/-- Check 1: the view of the block answers the operation. -/
theorem applyOp_gated {a : StepAnswer} (h : gateOf (viewOf o.block s) o.isRead = .answer a) :
    applyOp o who E s = (s, a) := by
  cases opForm who E s o with
  | item n rule target _ _ _ form => rw [form]; exact itemOp_gated (by rwa [OwnerOp.block, target] at h)
  | title n rule target _ _ form => rw [form]; exact titleOp_gated (by rwa [OwnerOp.block, target] at h)
  | patron n rule target _ _ _ form => rw [form]; exact patronOp_gated (by rwa [OwnerOp.block, target] at h)
  | itemDelete n op => subst op; exact opItemDelete_gated h
  | titleDelete n op => subst op; exact opTitleDelete_gated h
  | patronDelete n op => subst op; exact opPatronDelete_gated h
  | create _ read gated _ => exact gated a (by rwa [read] at h)

/-- The record an operation is about read through its check word: the state after the read, and the quarantine mark of
the record found. -/
def OwnerOp.fetch (o : OwnerOp) (who : Requester) (E : Nat) (s : State) : State × Option Bool :=
  match o.target.1 with
  | .item => ((fetchItem o.target.2 who E s).1, (fetchItem o.target.2 who E s).2.map Item.quarantined)
  | .title => ((fetchTitle o.target.2 who E s).1, (fetchTitle o.target.2 who E s).2.map Title.quarantined)
  | .patron => ((fetchPatron o.target.2 who E s).1, (fetchPatron o.target.2 who E s).2.map Patron.quarantined)

theorem OwnerOp.fetch_item {n : Nat} (h : o.target = (.item, n)) :
    o.fetch who E s = ((fetchItem n who E s).1, (fetchItem n who E s).2.map Item.quarantined) := by
  simp [OwnerOp.fetch, h]

theorem OwnerOp.fetch_title {n : Nat} (h : o.target = (.title, n)) :
    o.fetch who E s = ((fetchTitle n who E s).1, (fetchTitle n who E s).2.map Title.quarantined) := by
  simp [OwnerOp.fetch, h]

theorem OwnerOp.fetch_patron {n : Nat} (h : o.target = (.patron, n)) :
    o.fetch who E s = ((fetchPatron n who E s).1, (fetchPatron n who E s).2.map Patron.quarantined) := by
  simp [OwnerOp.fetch, h]

/-- A record that is quarantined, or that passes its check, is read without a change. -/
theorem OwnerOp.fetch_read {q : Bool} (hm : o.mark s = some q) (hq : q = true ∨ o.passesCheck s = true) :
    o.fetch who E s = (s, some q) := by
  unfold OwnerOp.mark at hm
  unfold OwnerOp.passesCheck at hq
  split at hm <;> rename_i hsp
  · obtain ⟨r, hr, rfl⟩ := Option.map_eq_some_iff.1 hm
    rw [OwnerOp.fetch_item (Prod.ext hsp rfl), fetchItem_read hr (by simpa [hsp, hr] using hq)]
    rfl
  · obtain ⟨t, ht, rfl⟩ := Option.map_eq_some_iff.1 hm
    rw [OwnerOp.fetch_title (Prod.ext hsp rfl), fetchTitle_read ht (by simpa [hsp, ht] using hq)]
    rfl
  · obtain ⟨p, hp, rfl⟩ := Option.map_eq_some_iff.1 hm
    rw [OwnerOp.fetch_patron (Prod.ext hsp rfl), fetchPatron_read hp (by simpa [hsp, hp] using hq)]
    rfl

theorem OwnerOp.mark_item {n : Nat} (h : o.target = (.item, n)) :
    o.mark s = (getItem n s).map Item.quarantined := by simp [OwnerOp.mark, h]

theorem OwnerOp.mark_title {n : Nat} (h : o.target = (.title, n)) :
    o.mark s = (getTitle n s).map Title.quarantined := by simp [OwnerOp.mark, h]

theorem OwnerOp.mark_patron {n : Nat} (h : o.target = (.patron, n)) :
    o.mark s = (getPatron n s).map Patron.quarantined := by simp [OwnerOp.mark, h]

/-- A read that finds a record finds it in one of the three tables. -/
theorem fetched {α : Type} {f : State × Option α} {q : α → Bool} {s1 : State} {b : Bool}
    (h : (f.1, f.2.map q) = (s1, some b)) : ∃ x, f = (s1, some x) ∧ q x = b := by
  obtain ⟨s0, x⟩ := f
  obtain ⟨rfl, hx⟩ := Prod.mk.inj h
  obtain ⟨y, rfl, hy⟩ := Option.map_eq_some_iff.1 hx
  exact ⟨y, rfl, hy⟩

/-- Check 2: without a record all but a CREATE are refused. -/
theorem applyOp_missing (hg : ∀ a, gateOf (viewOf o.block s) o.isRead ≠ .answer a) (hc : o.isCreate = false)
    (hm : o.mark s = none) : applyOp o who E s = (s, .refused o.missing .nothing) := by
  cases opForm who E s o with
  | item n rule target _ _ missing form =>
    rw [form, missing]
    rw [OwnerOp.block, target] at hg
    exact itemOp_missing hg (by simpa [OwnerOp.mark_item target] using hm)
  | title n rule target _ _ form =>
    rw [form]
    rw [OwnerOp.block, target] at hg
    exact titleOp_missing hg (by simpa [OwnerOp.mark_title target] using hm)
  | patron n rule target _ _ missing form =>
    rw [form, missing]
    rw [OwnerOp.block, target] at hg
    exact patronOp_missing hg (by simpa [OwnerOp.mark_patron target] using hm)
  | itemDelete n op =>
    subst op; exact opItemDelete_missing hg (by simpa [OwnerOp.mark, OwnerOp.target] using hm)
  | titleDelete n op =>
    subst op; exact opTitleDelete_missing hg (by simpa [OwnerOp.mark, OwnerOp.target] using hm)
  | patronDelete n op =>
    subst op; exact opPatronDelete_missing hg (by simpa [OwnerOp.mark, OwnerOp.target] using hm)
  | create op => simp [op] at hc

/-- Check 3: a quarantined record, or one that the read marks so, refuses all but a DELETE. -/
theorem applyOp_damaged {s1 : State} (hg : ∀ a, gateOf (viewOf o.block s) o.isRead ≠ .answer a)
    (hc : o.isCreate = false) (hd : o.isDelete = false) (hf : o.fetch who E s = (s1, some true)) :
    applyOp o who E s = (s1, .refused .damaged .nothing) := by
  cases opForm who E s o with
  | item n rule target _ _ _ form =>
    rw [form]
    rw [OwnerOp.block, target] at hg
    obtain ⟨r, hr, hq⟩ := fetched ((OwnerOp.fetch_item target).symm.trans hf)
    exact itemOp_damaged hg hr hq
  | title n rule target _ _ form =>
    rw [form]
    rw [OwnerOp.block, target] at hg
    obtain ⟨t, ht, hq⟩ := fetched ((OwnerOp.fetch_title target).symm.trans hf)
    exact titleOp_damaged hg ht hq
  | patron n rule target _ _ _ form =>
    rw [form]
    rw [OwnerOp.block, target] at hg
    obtain ⟨p, hp, hq⟩ := fetched ((OwnerOp.fetch_patron target).symm.trans hf)
    exact patronOp_damaged hg hp hq
  | itemDelete n op => subst op; cases hd
  | titleDelete n op => subst op; cases hd
  | patronDelete n op => subst op; cases hd
  | create op => simp [op] at hc

/-- Check 4: with fewer than 3 free entries an operation on a record that the checks before let go on is deferred. -/
theorem applyOp_noRoom {q : Bool} (hv : viewOf o.block s = .home) (hr : freePlaces s < 3)
    (hc : o.isCreate = false) (hf : o.fetch who E s = (s, some q)) (hq : q = true → o.isDelete = true) :
    applyOp o who E s = (s, .deferred) := by
  cases opForm who E s o with
  | item n rule target _ delete _ form =>
    rw [form]
    rw [OwnerOp.block, target] at hv
    obtain ⟨r, fetch, mark⟩ := fetched ((OwnerOp.fetch_item target).symm.trans hf)
    exact itemOp_noRoom hv fetch (by simp_all) hr
  | title n rule target _ delete form =>
    rw [form]
    rw [OwnerOp.block, target] at hv
    obtain ⟨t, fetch, mark⟩ := fetched ((OwnerOp.fetch_title target).symm.trans hf)
    exact titleOp_noRoom hv fetch (by simp_all) hr
  | patron n rule target _ delete _ form =>
    rw [form]
    rw [OwnerOp.block, target] at hv
    obtain ⟨p, fetch, mark⟩ := fetched ((OwnerOp.fetch_patron target).symm.trans hf)
    exact patronOp_noRoom hv fetch (by simp_all) hr
  | itemDelete n op =>
    subst op
    obtain ⟨r, fetch, -⟩ := fetched hf
    exact opItemDelete_noRoom hv fetch hr
  | titleDelete n op =>
    subst op
    obtain ⟨t, fetch, -⟩ := fetched hf
    exact opTitleDelete_noRoom hv fetch hr
  | patronDelete n op =>
    subst op
    obtain ⟨p, fetch, -⟩ := fetched hf
    exact opPatronDelete_noRoom hv fetch hr
  | create op => simp [op] at hc

/-- Check 4 for a CREATE. -/
theorem applyOp_create_noRoom (hv : viewOf o.block s = .home) (hr : freePlaces s < 3) (hc : o.isCreate = true) :
    applyOp o who E s = (s, .deferred) := by
  cases opForm who E s o with
  | create _ _ _ noRoom => exact noRoom hv hr
  | item _ _ _ create | title _ _ _ create | patron _ _ _ create => simp [create] at hc
  | itemDelete _ op | titleDelete _ op | patronDelete _ op => subst op; cases hc

end Checks

end Sys2Proof.Machine
end

section
/-! PROOFS. The operations on an item record at its home (chapter 1). -/

namespace Sys2Proof.Machine

/-! ## An operation on a current record -/

section Current

variable {n E : Nat} {who : Requester} {read : Bool} {rule : Item → ItemResult} {s : State} {r r' : Item}
  {es : List Effect} {o : OwnerOp}

/-- A record that is current is not touched (R4). -/
theorem touchItem_current (h : r.currentTo = E) : touchItem E n r s = (s, r) := by
  simp [touchItem, h]

/-- An operation answered DONE writes the record and queues what its rule says (R5). -/
theorem itemOp_done {v : Values} (hv : viewOf (blockOf .item n) s = .home) (hp : 3 ≤ freePlaces s)
    (hr : itemAt n r E s) (h : rule r = (r', es, .done v)) :
    itemOp n who E read rule s = (emitAll es (putItem n r' s), .done v) := by
  obtain ⟨found, whole, agrees, current⟩ := hr
  simp [itemOp, hv, gateOf, fetchItem_read found (.inr agrees), whole, roomForOp, hp, touchItem_current current, h]

/-- A refused operation changes no record and queues nothing (R5). -/
theorem itemOp_refused {why : Reason} (hv : viewOf (blockOf .item n) s = .home) (hp : 3 ≤ freePlaces s)
    (hr : itemAt n r E s) (h : rule r = .refuse r why) :
    itemOp n who E read rule s = (s, .refused why .nothing) := by
  obtain ⟨found, whole, agrees, current⟩ := hr
  simp [itemOp, hv, gateOf, fetchItem_read found (.inr agrees), whole, roomForOp, hp, touchItem_current current, h,
    ItemResult.refuse]

/-- The command of an item operation whose rule answers DONE. -/
theorem exec_item_done {v : Values} (hg : granted o who E s) (ht : o.target = (.item, n)) (hr : itemAt n r E s)
    (form : applyOp o who E s = itemOp n who E read rule s) (h : rule r = (r', es, .done v)) :
    exec o.row s = .next (afterAnswer (.done v) (emitAll es (putItem n r' s))) := by
  obtain ⟨held, home, room⟩ := hg
  rw [OwnerOp.block, ht] at home
  exact exec_row_eq held (form.trans (itemOp_done home room hr h))

/-- The command of an item operation whose rule refuses. -/
theorem exec_item_refused {why : Reason} (hg : granted o who E s) (ht : o.target = (.item, n))
    (hr : itemAt n r E s) (form : applyOp o who E s = itemOp n who E read rule s) (h : rule r = .refuse r why) :
    exec o.row s = .next (afterAnswer (.refused why .nothing) s) := by
  obtain ⟨held, home, room⟩ := hg
  rw [OwnerOp.block, ht] at home
  exact exec_row_eq held (form.trans (itemOp_refused home room hr h))

end Current

/-! ## LEND_ITEM and EXTEND -/

/-- Settles O10: the record's state decides, and in HELD the three checks in their order. -/
theorem lendItemLendsOrRefuses : Obligations.LendItemLendsOrRefuses := by
  intro s who E n p x st r hg hr
  refine ⟨fun hs => ?_, fun t ready by_ lapsed hs => ?_, fun hshelf hheld => ?_⟩
  · exact exec_item_done hg rfl hr rfl (by simp only [lendItemRule, hs]; rfl)
  · split_ifs with patron lapse pickup
    · exact exec_item_refused hg rfl hr rfl (by simp only [lendItemRule, hs, if_pos patron])
    · exact exec_item_refused hg rfl hr rfl (by simp only [lendItemRule, hs, if_neg patron, if_pos lapse])
    · exact exec_item_refused hg rfl hr rfl
        (by simp only [lendItemRule, hs, if_neg patron, if_neg lapse, if_pos pickup])
    · exact exec_item_done hg rfl hr rfl
        (by simp only [lendItemRule, hs, if_neg patron, if_neg lapse, if_neg pickup]; rfl)
  · refine exec_item_refused hg rfl hr rfl ?_
    cases hs : r.state <;> simp_all [lendItemRule, ItemState.code]

/-- Settles O11: the five checks in their order, each deciding before the next, and the renewal past them. -/
theorem extendChecksThenRenews : Obligations.ExtendChecksThenRenews := by
  intro s who E n p x r hg hr
  refine ⟨fun hloan => ?_, fun b due ren trapped hs => ?_⟩
  · refine exec_item_refused hg rfl hr rfl ?_
    cases hs : r.state <;> simp_all [extendRule, ItemState.code]
  · simp only
    split_ifs with borrower trap limit gain
    · exact exec_item_refused hg rfl hr rfl (by simp only [extendRule, hs, if_pos borrower])
    · exact exec_item_refused hg rfl hr rfl (by simp only [extendRule, hs, if_neg borrower, if_pos trap])
    · exact exec_item_refused hg rfl hr rfl
        (by simp only [extendRule, hs, if_neg borrower, if_neg trap, if_pos limit])
    · exact exec_item_refused hg rfl hr rfl
        (by simp only [extendRule, hs, if_neg borrower, if_neg trap, if_neg limit, if_pos gain])
    · rw [← emitAll_overdueCharge]
      have h := exec_item_done hg rfl hr rfl
        (by simp only [extendRule, hs, if_neg borrower, if_neg trap, if_neg limit, if_neg gain]; rfl)
      simpa [OwnerOp.row, emitAll_append] using h

/-! ## TAKE_RETURN -/

/-- Settles O12: a loan is closed with its fine, a loss with its credit, and the item goes by its trapped mark and the
scanning station. -/
theorem returnEndsTheLoan : Obligations.ReturnEndsTheLoan := by
  refine ⟨fun s who E n sc r b due ren trapped hg hr hs => ?_, fun s who E n sc r b due fine repl hg hr hs => ?_⟩
  · simp only [← emitAll_overdueCharge]
    split_ifs with trap shelf
    · have h := exec_item_done hg rfl hr rfl (by simp only [takeReturnRule, hs, if_pos trap]; rfl)
      simpa [OwnerOp.row, emitAll_append, ItemState.code, hs] using h
    · have h := exec_item_done hg rfl hr rfl
        (by simp only [takeReturnRule, hs, if_neg trap, homeward, if_pos shelf]; rfl)
      simpa [OwnerOp.row, emitAll_append, ItemState.code, hs, reportCopy, ItemState.report] using h
    · have h := exec_item_done hg rfl hr rfl
        (by simp only [takeReturnRule, hs, if_neg trap, homeward, if_neg shelf]; rfl)
      simpa [OwnerOp.row, emitAll_append, ItemState.code, hs, reportCopy, ItemState.report] using h
  · have credit : ∀ u : State, emitAll (if 0 < repl then [.send (.credit b repl n)] else []) u =
        if 0 < repl then enqueue (.credit b repl n) u else u := by
      intro u; split <;> rfl
    simp only [← credit]
    by_cases shelf : sc = r.shelf
    · have h := exec_item_done hg rfl hr rfl (by simp only [takeReturnRule, hs, homeward, if_pos shelf]; rfl)
      simpa [OwnerOp.row, emitAll_append, ItemState.code, hs, reportCopy, ItemState.report, shelf] using h
    · have h := exec_item_done hg rfl hr rfl (by simp only [takeReturnRule, hs, homeward, if_neg shelf]; rfl)
      simpa [OwnerOp.row, emitAll_append, ItemState.code, hs, reportCopy, ItemState.report, shelf] using h

/-- Settles O13: where an item without a loan goes from the scanning station; in ON_SHELF, AWAIT_ROUTE and HELD the
record written is the record that stands. -/
theorem returnRoutesTheItem : Obligations.ReturnRoutesTheItem := by
  refine ⟨fun s who E n sc r hg hr => ⟨fun t hs => ?_, fun t dest hs => ?_, fun dest hs => ?_⟩,
    fun s who E n sc r ht hg hr => ?_⟩
  · split_ifs with here
    · have h := exec_item_done hg rfl hr rfl (by simp only [takeReturnRule, hs, holdward, if_pos here]; rfl)
      simpa [OwnerOp.row, ItemState.code, ItemState.target, hs] using h
    · have h := exec_item_done hg rfl hr rfl (by simp only [takeReturnRule, hs, holdward, if_neg here]; rfl)
      simpa [OwnerOp.row, ItemState.code, hs] using h
  · split_ifs with here
    · have h := exec_item_done hg rfl hr rfl (by simp only [takeReturnRule, hs, if_pos here]; rfl)
      simpa [OwnerOp.row, ItemState.code, ItemState.target, hs] using h
    · have h := exec_item_done hg rfl hr rfl (by simp only [takeReturnRule, hs, if_neg here]; rfl)
      simpa [OwnerOp.row, ItemState.code, hs] using h
  · split_ifs with here
    · have h := exec_item_done hg rfl hr rfl (by simp only [takeReturnRule, hs, if_pos here]; rfl)
      simpa [OwnerOp.row, ItemState.code, hs, reportCopy, ItemState.report] using h
    · have h := exec_item_done hg rfl hr rfl (by simp only [takeReturnRule, hs, if_neg here]; rfl)
      simpa [OwnerOp.row, ItemState.code, hs] using h
  · have stands := putItem_self ht hr.1 hr.2.2.1
    refine ⟨fun hs => ?_, fun hs => ?_, fun t ready by_ lapsed hs => ?_⟩
    · have h := exec_item_done hg rfl hr rfl (by simp only [takeReturnRule, hs]; rfl)
      by_cases here : sc = r.shelf <;> simpa [OwnerOp.row, ItemState.code, hs, stands, here] using h
    · have h := exec_item_done hg rfl hr rfl (by simp only [takeReturnRule, hs]; rfl)
      simpa [OwnerOp.row, ItemState.code, hs, stands] using h
    · have h := exec_item_done hg rfl hr rfl (by simp only [takeReturnRule, hs]; rfl)
      by_cases here : sc = t.pickup <;>
        simpa [OwnerOp.row, ItemState.code, ItemState.target, hs, stands, here] using h

/-! ## ITEM_READ -/

/-- Settles O14: the summary is that of the record as it stands, written back in HOME and served as stored in
LENDING. -/
theorem itemReadAnswersTheRecord : Obligations.ItemReadAnswersTheRecord := by
  rintro s who E n r ht (⟨hg, hr⟩ | ⟨held, ⟨st, lent⟩, found, whole, agrees⟩)
  · have h := exec_item_done hg rfl hr rfl rfl
    simpa [OwnerOp.row, summaryOf, putItem_self ht hr.1 hr.2.2.1, hr.2.1] using h
  · refine exec_row_eq held ?_
    simp [applyOp, opItemRead, itemOp, lent, gateOf, fetchItem_read found (.inr agrees), whole, summaryOf]

end Sys2Proof.Machine
end

section
/-! PROOFS. Items made and removed (O9), and the day transitions by a touch (O15). -/

namespace Sys2Proof.Machine

section Checks

variable {s : State} {o : OwnerOp} {who : Requester} {E : Nat}

theorem eq_itemDelete {n : Nat} (ht : o.target = (.item, n)) (hd : o.isDelete = true) : o = .itemDelete n := by
  cases o <;> simp_all [OwnerOp.target, OwnerOp.isDelete]

theorem eq_titleDelete {n : Nat} (ht : o.target = (.title, n)) (hd : o.isDelete = true) : o = .titleDelete n := by
  cases o <;> simp_all [OwnerOp.target, OwnerOp.isDelete]

theorem eq_patronDelete {n : Nat} (ht : o.target = (.patron, n)) (hd : o.isDelete = true) :
    o = .patronDelete n := by
  cases o <;> simp_all [OwnerOp.target, OwnerOp.isDelete]

/-- The view answers every operation but those that HOME lets go on, and the reads that LENDING does (R3, R30, R69). -/
theorem exec_row_gated {a : StepAnswer} (held : heldOp s = some ⟨o, who, E⟩)
    (h : gateOf (viewOf o.block s) o.isRead = .answer a) : exec o.row s = .next (afterAnswer a s) :=
  exec_row_eq held (applyOp_gated h)

/-- The checks of the view, the record, the mark and the room, in their order. -/
theorem ownerChecks (held : heldOp s = some ⟨o, who, E⟩) :
    let view := viewOf o.block s
    let lending := ∃ st, view = .lending st
    let answers := fun a => exec o.row s = .next (afterAnswer a s)
    (view = .probing ∨ (∃ st, view = .receiving st) ∨ (lending ∧ o.isRead = false) → answers .deferred) ∧
    (∀ st, view = .foreign st → answers (.movedTo st)) ∧
    (view = .unknown → answers .notOwner) ∧
    (view = .home ∨ (lending ∧ o.isRead = true) →
      (o.isCreate = false → o.mark s = none →
        answers (.refused (if o.code = .copyAdd then .notEnrolled else .notFound) .nothing)) ∧
      (o.isCreate = false → o.isDelete = false → o.mark s = some true →
        answers (.refused .damaged .nothing))) ∧
    (view = .home → freePlaces s < 3 →
      o.isCreate = true ∨ (o.isDelete = true ∧ o.mark s = some true) ∨
        (o.mark s = some false ∧ o.passesCheck s = true) →
      answers .deferred) := by
  intro view lending answers
  refine ⟨?_, fun st h => ?_, fun h => ?_, fun h => ⟨fun hc hm => ?_, fun hc hd hm => ?_⟩, fun hv hr h => ?_⟩
  · rintro (h | ⟨st, h⟩ | ⟨⟨st, h⟩, read⟩)
    · exact exec_row_gated held (by rw [show viewOf o.block s = _ from h]; rfl)
    · exact exec_row_gated held (by rw [show viewOf o.block s = _ from h]; rfl)
    · exact exec_row_gated held (by rw [show viewOf o.block s = _ from h, read]; rfl)
  · exact exec_row_gated held (by rw [show viewOf o.block s = _ from h]; rfl)
  · exact exec_row_gated held (by rw [show viewOf o.block s = _ from h]; rfl)
  · exact exec_row_eq held (applyOp_missing (gateOf_ne_answer h) hc hm)
  · exact exec_row_eq held (applyOp_damaged (gateOf_ne_answer h) hc hd (OwnerOp.fetch_read hm (.inl rfl)))
  · refine exec_row_eq held ?_
    rcases h with hc | ⟨hd, hm⟩ | ⟨hm, check⟩
    · exact applyOp_create_noRoom hv hr hc
    · have hc : o.isCreate = false := by cases o <;> simp_all [OwnerOp.isCreate, OwnerOp.isDelete]
      exact applyOp_noRoom hv hr hc (OwnerOp.fetch_read hm (.inl rfl)) fun _ => hd
    · cases hc : o.isCreate
      · exact applyOp_noRoom hv hr hc (OwnerOp.fetch_read hm (.inr check)) (by simp)
      · exact applyOp_create_noRoom hv hr hc

end Checks

/-! ## ITEM_CREATE and ITEM_DELETE -/

section Made

variable {s : State} {who : Requester} {E n : Nat}

theorem exec_itemCreate {title cls shelf : Nat} (h : granted (.itemCreate n title cls shelf) who E s) :
    exec .itemCreate s = .next
      (if (getItem n s).isSome then afterAnswer (.refused .exists_ .nothing) s
       else if freeItems s = 0 then afterAnswer (.refused .poolFull .nothing) s
       else
        afterAnswer (.done (.itemCreated n title))
          (putItem n ⟨title, cls, shelf, .onShelf, shelf, E, false, .agrees⟩ s)) := by
  obtain ⟨held, home, room⟩ := h
  rw [OwnerOp.block, OwnerOp.target] at home
  split_ifs with found full
  · exact exec_row_eq held (by simp [applyOp, opItemCreate, home, gateOf, roomForOp, room, found])
  · exact exec_row_eq held (by simp [applyOp, opItemCreate, home, gateOf, roomForOp, room, found, full])
  · exact exec_row_eq held (by simp [applyOp, opItemCreate, home, gateOf, roomForOp, room, found, full])

/-- A record that is not on the shelf stands (R8). -/
theorem exec_itemDelete_wrongState {r : Item} (h : granted (.itemDelete n) who E s) (hr : itemAt n r E s)
    (hs : r.state ≠ .onShelf) :
    exec .itemDelete s = .next (afterAnswer (.refused .wrongState .nothing) s) := by
  obtain ⟨held, home, room⟩ := h
  obtain ⟨found, whole, agrees, current⟩ := hr
  rw [OwnerOp.block, OwnerOp.target] at home
  exact exec_row_eq held (by
    simp [applyOp, opItemDelete, home, gateOf, fetchItem_read found (.inr agrees), whole, roomForOp, room,
      touchItem_current current, hs])

/-- A record on the shelf, or with the quarantine mark, is removed (R8). -/
theorem exec_itemDelete_removes {r : Item} (h : granted (.itemDelete n) who E s)
    (hr : (itemAt n r E s ∧ r.state = .onShelf) ∨ (getItem n s = some r ∧ r.quarantined = true)) :
    exec .itemDelete s = .next
      (afterAnswer (.done (.itemDeleted n r.title r.state.code))
        (enqueue (.copyRemove r.title n) (dropItem n s))) := by
  obtain ⟨held, home, room⟩ := h
  rw [OwnerOp.block, OwnerOp.target] at home
  refine exec_row_eq held ?_
  rcases hr with ⟨⟨found, whole, agrees, current⟩, shelf⟩ | ⟨found, mark⟩
  · simp [applyOp, opItemDelete, home, gateOf, fetchItem_read found (.inr agrees), whole, roomForOp, room,
      touchItem_current current, shelf, deleteItem]
  · exact opItemDelete_damaged (by simp [home, gateOf]) (fetchItem_read found (.inl mark)) mark room

end Made

/-! ## A record whose check fails -/

section Failing

variable {s u gone : State} {o : OwnerOp} {who : Requester} {E n : Nat}

/-- An operation other than a DELETE on a record that the read marks is refused DAMAGED (R181). -/
theorem exec_row_failing (held : heldOp s = some ⟨o, who, E⟩)
    (view : viewOf o.block s = .home ∨ ((∃ st, viewOf o.block s = .lending st) ∧ o.isRead = true))
    (create : o.isCreate = false) (delete : o.isDelete = false) (fetch : o.fetch who E s = (u, some true)) :
    exec o.row s = .next (afterAnswer (.refused .damaged .nothing) u) :=
  exec_row_eq held (applyOp_damaged (gateOf_ne_answer view) create delete fetch)

theorem exec_itemDelete_failing {r : Item} (held : heldOp s = some ⟨.itemDelete n, who, E⟩)
    (view : ∀ a, gateOf (viewOf (blockOf .item n) s) false ≠ .answer a) (room : 3 ≤ freePlaces s)
    (found : getItem n s = some r) (whole : r.quarantined = false) (fails : r.check ≠ .agrees) :
    exec .itemDelete s = .next
      (afterAnswer (.done (.itemDeleted n r.title r.state.code))
        (enqueue (.copyRemove r.title n)
          (dropItem n (recordFault ⟨.checkFailed, .item, n, who, E, none⟩ (markItem n r s))))) :=
  exec_row_eq held
    (opItemDelete_damaged (r := { r with quarantined := true }) view (fetchItem_failing found whole fails) rfl
      (by simpa using room))

theorem exec_titleDelete_failing {t : Title} (held : heldOp s = some ⟨.titleDelete n, who, E⟩)
    (view : ∀ a, gateOf (viewOf (blockOf .title n) s) false ≠ .answer a) (room : 3 ≤ freePlaces s)
    (found : getTitle n s = some t) (whole : t.quarantined = false) (fails : t.checks = false) :
    exec .titleDelete s = .next
      (afterAnswer (.done (.titleDeleted n t.copies.length t.holds.length))
        (dropTitle n (recordFault ⟨.checkFailed, .title, n, who, E, none⟩ (markTitle n t s)))) :=
  exec_row_eq held
    (opTitleDelete_damaged (t := { t with quarantined := true }) view (fetchTitle_failing found whole fails) rfl
      (by simpa using room))

theorem exec_patronDelete_failing {p : Patron} (held : heldOp s = some ⟨.patronDelete n, who, E⟩)
    (view : ∀ a, gateOf (viewOf (blockOf .patron n) s) false ≠ .answer a) (room : 3 ≤ freePlaces s)
    (found : getPatron n s = some p) (whole : p.quarantined = false) (fails : p.check ≠ .agrees) :
    exec .patronDelete s = .next
      (afterAnswer (.done (.patronDeleted n))
        (dropPatron n (recordFault ⟨.checkFailed, .patron, n, who, E, none⟩ (markPatron n p s)))) :=
  exec_row_eq held
    (opPatronDelete_damaged view (fetchPatron_failing found whole fails) rfl (by simpa using room))

end Failing

/-- Settles O9: the shared checks, the making and the removal of an item, and a record whose check fails in each of the
three number spaces. -/
theorem itemsAreMadeAndRemoved : Obligations.ItemsAreMadeAndRemoved := by
  refine ⟨fun s o who E held => ownerChecks held, fun s who E n title cls shelf h => exec_itemCreate h,
    fun s who E n r h => ⟨exec_itemDelete_wrongState h, exec_itemDelete_removes h⟩,
    fun s o who E n held view create => ⟨fun r ht found whole fails => ?_, fun t ht found whole fails => ?_,
      fun p ht found whole fails => ?_⟩⟩
  · rw [Item.wordAgrees_iff] at fails
    refine ⟨fun delete => exec_row_failing held view create delete ?_, fun delete room _ => ?_⟩
    · rw [OwnerOp.fetch_item ht, fetchItem_failing found whole fails]; rfl
    · obtain rfl := eq_itemDelete ht delete
      exact exec_itemDelete_failing held (gateOf_ne_answer view) room found whole fails
  · rw [Title.wordsAgree_iff, Bool.not_eq_true] at fails
    refine ⟨fun delete => exec_row_failing held view create delete ?_, fun delete room _ => ?_⟩
    · rw [OwnerOp.fetch_title ht, fetchTitle_failing found whole fails]; rfl
    · obtain rfl := eq_titleDelete ht delete
      exact exec_titleDelete_failing held (gateOf_ne_answer view) room found whole fails
  · rw [Patron.wordAgrees_iff] at fails
    refine ⟨fun delete => exec_row_failing held view create delete ?_, fun delete room _ => ?_⟩
    · rw [OwnerOp.fetch_patron ht, fetchPatron_failing found whole fails]; rfl
    · obtain rfl := eq_patronDelete ht delete
      exact exec_patronDelete_failing held (gateOf_ne_answer view) room found whole fails

/-! ## Sweep-on-touch (R4, R23, R64) -/

section Touch

variable {row : ClassRow} {cal : Calendar} {day n E : Nat} {r : Item} {who : Requester} {s : State}

/-- A record brought up to a day is current to it, and keeps its mark and its check word. -/
theorem bringUp_kept (row : ClassRow) (cal : Calendar) (day n : Nat) (r : Item) :
    (bringUp row cal day n r).1.currentTo = day ∧ (bringUp row cal day n r).1.quarantined = r.quarantined ∧
      (bringUp row cal day n r).1.check = r.check := by
  unfold bringUp
  split
  · split <;> exact ⟨rfl, rfl, rfl⟩
  · split <;> exact ⟨rfl, rfl, rfl⟩
  · exact ⟨rfl, rfl, rfl⟩

/-- A day transition queues dispatches and posts no notice (R61, R62). -/
theorem bringUp_sends (row : ClassRow) (cal : Calendar) (day n : Nat) (r : Item) :
    ∃ ds : List Dispatch, (bringUp row cal day n r).2 = ds.map .send := by
  unfold bringUp
  split
  · split
    · dsimp only
      split
      · exact ⟨[_, _], rfl⟩
      · exact ⟨[_], rfl⟩
    · exact ⟨[], rfl⟩
  · split
    · exact ⟨[_], rfl⟩
    · exact ⟨[], rfl⟩
  · exact ⟨[], rfl⟩

/-- R61: the loss. -/
theorem bringUp_loss {b due ren : Nat} {tr : Bool} (hs : r.state = .onLoan b due ren tr)
    (h : due + row.lostAfter ≤ day) :
    bringUp row cal day n r =
      ({ r with state := .lost b due (overdueFine row cal due day) row.replacement, currentTo := day },
        (if 0 < overdueFine row cal due day + row.replacement then
          [.send (.charge b (overdueFine row cal due day + row.replacement) n .lost)] else []) ++
          [.send (.copyState r.title n .lost false)]) := by
  simp [bringUp, hs, lossDue, h]

/-- R62: the lapse. -/
theorem bringUp_lapse {t : HoldTarget} {ready by_ : Nat} (hs : r.state = .held t ready by_ false)
    (h : by_ < day) :
    bringUp row cal day n r =
      ({ r with state := .held t ready by_ true, currentTo := day },
        [.send (.pickupLapsed r.title t.patron n)]) := by
  simp [bringUp, hs, lapseDue, h]

/-- In every other case only the current-to day is written. -/
theorem bringUp_rest (loan : ∀ b due ren tr, r.state = .onLoan b due ren tr → day < due + row.lostAfter)
    (hold : ∀ t ready by_, r.state = .held t ready by_ false → day ≤ by_) :
    bringUp row cal day n r = ({ r with currentTo := day }, []) := by
  unfold bringUp
  split
  · rename_i b due ren tr hs
    have := loan b due ren tr hs
    simp [lossDue, Nat.not_le.2 this]
  · rename_i t ready by_ lapsed hs
    cases lapsed with
    | true => simp [lapseDue]
    | false => simp [lapseDue, hold t ready by_ hs]
  · rfl

/-- What a dispatch for an item leaves where it finds no record: an ALLOCATE is answered, every other is dropped (R23,
R24). -/
def Dispatch.withoutItem : Dispatch → State → State
  | .allocate i t _ _ => enqueue (.copyState t i .away true)
  | _ => id

/-- A dispatch for an item is applied to the item's record (R23). -/
theorem applyDispatch_item {d : Dispatch} (target : d.target = some (.item, n)) :
    ∃ rule, ∀ s, applyDispatch d E s = itemDispatch d n E d.withoutItem rule s := by
  cases d <;>
    simp only [Dispatch.target, Option.some.injEq, Prod.mk.injEq, reduceCtorEq, false_and, true_and] at target <;>
    subst target
  case trap i => exact ⟨fun _ r => trapRule i r, fun _ => rfl⟩
  case untrap i => exact ⟨fun _ r => (untrapRule r, []), fun _ => rfl⟩
  case allocate i t p k => exact ⟨fun _ r => allocateRule i t p k r, fun _ => rfl⟩
  case redirect i p k => exact ⟨fun u r => redirectRule (pickupWindow u) E i p k r, fun _ => rfl⟩
  case release i => exact ⟨fun _ r => releaseRule i r, fun _ => rfl⟩

/-- The state in which an item record has been brought up to a day: the record written, and the dispatches of its
transition queued (R4, R64). -/
def touched (E n : Nat) (r : Item) (s : State) : State :=
  emitAll (bringUp (classRow s r.cls) (calendarOf s) E n r).2
    (putItem n (bringUp (classRow s r.cls) (calendarOf s) E n r).1 s)

/-- A touch writes nothing but the record and the dispatch queue. -/
theorem touched_eq (E n : Nat) (r : Item) (s : State) :
    ∃ q, touched E n r s = { putItem n (bringUp (classRow s r.cls) (calendarOf s) E n r).1 s with queue := q } := by
  obtain ⟨ds, h⟩ := bringUp_sends (classRow s r.cls) (calendarOf s) E n r
  rw [touched, h, emitAll_sends]
  exact enqueueAll_eq _ _

/-- The record as it stands after the touch. -/
theorem getItem_touched (h : r.check = .agrees) :
    getItem n (touched E n r s) = some (bringUp (classRow s r.cls) (calendarOf s) E n r).1 := by
  obtain ⟨q, hq⟩ := touched_eq E n r s
  have agrees := (bringUp_kept (classRow s r.cls) (calendarOf s) E n r).2.2.trans h
  calc getItem n (touched E n r s)
      = getItem n (putItem n (bringUp (classRow s r.cls) (calendarOf s) E n r).1 s) := by rw [hq]; rfl
    _ = some (bringUp (classRow s r.cls) (calendarOf s) E n r).1 := by rw [getItem_putItem_same, ← agrees]

@[simp] theorem touched_conf : (touched E n r s).conf = s.conf := by
  obtain ⟨q, hq⟩ := touched_eq E n r s; rw [hq]; rfl

@[simp] theorem touched_map : (touched E n r s).map = s.map := by
  obtain ⟨q, hq⟩ := touched_eq E n r s; rw [hq]; rfl

/-- A read of the record after the touch, which needs no touch itself. -/
theorem fetchItem_touched (agrees : r.check = .agrees) :
    fetchItem n who E (touched E n r s) =
      (touched E n r s, some (bringUp (classRow s r.cls) (calendarOf s) E n r).1) :=
  fetchItem_read (getItem_touched agrees)
    (.inr ((bringUp_kept (classRow s r.cls) (calendarOf s) E n r).2.2.trans agrees))

theorem touchItem_stale (h : r.currentTo ≠ E) :
    touchItem E n r s = (touched E n r s, (bringUp (classRow s r.cls) (calendarOf s) E n r).1) := by
  simp [touchItem, h, touched]

variable (whole : r.quarantined = false) (agrees : r.check = .agrees) (stale : r.currentTo ≠ E)
  (found : getItem n s = some r)
include whole agrees stale found

/-- An item operation gives what it gives once the record has been brought up (R4). -/
theorem itemOp_touched {read : Bool} {rule : Item → ItemResult} (home : viewOf (blockOf .item n) s = .home)
    (room : 3 ≤ freePlaces s) :
    itemOp n who E read rule s = itemOp n who E read rule (touched E n r s) := by
  have home' : viewOf (blockOf .item n) (touched E n r s) = .home := by simpa [viewOf] using home
  obtain ⟨current, mark, -⟩ := bringUp_kept (classRow s r.cls) (calendarOf s) E n r
  by_cases room' : 3 ≤ freePlaces (touched E n r s) <;>
    simp [itemOp, home, home', gateOf, fetchItem_read found (.inr agrees), fetchItem_touched agrees, whole, mark,
      roomForOp, room, room', touchItem_stale stale, touchItem_current current]

theorem opItemDelete_touched (home : viewOf (blockOf .item n) s = .home) (room : 3 ≤ freePlaces s) :
    opItemDelete n who E s = opItemDelete n who E (touched E n r s) := by
  have home' : viewOf (blockOf .item n) (touched E n r s) = .home := by simpa [viewOf] using home
  obtain ⟨current, mark, -⟩ := bringUp_kept (classRow s r.cls) (calendarOf s) E n r
  by_cases room' : 3 ≤ freePlaces (touched E n r s) <;>
    simp [opItemDelete, home, home', gateOf, fetchItem_read found (.inr agrees), fetchItem_touched agrees, whole,
      mark, roomForOp, room, room', touchItem_stale stale, touchItem_current current]

/-- Every owner operation on an existing item record (R4). -/
theorem applyOp_touched {o : OwnerOp} (target : o.target = (.item, n)) (create : ∀ t c st, o ≠ .itemCreate n t c st)
    (home : viewOf o.block s = .home) (room : 3 ≤ freePlaces s) :
    applyOp o who E s = applyOp o who E (touched E n r s) := by
  rw [OwnerOp.block, target] at home
  have op := fun read rule =>
    itemOp_touched (who := who) (read := read) (rule := rule) whole agrees stale found home room
  cases o <;> simp only [OwnerOp.target, Prod.mk.injEq, reduceCtorEq, false_and, true_and] at target <;> subst target
  case itemCreate t c st => exact absurd rfl (create t c st)
  case itemDelete => exact opItemDelete_touched whole agrees stale found home room
  case itemRead => exact op _ _
  all_goals
    simpa only [applyOp, opLendItem, opExtend, opTakeReturn, classRow, calendarOf, pickupWindow, touched_conf]
      using op _ _

/-- A dispatch for an item gives what it gives once the record has been brought up (R23). -/
theorem itemDispatch_touched {d : Dispatch} {missing : State → State} {rule : State → Item → Item × List Effect} :
    itemDispatch d n E missing rule s = itemDispatch d n E missing rule (touched E n r s) := by
  obtain ⟨current, mark, -⟩ := bringUp_kept (classRow s r.cls) (calendarOf s) E n r
  simp [itemDispatch, fetchItem_read found (.inr agrees), fetchItem_touched agrees, whole, mark,
    touchItem_stale stale, touchItem_current current]

theorem applyDispatch_touched {d : Dispatch} (target : d.target = some (.item, n)) :
    applyDispatch d E s = applyDispatch d E (touched E n r s) := by
  obtain ⟨rule, form⟩ := applyDispatch_item (E := E) target
  rw [form, form]
  exact itemDispatch_touched whole agrees stale found

end Touch

/-- Settles O15: the three cases of a day transition, and the touch ahead of an operation and of a dispatch. -/
theorem touchAppliesTheDayTransitions : Obligations.TouchAppliesTheDayTransitions := by
  refine ⟨fun row cal day n r => ⟨fun b due ren tr hs h => bringUp_loss hs h,
      fun t ready by_ hs h => bringUp_lapse hs h, bringUp_rest⟩, ?_, ?_⟩
  · intro s o who E n r target create home room found whole agrees stale
    exact applyOp_touched whole agrees stale found target create home room
  · intro s e E n r i held row target found whole agrees stale
    rw [exec_of_applied held row, applyDispatch_touched (s := dropEntry e.id s) whole agrees stale found target]
    rfl

end Sys2Proof.Machine
end

section
/-! PROOFS. The dispatches for an item record (1.10, 1.11): O17 and O18. -/

namespace Sys2Proof.Machine

/-! ## A dispatch for an item at its application -/

section Applied

variable {n E : Nat} {d : Dispatch} {missing : State → State} {rule : State → Item → Item × List Effect} {s : State}
  {r : Item}

theorem itemDispatch_current (hr : itemAt n r E s) :
    itemDispatch d n E missing rule s = emitAll (rule s r).2 (putItem n (rule s r).1 s) := by
  obtain ⟨found, whole, agrees, current⟩ := hr
  simp [itemDispatch, fetchItem_read found (.inr agrees), whole, touchItem_current current]

theorem itemDispatch_missing (h : getItem n s = none) : itemDispatch d n E missing rule s = missing s := by
  simp [itemDispatch, fetchItem_none h]

/-- A dispatch for an item that finds no record (R23, R24). -/
theorem applyDispatch_missing (target : d.target = some (.item, n)) (h : getItem n s = none) :
    applyDispatch d E s = d.withoutItem s := by
  obtain ⟨rule, form⟩ := applyDispatch_item (E := E) target
  exact (form s).trans (itemDispatch_missing h)

/-- A dispatch that finds a quarantined record is discarded (R23, R128). -/
theorem itemDispatch_quarantined (found : getItem n s = some r) (mark : r.quarantined = true) :
    itemDispatch d n E missing rule s = recordFault ⟨.dispatchDiscarded, .item, n, .line, E, some d⟩ s := by
  simp [itemDispatch, fetchItem_read found (.inl mark), mark, discard]

/-- One that finds a check word that fails marks the record, and is discarded (R181). -/
theorem itemDispatch_failing (found : getItem n s = some r) (whole : r.quarantined = false)
    (fails : r.check ≠ .agrees) :
    itemDispatch d n E missing rule s =
      recordFault ⟨.dispatchDiscarded, .item, n, .line, E, some d⟩
        (recordFault ⟨.checkFailed, .item, n, .line, E, none⟩ (markItem n r s)) := by
  simp [itemDispatch, fetchItem_failing found whole fails, discard]

end Applied

section Rules

variable {n E title p k : Nat} {s : State} {e : Entry} {r : Item}

/-- The command of a dispatch that is applied, when what the dispatch leaves is known (R128). -/
theorem exec_applied_eq {i : Instr} {d : Dispatch} {u : State} (h : applied e E s) (hd : e.disp = d)
    (hi : (i, d.kind) ∈ dispatchRows) (ha : applyDispatch d E (dropEntry e.id s) = u) :
    exec i s = .next (afterApplication e u) := by
  subst hd
  rw [exec_of_applied h hi, ha]

/-- TRAP of a current record (R21). -/
theorem exec_trap (h : applied e E s) (hd : e.disp = .trap n) (hr : itemAt n r E s) :
    exec .trap s = .next (afterApplication e
      (emitAll (trapRule n r).2 (putItem n (trapRule n r).1 (dropEntry e.id s)))) :=
  exec_applied_eq h hd (by simp [Dispatch.kind, dispatchRows])
    (itemDispatch_current (missing := id) (rule := fun _ r => trapRule n r) hr)

/-- UNTRAP of a current record (R22). -/
theorem exec_untrap (h : applied e E s) (hd : e.disp = .untrap n) (hr : itemAt n r E s) :
    exec .untrap s = .next (afterApplication e (putItem n (untrapRule r) (dropEntry e.id s))) :=
  exec_applied_eq h hd (by simp [Dispatch.kind, dispatchRows])
    (itemDispatch_current (missing := id) (rule := fun _ r => (untrapRule r, [])) hr)

/-- ALLOCATE of a current record (R24). -/
theorem exec_allocate (h : applied e E s) (hd : e.disp = .allocate n title p k) (hr : itemAt n r E s) :
    exec .allocate s = .next (afterApplication e
      (emitAll (allocateRule n title p k r).2 (putItem n (allocateRule n title p k r).1 (dropEntry e.id s)))) :=
  exec_applied_eq h hd (by simp [Dispatch.kind, dispatchRows])
    (itemDispatch_current (missing := enqueue (.copyState title n .away true))
      (rule := fun _ r => allocateRule n title p k r) hr)

/-- REDIRECT of a current record (R25). -/
theorem exec_redirect (h : applied e E s) (hd : e.disp = .redirect n p k) (hr : itemAt n r E s) :
    exec .redirect s = .next (afterApplication e
      (emitAll (redirectRule (pickupWindow s) E n p k r).2
        (putItem n (redirectRule (pickupWindow s) E n p k r).1 (dropEntry e.id s)))) :=
  exec_applied_eq h hd (by simp [Dispatch.kind, dispatchRows])
    (itemDispatch_current (missing := id) (rule := fun u r => redirectRule (pickupWindow u) E n p k r) hr)

/-- RELEASE of a current record (R26). -/
theorem exec_release (h : applied e E s) (hd : e.disp = .release n) (hr : itemAt n r E s) :
    exec .release s = .next (afterApplication e
      (emitAll (releaseRule n r).2 (putItem n (releaseRule n r).1 (dropEntry e.id s)))) :=
  exec_applied_eq h hd (by simp [Dispatch.kind, dispatchRows])
    (itemDispatch_current (missing := id) (rule := fun _ r => releaseRule n r) hr)

end Rules

/-- A whole record written as it stands, once the entry has left the queue, changes nothing more. -/
theorem putItem_dropEntry_self {s : State} {n E id : Nat} {r : Item} (ht : s.tablesOk) (hr : itemAt n r E s) :
    putItem n r (dropEntry id s) = dropEntry id s :=
  putItem_self (s := dropEntry id s) ht hr.1 hr.2.2.1

/-! ## TRAP, UNTRAP, ALLOCATE -/

/-- Settles O17: the state of the item decides what TRAP, UNTRAP and ALLOCATE leave, and the station of a routing notice
where it goes. -/
theorem trapUntrapAndAllocate : Obligations.TrapUntrapAndAllocate := by
  refine ⟨fun s e E n r ht h hr => ⟨fun hd => ⟨fun b due ren m hs => ?_, fun hs => ?_⟩,
      fun hd => ⟨fun b due ren m hs => ?_, fun hs => ?_⟩⟩,
    fun s e E n title p k ht h hd => ⟨fun r hr => ?_, fun gone => ?_⟩,
    fun u st n route p => ⟨fun here room => ?_, fun here full => ?_, fun away => ?_⟩⟩
  · rw [exec_trap h hd hr]
    simp [trapRule, hs]
  · have rule : trapRule n r = (r, [reportCopy n r false]) := by
      cases hc : r.state <;> simp_all [trapRule, ItemState.code]
    rw [exec_trap h hd hr, rule, putItem_dropEntry_self ht hr]
    rfl
  · rw [exec_untrap h hd hr]
    simp [untrapRule, hs]
  · have rule : untrapRule r = r := by cases hc : r.state <;> simp_all [untrapRule, ItemState.code]
    rw [exec_untrap h hd hr, rule, putItem_dropEntry_self ht hr]
  · rw [exec_allocate h hd hr]
    split_ifs with other shelf
    · simp [allocateRule, other, putItem_dropEntry_self ht hr]
    · simp [allocateRule, not_not.1 other, shelf, reportCopy, ItemState.report]
    · have rule : allocateRule n title p k r = (r, [reportCopy n r true]) := by
        cases hc : r.state <;> simp_all [allocateRule]
      rw [rule, putItem_dropEntry_self ht hr, reportCopy, not_not.1 other]
      rfl
  · exact exec_applied_eq h hd (by simp [Dispatch.kind, dispatchRows]) 
      (applyDispatch_missing (s := dropEntry e.id s) rfl gone)
  · cases route <;> simp [emit, here, routeNotice, postNotice, room, Config.notices]
  · simp [emit, here, postNotice, Nat.not_lt.2 full, Config.notices]
  · simp [emit, away, enqueue]

/-! ## REDIRECT, RELEASE, and a dispatch without a whole record -/

section NoRecord

variable {n E : Nat} {s : State} {e : Entry} {i : Instr}

/-- The five dispatch kinds for an item, each with its row. -/
def ItemRow (i : Instr) (d : Dispatch) (n : Nat) : Prop :=
  (i = .trap ∧ d = .trap n) ∨ (i = .untrap ∧ d = .untrap n) ∨ (i = .redirect ∧ ∃ p k, d = .redirect n p k) ∨
    (i = .release ∧ d = .release n) ∨ (i = .allocate ∧ ∃ x p k, d = .allocate n x p k)

theorem ItemRow.row {d : Dispatch} (h : ItemRow i d n) :
    (i, d.kind) ∈ dispatchRows ∧ d.target = some (.item, n) := by
  rcases h with ⟨rfl, rfl⟩ | ⟨rfl, rfl⟩ | ⟨rfl, p, k, rfl⟩ | ⟨rfl, rfl⟩ | ⟨rfl, x, p, k, rfl⟩ <;>
    simp [Dispatch.kind, Dispatch.target, dispatchRows]

/-- Without a record every kind but ALLOCATE is dropped (R23). -/
theorem exec_itemRow_missing (h : applied e E s) (row : ItemRow i e.disp n) (other : i ≠ .allocate)
    (gone : getItem n s = none) : exec i s = .next (afterApplication e (dropEntry e.id s)) := by
  refine exec_applied_eq h rfl row.row.1 ((applyDispatch_missing (s := dropEntry e.id s) row.row.2 gone).trans ?_)
  rcases row with ⟨_, hd⟩ | ⟨_, hd⟩ | ⟨_, p, k, hd⟩ | ⟨_, hd⟩ | ⟨hi, _⟩
  case inr.inr.inr.inr => exact absurd hi other
  all_goals rw [hd]; rfl

variable {r : Item}

/-- A quarantined record discards the dispatch (R23). -/
theorem exec_itemRow_quarantined (h : applied e E s) (row : ItemRow i e.disp n) (found : getItem n s = some r)
    (mark : r.quarantined = true) :
    exec i s = .next (afterApplication e
      (recordFault ⟨.dispatchDiscarded, .item, n, .line, E, some e.disp⟩ (dropEntry e.id s))) := by
  obtain ⟨rule, form⟩ := applyDispatch_item (E := E) row.row.2
  exact exec_applied_eq h rfl row.row.1
    ((form _).trans (itemDispatch_quarantined (s := dropEntry e.id s) found mark))

/-- A record whose check fails is marked, and discards the dispatch (R181). -/
theorem exec_itemRow_failing (h : applied e E s) (row : ItemRow i e.disp n) (found : getItem n s = some r)
    (whole : r.quarantined = false) (fails : r.check ≠ .agrees) :
    exec i s = .next (afterApplication e
      (recordFault ⟨.dispatchDiscarded, .item, n, .line, E, some e.disp⟩
        (recordFault ⟨.checkFailed, .item, n, .line, E, none⟩ (markItem n r (dropEntry e.id s))))) := by
  obtain ⟨rule, form⟩ := applyDispatch_item (E := E) row.row.2
  exact exec_applied_eq h rfl row.row.1
    ((form _).trans (itemDispatch_failing (s := dropEntry e.id s) found whole fails))

end NoRecord

/-- Settles O18: the state of the item decides what REDIRECT and RELEASE make of it; without a whole record nothing of
it changes but the mark of a failed check. -/
theorem redirectAndReleasePlaceTheCopy : Obligations.RedirectAndReleasePlaceTheCopy := by
  refine ⟨fun s e E n p k r ht h hr hd => ⟨fun hs => ?_, fun hs => ?_, fun hs => ?_⟩,
    fun s e E n ht h hd r hr => ⟨fun hs => ?_, fun hs => ?_, fun hs => ?_, fun hs => ?_⟩,
    fun s e E n i ht h => ⟨fun row gone => ?_, fun row r found => ⟨fun mark => ?_, fun whole fails => ?_⟩⟩,
    fun u f => ⟨fun empty room => ?_, fun locked => ?_⟩⟩
  · have rule : redirectRule (pickupWindow s) E n p k r =
        ({ r with state := (holdward (pickupWindow s) E ⟨p, k⟩ r.at_).1 },
          [.notice r.at_ n (holdward (pickupWindow s) E ⟨p, k⟩ r.at_).2 (some p)]) := by
      cases hc : r.state <;> simp_all [redirectRule, ItemState.code]
    rw [exec_redirect h hd hr, rule]
    split_ifs with here <;> simp [holdward, here]
  · have rule : redirectRule (pickupWindow s) E n p k r =
        ({ r with state := .pull ⟨p, k⟩ }, [.notice r.at_ n (.pull k) (some p)]) := by
      cases hc : r.state <;> simp_all [redirectRule, ItemState.code]
    rw [exec_redirect h hd hr, rule]
    rfl
  · have rule : redirectRule (pickupWindow s) E n p k r = (r, [reportCopy n r true]) := by
      cases hc : r.state <;> simp_all [redirectRule, ItemState.code]
    rw [exec_redirect h hd hr, rule, putItem_dropEntry_self ht hr]
    rfl
  · have rule : releaseRule n r =
        ({ r with state := (homeward r r.at_).1 },
          [.notice r.at_ n (homeward r r.at_).2 none,
            reportCopy n { r with state := (homeward r r.at_).1 } false]) := by
      cases hc : r.state <;> simp_all [releaseRule, ItemState.code]
    rw [exec_release h hd hr, rule]
    split_ifs with here <;> simp [homeward, here, reportCopy, ItemState.report]
  · have rule : releaseRule n r =
        ({ r with state := .onShelf },
          [.notice r.at_ n .shelve none, reportCopy n { r with state := .onShelf } false]) := by
      cases hc : r.state <;> simp_all [releaseRule, ItemState.code]
    rw [exec_release h hd hr, rule]
    rfl
  · have rule : releaseRule n r =
        ({ r with state := .inTransit none r.shelf },
          [.notice r.at_ n (.send r.shelf) none, reportCopy n { r with state := .inTransit none r.shelf } false]) := by
      cases hc : r.state <;> simp_all [releaseRule, ItemState.code]
    rw [exec_release h hd hr, rule]
    rfl
  · have rule : releaseRule n r = (r, [reportCopy n r false]) := by
      cases hc : r.state <;> simp_all [releaseRule, ItemState.code]
    rw [exec_release h hd hr, rule, putItem_dropEntry_self ht hr]
    rfl
  · refine exec_itemRow_missing h ?_ ?_ gone
    · rcases row with row | row | row | row
      exacts [.inl row, .inr (.inl row), .inr (.inr (.inl row)), .inr (.inr (.inr (.inl row)))]
    · rcases row with ⟨rfl, _⟩ | ⟨rfl, _⟩ | ⟨rfl, _⟩ | ⟨rfl, _⟩ <;> simp
  · exact exec_itemRow_quarantined h row found mark
  · exact exec_itemRow_failing h row found whole (by rwa [Item.wordAgrees_iff] at fails)
  · simp [recordFault, empty, postNotice, room, Config.notices]
  · obtain ⟨g, hg⟩ := Option.ne_none_iff_exists'.1 locked
    simp [recordFault, hg]

end Sys2Proof.Machine
end

section
/-! PROOFS. What an answer changes, the ANS of a REQ, and the arbiter's rotation (O41). -/

namespace Sys2Proof.Machine

/-! ## What an answer leaves alone -/

/-- From `a` to `s` the station state, the day unit, the handover engine and the notices stand: what the answer of an
owner operation leaves alone beside what `Rests` says. -/
structure Stays (a s : State) : Prop where
  station : s.station = a.station
  day : s.day = a.day
  hand : s.hand = a.hand
  notices : s.port.notices = a.port.notices

theorem Stays.refl (a : State) : Stays a a := ⟨rfl, rfl, rfl, rfl⟩

section Stays

variable {a s : State}

/-- A change of contexts, queues, line, map and arbiter is none of these. -/
theorem Stays.of_eq {t : State} (h : Stays a s) (station : t.station = s.station) (day : t.day = s.day)
    (hand : t.hand = s.hand) (notices : t.port.notices = s.port.notices) : Stays a t :=
  ⟨station.trans h.station, day.trans h.day, hand.trans h.hand, notices.trans h.notices⟩

theorem setCtx_stays (c : Nat) (x : Ctx) (h : Stays a s) : Stays a (setCtx c x s) := h.of_eq rfl rfl rfl rfl

theorem setRun_stays (c : Nat) (r : Run) (h : Stays a s) : Stays a (setRun c r s) := by
  unfold setRun; split
  · exact setCtx_stays _ _ h
  · exact h

theorem placeOrWait_stays (f : Frame) (o : Owner) (w : Waiter) (h : Stays a s) : Stays a (placeOrWait f o w s) := by
  unfold placeOrWait waitForPlace
  repeat' split
  all_goals exact h.of_eq rfl rfl rfl rfl

theorem askKiosk_stays (c : Nat) (h : Stays a s) : Stays a (askKiosk c s) := h.of_eq rfl rfl rfl rfl

theorem askStream_stays (w : StreamWork) (h : Stays a s) : Stays a (askStream w s) := h.of_eq rfl rfl rfl rfl

theorem askStreamOnce_stays (w : StreamWork) (h : Stays a s) : Stays a (askStreamOnce w s) := by
  unfold askStreamOnce; split
  · exact h
  · exact askStream_stays w h

theorem askCensus_stays (b : Block) (x : Asker) (h : Stays a s) : Stays a (askCensus b x s) := by
  unfold askCensus openCensus
  repeat' split
  · exact h.of_eq rfl rfl rfl rfl
  · exact placeOrWait_stays _ _ _ (h.of_eq rfl rfl rfl rfl)
  · exact h.of_eq rfl rfl rfl rfl

theorem endTransaction_stays (c : Nat) (o : OutcomeCode) (why : Option Reason) (v : Values) (h : Stays a s) :
    Stays a (endTransaction c o why v s) := by
  unfold endTransaction
  dsimp only
  repeat' split
  all_goals exact h.of_eq rfl rfl rfl rfl

theorem deferStep_stays (c : Nat) (h : Stays a s) : Stays a (deferStep c s) := by
  unfold deferStep
  repeat' split
  · exact endTransaction_stays _ _ _ _ (setRun_stays _ _ h)
  · exact setRun_stays _ _ h
  · exact h

theorem censusStep_stays (c : Nat) (b : Block) (h : Stays a s) : Stays a (censusStep c b s) := by
  unfold censusStep
  repeat' split
  · exact endTransaction_stays _ _ _ _ (setRun_stays _ _ h)
  · exact askCensus_stays _ _ (setRun_stays _ _ h)
  · exact h

theorem sendStep_stays (c dest : Nat) (o : OwnerOp) (h : Stays a s) : Stays a (sendStep c dest o s) := by
  unfold sendStep
  split
  · exact placeOrWait_stays _ _ _ (setRun_stays _ _ h)
  · exact h

theorem resolveStep_stays (c : Nat) (h : Stays a s) : Stays a (resolveStep c s) := by
  unfold resolveStep
  repeat' split
  · exact askKiosk_stays _ (setRun_stays _ _ h)
  · exact askKiosk_stays _ (setRun_stays _ _ h)
  · exact sendStep_stays _ _ _ h
  · exact censusStep_stays _ _ h
  · exact deferStep_stays _ h
  · exact deferStep_stays _ h
  · exact h
  · exact h

theorem proceed_stays (c : Nat) (v : Values) (h : Stays a s) : Stays a (proceed c v s) := by
  unfold proceed
  dsimp only
  repeat' split
  · exact resolveStep_stays _ (setRun_stays _ _ h)
  · exact deferStep_stays _ (setRun_stays _ _ h)
  · exact resolveStep_stays _ (setRun_stays _ _ h)
  · exact h

theorem noteOwner_stays (b : Block) (st : Nat) (h : Stays a s) : Stays a (noteOwner b st s) := by
  have foreign : Stays a (becomeForeign b st s) := by
    unfold becomeForeign freeStranded
    split
    · exact h.of_eq rfl rfl rfl rfl
    · exact askStreamOnce_stays _ (h.of_eq rfl rfl rfl rfl)
  unfold noteOwner
  split <;> first | exact foreign | exact h

theorem takeAnswer_stays (c : Nat) (x : StepAnswer) (h : Stays a s) : Stays a (takeAnswer c x s) := by
  unfold takeAnswer
  dsimp only
  repeat' split
  · exact h
  · exact proceed_stays _ _ h
  · exact endTransaction_stays _ _ _ _ h
  · exact endTransaction_stays _ _ _ _ h
  · exact deferStep_stays _ h
  · exact h
  · exact censusStep_stays _ _ (setRun_stays _ _ h)
  · exact resolveStep_stays _ (noteOwner_stays _ _ (setRun_stays _ _ h))
  · exact censusStep_stays _ _ (noteOwner_stays _ _ (setRun_stays _ _ h))
  · exact h
  · exact censusStep_stays _ _ h
  · exact h
  · exact h

end Stays

/-! ## The ANS in its place, and the slot released (R147, R145) -/

/-- The head of the slots is a FULL slot. -/
theorem fullFrame_of_headSlot {s : State} {k a : Nat} {f : Frame} (h : headSlot s = some (k, a, f)) :
    (getSlot k s).fullFrame = some (a, f) := by
  unfold headSlot at h
  split at h
  · cases h
  · generalize List.range s.line.slots.length = ks at h
    suffices ∀ best : Option (Nat × Nat × Frame),
        (∀ x, best = some x → (getSlot x.1 s).fullFrame = some x.2) → ∀ x, ks.foldl _ best = some x →
          (getSlot x.1 s).fullFrame = some x.2 from this none (by simp) _ h
    clear h
    induction ks with
    | nil => exact fun best hb x hx => hb x hx
    | cons j ks ih =>
      refine fun best hb x hx => ih _ (fun y hy => ?_) x hx
      dsimp only at hy
      split at hy
      · exact hb y hy
      · rename_i full
        split at hy
        · split at hy
          · cases hy; exact full
          · cases hy; exact hb _ rfl
        · cases hy; exact full

theorem getSlot_setSlot_same {s : State} {k : Nat} (sl : Slot) (h : k < s.line.slots.length) :
    getSlot k (setSlot k sl s) = sl := by
  simp [getSlot, setSlot, h]

theorem getSlot_setSlot_other {s : State} {j k : Nat} (sl : Slot) (h : j ≠ k) :
    getSlot j (setSlot k sl s) = getSlot j s := by
  simp [getSlot, setSlot, h.symm]

/-- A slot in use is one of the slots. -/
theorem lt_of_getSlot {s : State} {k : Nat} (h : getSlot k s ≠ .free) : k < s.line.slots.length := by
  by_contra hk
  exact h (by simp [getSlot, List.getElem?_eq_none (Nat.not_lt.1 hk)])

/-- A stream that begins changes the line and the arbiter alone, no frame of the send queue and no slot that is not
FULL. -/
theorem beginStream_eq (s : State) :
    ∃ l a, beginStream s = { s with line := l, arb := a } ∧ l.sendq = s.line.sendq ∧ l.nextId = s.line.nextId ∧
      ∀ k, (getSlot k s).fullFrame = none → getSlot k (beginStream s) = getSlot k s := by
  unfold beginStream
  split
  · rename_i k age f head
    have full := fullFrame_of_headSlot head
    have other : ∀ (j : Nat) (sl : Slot) (u : State), u.line.slots = s.line.slots →
        (getSlot j s).fullFrame = none → getSlot j (askStream (.write k) (setSlot k sl u)) = getSlot j s := by
      intro j sl u hu hj
      have hjk : j ≠ k := by rintro rfl; simp [full] at hj
      calc getSlot j (askStream (.write k) (setSlot k sl u)) = getSlot j (setSlot k sl u) := rfl
        _ = getSlot j u := getSlot_setSlot_other _ hjk
        _ = getSlot j s := by simp [getSlot, hu]
    split
    · split
      · exact ⟨_, _, rfl, rfl, rfl, fun j hj => other j _ s rfl hj⟩
      · split
        · exact ⟨_, _, rfl, rfl, rfl, fun j hj => other j _ (stopWaiting (.reqSlot k) s) rfl hj⟩
        · unfold waitForPlace
          split <;> exact ⟨_, _, rfl, rfl, rfl, fun _ _ => rfl⟩
    · exact ⟨_, _, rfl, rfl, rfl, fun _ _ => rfl⟩
  · exact ⟨_, _, rfl, rfl, rfl, fun _ _ => rfl⟩

/-- A slot released is FREE, or RESERVED for the frame held here (R136, R145). -/
theorem releaseSlot_eq {s : State} {k : Nat} (h : getSlot k s ≠ .free) :
    ∃ l, releaseSlot k s = { s with line := l } ∧ l.sendq = s.line.sendq ∧ l.nextId = s.line.nextId ∧
      (getSlot k (releaseSlot k s) = .free ∨ getSlot k (releaseSlot k s) = .reserved) := by
  have lt := lt_of_getSlot h
  unfold releaseSlot
  split
  · split
    · exact ⟨_, rfl, rfl, rfl, .inr (getSlot_setSlot_same (s := s) .reserved lt)⟩
    · exact ⟨_, rfl, rfl, rfl, .inl (getSlot_setSlot_same _ lt)⟩
  · exact ⟨_, rfl, rfl, rfl, .inl (getSlot_setSlot_same _ lt)⟩

/-- A slot freed changes the line and the arbiter alone, and no frame of the send queue. -/
theorem freeSlot_eq {s : State} {k : Nat} (h : getSlot k s ≠ .free) :
    ∃ l a, freeSlot k s = { s with line := l, arb := a } ∧ l.sendq = s.line.sendq ∧ l.nextId = s.line.nextId ∧
      (getSlot k (freeSlot k s) = .free ∨ getSlot k (freeSlot k s) = .reserved) := by
  obtain ⟨l, hl, sendq, nextId, slot⟩ := releaseSlot_eq h
  obtain ⟨l', a, hb, sendq', nextId', slots⟩ := beginStream_eq (releaseSlot k s)
  have stands : getSlot k (freeSlot k s) = getSlot k (releaseSlot k s) :=
    slots k (by rcases slot with h | h <;> rw [h] <;> rfl)
  refine ⟨l', a, ?_, ?_, ?_, by rwa [stands]⟩
  · rw [freeSlot, hb, hl]
  · rw [sendq', hl]; exact sendq
  · rw [nextId', hl]; exact nextId

/-- The ANS of an operation joins the send queue, and the slot of its REQ is released. -/
theorem placeAns_eq {s : State} {k : Nat} (dest : Nat) (x : Ans) (o : Owner) (h : getSlot k s ≠ .free) :
    ∃ l a, placeAns k dest x o s = { s with line := l, arb := a } ∧
      l.sendq = s.line.sendq ++ [⟨s.line.nextId, ⟨stationNo s, .station dest, .ans x⟩, 1, 0, 0, o⟩] ∧
      (getSlot k (placeAns k dest x o s) = .free ∨ getSlot k (placeAns k dest x o s) = .reserved) := by
  obtain ⟨l, a, hf, sendq, -, slot⟩ :=
    freeSlot_eq (s := pushFrame ⟨stationNo s, .station dest, .ans x⟩ o s) (k := k) h
  exact ⟨l, a, by rw [placeAns, hf]; rfl, sendq, slot⟩

/-- The answer to a REQ in processing is its ANS (R111, R147). -/
theorem deliverAnswer_req {s : State} {k E age : Nat} {f : Frame} {ref : CtxRef} {o : OwnerOp} {b : Bool}
    (a : StepAnswer) (held : s.arb.held = some ⟨.line (.req k), E⟩) (slot : getSlot k s = .processing age f b)
    (req : f.body = .req ref (.op o)) :
    deliverAnswer a s = placeAns k f.src (ansOf ref o a) .ownerEngine s := by
  simp [deliverAnswer, held, slotOp, slot, req]

theorem deliverAnswer_stays (a : StepAnswer) (s : State) : Stays s (deliverAnswer a s) := by
  unfold deliverAnswer
  split
  · exact takeAnswer_stays _ _ (.refl s)
  · split
    · rename_i k _ _ _ x found
      have busy : getSlot k s ≠ .free := by
        intro free
        simp [slotOp, free] at found
      obtain ⟨l, arb, h, -, -⟩ := placeAns_eq x.1 (ansOf x.2.1 x.2.2 a) .ownerEngine busy
      rw [h]
      exact ⟨rfl, rfl, rfl, rfl⟩
    · exact .refl s
  · exact .refl s

/-! ## The arbiter (R182, R183) -/

/-- The waiting work of a requester, oldest first. -/
def Arbiter.waiting (a : Arbiter) : Requester → List Work
  | .kiosk => a.kiosk.map .kiosk
  | .line => a.line.map .line
  | .sweep => if a.sweep then [.sweep] else []
  | .stream => a.stream.map .stream

/-- The arbiter once the oldest waiting work of a requester is taken. -/
def Arbiter.without (a : Arbiter) (q : Requester) : Arbiter :=
  { a with
    kiosk := if q = .kiosk then a.kiosk.tail else a.kiosk
    line := if q = .line then a.line.tail else a.line
    sweep := a.sweep && decide (q ≠ .sweep)
    stream := if q = .stream then a.stream.tail else a.stream }

theorem Arbiter.oldest_none {a : Arbiter} {q : Requester} (h : a.waiting q = []) : a.oldest q = none := by
  cases q <;> simp_all [Arbiter.waiting, Arbiter.oldest]

theorem Arbiter.oldest_some {a : Arbiter} {q : Requester} {w : Work} {rest : List Work}
    (h : a.waiting q = w :: rest) : a.oldest q = some (w, a.without q) ∧ w.requester = q := by
  cases q with
  | kiosk =>
    obtain ⟨c, cs, hc, rfl, -⟩ := List.map_eq_cons_iff.1 h
    simp [Arbiter.oldest, Arbiter.without, hc, Work.requester]
  | line =>
    obtain ⟨c, cs, hc, rfl, -⟩ := List.map_eq_cons_iff.1 h
    simp [Arbiter.oldest, Arbiter.without, hc, Work.requester]
  | sweep =>
    cases hs : a.sweep with
    | false => simp [Arbiter.waiting, hs] at h
    | true =>
      obtain ⟨rfl, -⟩ : .sweep = w ∧ [] = rest := by simpa [Arbiter.waiting, hs] using h
      simp [Arbiter.oldest, Arbiter.without, hs, Work.requester]
  | stream =>
    obtain ⟨c, cs, hc, rfl, -⟩ := List.map_eq_cons_iff.1 h
    simp [Arbiter.oldest, Arbiter.without, hc, Work.requester]

/-- With no work waiting the arbiter grants nothing. -/
theorem Arbiter.arbitrate_idle {a : Arbiter} {day : Nat} (h : ∀ q, a.waiting q = []) : a.arbitrate day = a := by
  unfold Arbiter.arbitrate
  split
  · rfl
  · rw [List.findSome?_eq_none_iff.2 fun q _ => Arbiter.oldest_none (h q)]

/-- The first requester of the cycle that has work is granted its oldest. -/
theorem Arbiter.arbitrate_first {a : Arbiter} {day : Nat} {before after : List Requester} {q : Requester} {w : Work}
    {rest : List Work} (free : a.held = none) (cycle : a.last.cycleAfter = before ++ q :: after)
    (none_ : ∀ x ∈ before, a.waiting x = []) (some_ : a.waiting q = w :: rest) :
    a.arbitrate day = { a.without q with held := some ⟨w, day⟩, last := q } := by
  obtain ⟨oldest, requester⟩ := Arbiter.oldest_some some_
  have first : a.last.cycleAfter.findSome? a.oldest = some (w, a.without q) := by
    rw [cycle, List.findSome?_append,
      List.findSome?_eq_none_iff.2 fun x hx => Arbiter.oldest_none (none_ x hx)]
    simp [oldest]
  simp [Arbiter.arbitrate, free, first, requester]

/-- Settles O41: the frame of an answer, the ANS of a REQ, and the rotation of the arbiter. -/
theorem answersToReqsLeaveAsAns : Obligations.AnswersToReqsLeaveAsAns := by
  refine ⟨fun a u => ?_, fun u k E age f ref o b a held slot req => ?_, fun s => ?_⟩
  · obtain ⟨-, conf, store, capture, -, -, masks, -⟩ := deliverAnswer_rests a (.refl u)
    obtain ⟨station, day, hand, notices⟩ := deliverAnswer_stays a u
    exact ⟨store, conf, station, day, hand, notices, masks, capture⟩
  · obtain ⟨l, arb, h, sendq, released⟩ :=
      placeAns_eq (s := u) (k := k) f.src (ansOf ref o a) .ownerEngine (by simp [slot])
    have answer := (deliverAnswer_req a held slot req).trans h
    rw [h] at released
    refine ⟨?_, ?_, ?_, ?_, ?_⟩ <;> simp only [afterAnswer, answer]
    · exact sendq
    · exact released
    all_goals rfl
  · intro waiting cycle
    have released : ∀ q, ({ s.arb with held := none } : Arbiter).waiting q = waiting q := by
      intro q; cases q <;> rfl
    have order : cycle = s.arb.last.cycleAfter := by
      show (match s.arb.last with | .kiosk => _ | .line => _ | .sweep => _ | .stream => _) = _
      cases s.arb.last <;> rfl
    refine ⟨rfl, fun g held => ?_, fun free => ?_, fun idle => ?_, fun before q after w rest hc hb hq => ?_⟩
    · simp [arbitrate, Arbiter.arbitrate, held]
    · have : ({ s.arb with held := none } : Arbiter) = s.arb := by rw [← free]
      rw [endGrant, this]
    · have idle' : ∀ q, ({ s.arb with held := none } : Arbiter).waiting q = [] := fun q =>
        (released q).trans (idle q)
      simp only [endGrant, arbitrate, Arbiter.arbitrate_idle idle']
    · have first := Arbiter.arbitrate_first (a := { s.arb with held := none }) (day := s.day.county) rfl
        (order.symm.trans hc) (fun x hx => (released x).trans (hb x hx)) ((released q).trans hq)
      simp only [endGrant, arbitrate, first]
      rfl

end Sys2Proof.Machine
end

section
/-! PROOFS. The start reset (R199, R179, R187): what it clears, the stages of a cut grant, and what is left of each kind
of work but a burst of the sweep. -/

namespace Sys2Proof.Machine

/-! ## What outlives a start reset -/

/-- Two states alike in what is nonvolatile, and in the model's own fields, are alike after a start reset. -/
theorem clearVolatile_congr {s t : State} (store : s.store = t.store) (county : s.day.county = t.day.county)
    (queue : s.queue = t.queue) (views : s.map.views = t.map.views) (serial : s.map.serial = t.map.serial)
    (free : s.free = t.free) (pending : s.pending = t.pending) : clearVolatile s = clearVolatile t := by
  simp only [clearVolatile, store, county, queue, views, serial, free, pending]

@[simp] theorem clearVolatile_refreshAttention (s : State) :
    clearVolatile (refreshAttention s) = clearVolatile s := rfl

@[simp] theorem clearVolatile_endGrant (s : State) : clearVolatile (endGrant s) = clearVolatile s := rfl

@[simp] theorem clearVolatile_setHand (h : Handover) (s : State) : clearVolatile (setHand h s) = clearVolatile s := rfl

@[simp] theorem clearVolatile_recordFault (f : CapturedFault) (s : State) :
    clearVolatile (recordFault f s) = clearVolatile s :=
  clearVolatile_congr (by simp) (by simp) (by simp) (by simp) (by simp) (by simp) (by simp)

@[simp] theorem clearVolatile_freeSlot {k : Nat} {s : State} (h : getSlot k s ≠ .free) :
    clearVolatile (freeSlot k s) = clearVolatile s := by
  obtain ⟨l, a, hf, -⟩ := freeSlot_eq h
  rw [hf]; rfl

/-- A start reset leaves attention as its conditions have it. -/
theorem refreshAttention_clearVolatile (s : State) : refreshAttention (clearVolatile s) = clearVolatile s := rfl

/-- At every moment a start reset clears the volatile state of what it finds (R199). -/
theorem startReset_clears (m : ResetMoment) (s : State) : ∃ u, startReset m s = clearVolatile u := by
  cases m with
  | quiet => exact ⟨s, rfl⟩
  | inGrant units => exact ⟨runUnits units s, rfl⟩
  | inErase stages => unfold startReset; dsimp only; split <;> exact ⟨_, rfl⟩

theorem exec_startReset (m : ResetMoment) (s : State) : exec (.startReset m) s = .next (startReset m s) := by
  obtain ⟨u, h⟩ := startReset_clears m s
  show Host.Outcome.next (refreshAttention (startReset m s)) = _
  rw [h, refreshAttention_clearVolatile]

/-- A start reset within a grant leaves the part as one between grants does in a state alike in what is nonvolatile. -/
theorem left_of_runUnits {units : Nat} {s u : State} (h : clearVolatile (runUnits units s) = clearVolatile u) :
    exec (.startReset (.inGrant units)) s = exec (.startReset .quiet) u := by
  rw [exec_startReset, exec_startReset]
  exact congrArg Host.Outcome.next h

/-! ## Stages (R179) -/

/-- With every stage complete the last one stands. -/
theorem stageAt_last {units : Nat} {stages : List State} {s : State} (some_ : 1 ≤ units)
    (all : stages.length ≤ units) : stageAt units stages s = stages.getLastD s := by
  obtain ⟨n, rfl⟩ := Nat.exists_eq_succ_of_ne_zero (Nat.ne_of_gt some_)
  cases hn : stages[n]? with
  | none => simp [stageAt, hn]
  | some x =>
    have lt := (List.getElem?_eq_some_iff.1 hn).1
    have last : n = stages.length - 1 := by simp at all; omega
    have : stages.getLast? = some x := by rw [List.getLast?_eq_getElem?, ← last, hn]
    simp [stageAt, hn, List.getLastD_eq_getLast?, this]

/-- With some unit complete one of the stages stands. -/
theorem stageAt_mem {units : Nat} {stages : List State} {s : State} (some_ : 1 ≤ units) (ne : stages ≠ []) :
    stageAt units stages s ∈ stages := by
  obtain ⟨n, rfl⟩ := Nat.exists_eq_succ_of_ne_zero (Nat.ne_of_gt some_)
  cases hn : stages[n]? with
  | none =>
    rw [stageAt, hn, Option.getD_none, List.getLastD_eq_getLast?, List.getLast?_eq_getLast_of_ne_nil ne]
    exact List.getLast_mem ne
  | some x =>
    rw [stageAt, hn, Option.getD_some]
    exact List.mem_of_getElem? hn

/-! ## The mark of a failed check, a unit of its own (R181) -/

/-- A read either changes nothing or marks a record whose check fails and enters a fault. -/
theorem fetchItem_fst (n : Nat) (who : Requester) (E : Nat) (s : State) :
    (fetchItem n who E s).1 = s ∨ ∃ u f, s.MarkedAt .item n u ∧ (fetchItem n who E s).1 = recordFault f u := by
  cases found : getItem n s with
  | none => simp [fetchItem_none found]
  | some r =>
    by_cases read : r.quarantined = true ∨ r.check = .agrees
    · simp [fetchItem_read found read]
    · obtain ⟨whole, fails⟩ := not_or.1 read
      rw [fetchItem_failing found (by simpa using whole) fails]
      exact .inr ⟨_, _, ⟨r, found, by simpa using whole, fails, rfl⟩, rfl⟩

theorem fetchTitle_fst (n : Nat) (who : Requester) (E : Nat) (s : State) :
    (fetchTitle n who E s).1 = s ∨ ∃ u f, s.MarkedAt .title n u ∧ (fetchTitle n who E s).1 = recordFault f u := by
  cases found : getTitle n s with
  | none => simp [fetchTitle_none found]
  | some t =>
    by_cases read : t.quarantined = true ∨ t.checks = true
    · simp [fetchTitle_read found read]
    · obtain ⟨whole, fails⟩ := not_or.1 read
      rw [fetchTitle_failing found (by simpa using whole) (by simpa using fails)]
      exact .inr ⟨_, _, ⟨t, found, by simpa using whole, by simpa using fails, rfl⟩, rfl⟩

theorem fetchPatron_fst (n : Nat) (who : Requester) (E : Nat) (s : State) :
    (fetchPatron n who E s).1 = s ∨ ∃ u f, s.MarkedAt .patron n u ∧ (fetchPatron n who E s).1 = recordFault f u := by
  cases found : getPatron n s with
  | none => simp [fetchPatron_none found]
  | some p =>
    by_cases read : p.quarantined = true ∨ p.check = .agrees
    · simp [fetchPatron_read found read]
    · obtain ⟨whole, fails⟩ := not_or.1 read
      rw [fetchPatron_failing found (by simpa using whole) fails]
      exact .inr ⟨_, _, ⟨p, found, by simpa using whole, fails, rfl⟩, rfl⟩

/-- The stage of a mark is, in what is nonvolatile, the state with the mark set. -/
theorem markOf_some {sp : Space} {n E : Nat} {who : Requester} {s v : State}
    (h : opMark.markOf sp n who E s = some v) :
    ∃ u, s.MarkedAt sp n u ∧ clearVolatile v = clearVolatile u := by
  have from_read : ∀ w : State, (if w.store = s.store then none else some w) = some v →
      (w = s ∨ ∃ u f, s.MarkedAt sp n u ∧ w = recordFault f u) →
      ∃ u, s.MarkedAt sp n u ∧ clearVolatile v = clearVolatile u := by
    intro w hw read
    split at hw
    · cases hw
    · rename_i changed
      cases hw
      rcases read with rfl | ⟨u, f, mark, rfl⟩
      · exact absurd rfl changed
      · exact ⟨u, mark, clearVolatile_recordFault f u⟩
  cases sp with
  | item => exact from_read _ h (fetchItem_fst n who E s)
  | title => exact from_read _ h (fetchTitle_fst n who E s)
  | patron => exact from_read _ h (fetchPatron_fst n who E s)

theorem opMark_some {h : HeldOp} {s v : State} (hv : opMark h s = some v) :
    ∃ u, s.MarkedAt h.op.target.1 h.op.target.2 u ∧ clearVolatile v = clearVolatile u := by
  obtain ⟨-, hv⟩ := Option.ite_none_right_eq_some.1 hv
  split at hv
  · cases hv
  · exact markOf_some hv

/-! ## An owner operation and an application cut short -/

section Cut

variable {s : State} {units : Nat}

/-- The command of an operation's row leaves, in what is nonvolatile, the last stage of the operation. -/
theorem exec_row_ownerGrant {h : HeldOp} (held : heldOp s = some h) :
    exec h.op.row s = .next (refreshAttention (ownerGrant h s)) := exec_row_of_heldOp held

theorem runUnits_heldOp {h : HeldOp} (held : heldOp s = some h) :
    runUnits units s = stageAt units (opStages h s) s := by
  have held' := held
  unfold heldOp at held'
  unfold runUnits
  split at held'
  all_goals first | (rename_i e; rw [e]; simp [held]) | cases held'

theorem runUnits_heldEntry {e : Entry} {E : Nat} (held : heldEntry s = some (e, E)) :
    runUnits units s = stageAt units (entryStages e E s) s := by
  obtain ⟨grant, found⟩ := findEntry_of_heldEntry held
  simp [runUnits, grant, found]

/-- An operation cut after a unit leaves its mark alone, the operation without its answer, or all of it. -/
theorem cut_operation {h : HeldOp} (held : heldOp s = some h) (some_ : 1 ≤ units) :
    (∃ u, exec h.op.row s = .next u ∧ clearVolatile (runUnits units s) = clearVolatile u) ∨
      clearVolatile (runUnits units s) = clearVolatile (applyOp h.op h.who h.day s).1 ∨
      ∃ u, s.MarkedAt h.op.target.1 h.op.target.2 u ∧ clearVolatile (runUnits units s) = clearVolatile u := by
  rw [runUnits_heldOp held]
  have mem := stageAt_mem (s := s) (stages := opStages h s) some_ (by simp [opStages])
  simp only [opStages, List.mem_append, Option.mem_toList, List.mem_cons, List.not_mem_nil, or_false] at mem
  rcases mem with mark | op | all
  · obtain ⟨u, hu, same⟩ := opMark_some mark
    exact .inr (.inr ⟨u, hu, same⟩)
  · exact .inr (.inl (congrArg clearVolatile op))
  · have same := congrArg clearVolatile all
    exact .inl ⟨_, exec_row_ownerGrant held, same⟩

/-- After three units all of an operation is complete. -/
theorem cut_operation_all {h : HeldOp} (held : heldOp s = some h) (all : 3 ≤ units) :
    ∃ u, exec h.op.row s = .next u ∧ clearVolatile (runUnits units s) = clearVolatile u := by
  refine ⟨_, exec_row_ownerGrant held, ?_⟩
  have length : (opStages h s).length ≤ units := by
    have := Option.length_toList_le (o := opMark h s)
    simp only [opStages, List.length_append, List.length_cons, List.length_nil]
    omega
  rw [runUnits_heldOp held, stageAt_last (by omega) length]
  simp [opStages]

/-- The mark of an application that reads a record whose check fails. -/
def entryMark (e : Entry) (day : Nat) (s : State) : Option State :=
  match e.disp.target with
  | some t =>
    if e.dir = .inbound ∨ (viewOf (blockOf t.1 t.2) s = .home ∧ 2 ≤ freePlaces s) then
      opMark.markOf t.1 t.2 .line day s
    else none
  | none => none

theorem entryStages_eq (e : Entry) (day : Nat) (s : State) :
    entryStages e day s = (entryMark e day s).toList ++ [applyEntry e.id day s] := by
  unfold entryStages entryMark
  cases e.disp.target <;> rfl

theorem entryMark_some {e : Entry} {day : Nat} {v : State} (h : entryMark e day s = some v) :
    ∃ sp n u, e.disp.target = some (sp, n) ∧ s.MarkedAt sp n u ∧ clearVolatile v = clearVolatile u := by
  unfold entryMark at h
  split at h
  · rename_i t target
    obtain ⟨-, mark⟩ := Option.ite_none_right_eq_some.1 h
    obtain ⟨u, hu, same⟩ := markOf_some mark
    exact ⟨t.1, t.2, u, target, hu, same⟩
  · cases h

/-- An application cut after a unit leaves its mark alone or all of it. -/
theorem cut_application {e : Entry} {E : Nat} {i : Instr} (held : heldEntry s = some (e, E))
    (row : (i, e.disp.kind) ∈ dispatchRows) (some_ : 1 ≤ units) :
    (∃ u, exec i s = .next u ∧ clearVolatile (runUnits units s) = clearVolatile u) ∨
      ∃ sp n u, e.disp.target = some (sp, n) ∧ s.MarkedAt sp n u ∧
        clearVolatile (runUnits units s) = clearVolatile u := by
  rw [runUnits_heldEntry held]
  have mem := stageAt_mem (s := s) (stages := entryStages e E s) some_ (by simp [entryStages])
  rw [entryStages_eq, List.mem_append, Option.mem_toList, List.mem_singleton] at mem
  rcases mem with mark | all
  · obtain ⟨sp, n, u, target, hu, same⟩ := entryMark_some mark
    exact .inr ⟨sp, n, u, target, hu, same⟩
  · have same := congrArg clearVolatile all
    exact .inl ⟨_, exec_of_heldEntry held row, same⟩

/-- After two units all of an application is complete. -/
theorem cut_application_all {e : Entry} {E : Nat} {i : Instr} (held : heldEntry s = some (e, E))
    (row : (i, e.disp.kind) ∈ dispatchRows) (all : 2 ≤ units) :
    ∃ u, exec i s = .next u ∧ clearVolatile (runUnits units s) = clearVolatile u := by
  refine ⟨_, exec_of_heldEntry held row, ?_⟩
  have length : (entryStages e E s).length ≤ units := by
    have := Option.length_toList_le (o := entryMark e E s)
    simp only [entryStages_eq, List.length_append, List.length_cons, List.length_nil]
    omega
  rw [runUnits_heldEntry held, stageAt_last (by omega) length, entryStages_eq]
  simp [entryGrant]

end Cut

end Sys2Proof.Machine
end

section
/-! PROOFS. What a start reset leaves of stream work, of a freeing and of a store erase (R179, R187). -/

namespace Sys2Proof.Machine

/-! ## The freeze, the read and the write of a unit -/

section Stream

variable {s : State} {units k E : Nat}

/-- A single stage is complete after one unit. -/
theorem stageAt_one {v : State} (some_ : 1 ≤ units) : stageAt units [v] s = v := by
  rw [stageAt_last some_ (by simpa using some_)]; rfl

theorem cut_freeze (held : s.arb.held = some ⟨.stream .freeze, E⟩) (some_ : 1 ≤ units) :
    ∃ u, exec .handoverFreeze s = .next u ∧ clearVolatile (runUnits units s) = clearVolatile u := by
  refine ⟨refreshAttention (endGrant (freeze s)), ?_, ?_⟩
  · show execHandoverFreeze s = _
    simp [execHandoverFreeze, heldStream, held, finish]
  · simp [runUnits, held, stageAt_one some_]

theorem cut_read (held : s.arb.held = some ⟨.stream .read, E⟩) (some_ : 1 ≤ units) :
    ∃ u, exec .streamUnitRead s = .next u ∧ clearVolatile (runUnits units s) = clearVolatile u := by
  refine ⟨refreshAttention (endGrant (streamRead E s)), ?_, ?_⟩
  · show execStreamUnitRead s = _
    simp [execStreamUnitRead, heldStream, held, finish]
  · simp [runUnits, held, stageAt_one some_]

theorem runUnits_write (held : s.arb.held = some ⟨.stream (.write k), E⟩) :
    runUnits units s = stageAt units (writeStages k s) s := by
  simp [runUnits, held]

theorem exec_streamUnitWrite (held : s.arb.held = some ⟨.stream (.write k), E⟩) (last : lastAt k s = false) :
    exec .streamUnitWrite s = .next (refreshAttention (endGrant (streamWrite k s))) := by
  show execStreamUnitWrite s = _
  simp [execStreamUnitWrite, heldStream, held, last, finish]

theorem exec_streamLast (held : s.arb.held = some ⟨.stream (.write k), E⟩) (last : lastAt k s = true) :
    exec .streamLast s = .next (refreshAttention (endGrant (streamWrite k s))) := by
  show execStreamLast s = _
  simp [execStreamLast, heldStream, held, last, finish]

variable {age serial total : Nat} {f : Frame} {p : Bool} {b : Block} {u : Option StreamUnit}

theorem lastAt_eq {last : Option Nat} (slot : getSlot k s = .processing age f p)
    (body : f.body = .stream b serial last u) : lastAt k s = last.isSome := by
  simp [lastAt, slot, body]

/-- The unit of a frame without the LAST mark is written whole. -/
theorem cut_write (held : s.arb.held = some ⟨.stream (.write k), E⟩) (slot : getSlot k s = .processing age f p)
    (body : f.body = .stream b serial none u) (some_ : 1 ≤ units) :
    ∃ t, exec .streamUnitWrite s = .next t ∧ clearVolatile (runUnits units s) = clearVolatile t := by
  have stages : writeStages k s = [streamWrite k s] := by
    unfold writeStages
    cases s.hand <;> simp [slot, body]
  exact ⟨_, exec_streamUnitWrite held (lastAt_eq slot body),
    by rw [runUnits_write held, stages, stageAt_one some_]; rfl⟩

/-- The stages of the LAST frame: its unit, when it is written, and the decision. -/
theorem writeStages_last (slot : getSlot k s = .processing age f p)
    (body : f.body = .stream b serial (some total) u) :
    writeStages k s = [streamWrite k s] ∨
      ∃ r x, u = some x ∧ streamMatch f s = some r ∧ s.arb.stream.contains (.free b) = false ∧
        writeStages k s = [writeUnit r x s, streamWrite k s] := by
  unfold writeStages
  cases hand : s.hand with
  | idle => simp
  | giving g => simp
  | receiving r =>
    cases u with
    | none => simp [slot, body]
    | some x =>
      by_cases now : (streamMatch f s).isSome = true ∧ s.arb.stream.contains (.free r.b) = false
      · obtain ⟨match_, waits⟩ := now
        obtain ⟨r', hr⟩ := Option.isSome_iff_exists.1 match_
        have own : r' = r ∧ r.b = b := by
          simp only [streamMatch, hand, body] at hr
          obtain ⟨⟨_, hb, _⟩, rfl⟩ := Option.ite_none_right_eq_some.1 hr |>.imp_right Option.some.inj
          exact ⟨rfl, hb⟩
        obtain ⟨rfl, rfl⟩ := own
        exact .inr ⟨r', x, rfl, hr, waits, by simp only [slot, body, match_, waits]; rfl⟩
      · refine .inl ?_
        simp only [slot, body]
        rw [if_neg (by simpa using now)]
        rfl

/-- A unit is written alike whatever the line holds. -/
theorem writeUnitRecord_line (o : Nat) (x : StreamUnit) (l : LineEngine) :
    writeUnitRecord o x { s with line := l } = { writeUnitRecord o x s with line := l } := by
  have title : getTitle o { s with line := l } = getTitle o s := rfl
  cases x with
  | copyRef c => simp only [writeUnitRecord, title]; split <;> rfl
  | holdEntry h => simp only [writeUnitRecord, title]; split <;> rfl
  | marker sp n => cases sp <;> rfl
  | item | patron | titleHeader => rfl

theorem writeUnit_line_eq (r : Receiving) (x : StreamUnit) : (writeUnit r x s).line = s.line := by
  have : (writeUnitRecord r.title x s).line = s.line := by
    have h := congrArg State.line (writeUnitRecord_line (s := s) r.title x s.line)
    exact h
  exact this

/-- The unit of the LAST frame written alone leaves what its writing without the LAST mark leaves. -/
theorem streamWrite_bare {r : Receiving} {x : StreamUnit} (slot : getSlot k s = .processing age f p)
    (body : f.body = .stream b serial (some total) (some x)) (found : streamMatch f s = some r)
    (waits : s.arb.stream.contains (.free b) = false) :
    clearVolatile (streamWrite k
        (setSlot k (.processing age { f with body := .stream b serial none (some x) } p) s)) =
      clearVolatile (writeUnit r x s) := by
  generalize hg : ({ f with body := .stream b serial none (some x) } : Frame) = g
  have gbody : g.body = .stream b serial none (some x) := by rw [← hg]
  have lt := lt_of_getSlot (s := s) (k := k) (by simp [slot])
  have slot' : getSlot k (setSlot k (.processing age g p) s) = .processing age g p := getSlot_setSlot_same _ lt
  have found' : streamMatch g (setSlot k (.processing age g p) s) = some r := by
    rw [← found, ← hg]
    simp only [streamMatch, body, setSlot_hand]
    cases s.hand <;> rfl
  have write : streamWrite k (setSlot k (.processing age g p) s) =
      freeSlot k (writeUnit r x (setSlot k (.processing age g p) s)) := by
    simp only [streamWrite, slot', gbody, found', setSlot_arb, waits]
    rfl
  rw [write, clearVolatile_freeSlot]
  · simp only [writeUnit, clearVolatile_setHand]
    have same := congrArg clearVolatile
      (writeUnitRecord_line (s := s) r.title x (setSlot k (.processing age g p) s).line)
    exact same
  · simp only [getSlot, writeUnit_line_eq]
    show getSlot k (setSlot k _ s) ≠ _
    simp [slot']

/-- The LAST frame cut after a unit leaves its unit alone, or the decision with it. -/
theorem cut_last (held : s.arb.held = some ⟨.stream (.write k), E⟩) (slot : getSlot k s = .processing age f p)
    (body : f.body = .stream b serial (some total) u) (some_ : 1 ≤ units) :
    (∃ t, exec .streamLast s = .next t ∧ clearVolatile (runUnits units s) = clearVolatile t) ∨
      ∃ t, exec .streamUnitWrite (setSlot k (.processing age { f with body := .stream b serial none u } p) s) =
        .next t ∧ clearVolatile (runUnits units s) = clearVolatile t := by
  have decision := exec_streamLast held (lastAt_eq slot body)
  rw [runUnits_write held]
  rcases writeStages_last slot body with stages | ⟨r, x, rfl, found, waits, stages⟩
  · exact .inl ⟨_, decision, by rw [stages, stageAt_one some_]; rfl⟩
  · have mem := stageAt_mem (s := s) (stages := [writeUnit r x s, streamWrite k s]) some_ (by simp)
    rw [stages]
    simp only [List.mem_cons, List.not_mem_nil, or_false] at mem
    rcases mem with unit | all
    · have lt := lt_of_getSlot (s := s) (k := k) (by simp [slot])
      refine .inr ⟨_, exec_streamUnitWrite held ?_, ?_⟩
      · simp [lastAt, getSlot_setSlot_same _ lt]
      · rw [unit]
        exact (streamWrite_bare slot body found waits).symm
    · exact .inl ⟨_, decision, by rw [all]; rfl⟩

theorem cut_last_all (held : s.arb.held = some ⟨.stream (.write k), E⟩) (slot : getSlot k s = .processing age f p)
    (body : f.body = .stream b serial (some total) u) (all : 2 ≤ units) :
    ∃ t, exec .streamLast s = .next t ∧ clearVolatile (runUnits units s) = clearVolatile t := by
  refine ⟨_, exec_streamLast held (lastAt_eq slot body), ?_⟩
  rw [runUnits_write held]
  rcases writeStages_last slot body with stages | ⟨r, x, rfl, -, -, stages⟩ <;>
    rw [stages, stageAt_last (by omega) (by simp; omega)] <;> rfl

end Stream

/-! ## The freeing of records (R155) -/

/-- The numbers listed in a table once one is removed. -/
theorem keys_tblDel {α : Type} (l : List (Nat × α)) (n : Nat) :
    (tblDel l n).map Prod.fst = (l.map Prod.fst).filter (· != n) := by
  rw [tblDel, List.filter_map]; rfl

/-- A record numbered in a block lies in it. -/
theorem blockOf_of_mem_recordsOf {b : Block} {s : State} {n : Nat} (h : n ∈ recordsOf b s) :
    blockOf b.space n = b := by
  obtain ⟨sp, num⟩ := b
  cases sp <;>
  · simp only [recordsOf, List.mem_filter, beq_iff_eq] at h
    simp [blockOf, h.2]

theorem recordsOf_nodup {s : State} (h : s.tablesOk) (b : Block) : (recordsOf b s).Nodup := by
  have keys : ∀ {α : Type} {l : List (Nat × α)}, tblRising l = true → (l.map Prod.fst).Nodup := by
    intro α l hl
    exact (List.pairwise_map.2 ((tblRising_iff l).1 hl)).imp Nat.ne_of_lt
  unfold recordsOf
  split
  · exact (keys h.1).filter _
  · exact (keys h.2.1).filter _
  · exact (keys h.2.2.1).filter _

theorem recordsOf_dropRecord (b : Block) (n : Nat) (s : State) :
    recordsOf b (dropRecord b.space n s) = (recordsOf b s).filter (· != n) := by
  obtain ⟨sp, num⟩ := b
  cases sp <;> simp [recordsOf, dropRecord, keys_tblDel, List.filter_filter, Bool.and_comm]

/-- The records of the numbers in a list removed, one after the other. -/
def dropRecords (sp : Space) (ns : List Nat) (s : State) : State := ns.foldl (fun s n => dropRecord sp n s) s

theorem freeRecords_eq (b : Block) (n : Nat) (s : State) :
    freeRecords b n s = dropRecords b.space ((recordsOf b s).take n) s := rfl

/-- A removal of records changes the record tables alone, and not the format stamp. -/
theorem dropRecords_eq (sp : Space) (ns : List Nat) (s : State) :
    ∃ st, dropRecords sp ns s = { s with store := st } ∧ st.stamp = s.store.stamp := by
  induction ns generalizing s with
  | nil => exact ⟨s.store, rfl, rfl⟩
  | cons n ns ih =>
    obtain ⟨st, h, stamp⟩ := ih (dropRecord sp n s)
    refine ⟨st, ?_, ?_⟩
    · rw [show dropRecords sp (n :: ns) s = dropRecords sp ns (dropRecord sp n s) from rfl, h]
      cases sp <;> rfl
    · rw [stamp]; cases sp <;> rfl

theorem recordsOf_dropRecords (b : Block) (ns : List Nat) (s : State) :
    recordsOf b (dropRecords b.space ns s) = (recordsOf b s).filter fun n => decide (n ∉ ns) := by
  induction ns generalizing s with
  | nil => simp [dropRecords]
  | cons n ns ih =>
    refine (ih (dropRecord b.space n s)).trans ?_
    rw [recordsOf_dropRecord, List.filter_filter]
    refine List.filter_congr fun m _ => ?_
    by_cases hm : m = n <;> simp [hm]

/-- A removal of records of one block leaves every record of another. -/
theorem dropRecords_other {b : Block} {ns : List Nat} (h : ∀ n ∈ ns, blockOf b.space n = b) (s : State) (m : Nat) :
    (blockOf .item m ≠ b → getItem m (dropRecords b.space ns s) = getItem m s) ∧
      (blockOf .title m ≠ b → getTitle m (dropRecords b.space ns s) = getTitle m s) ∧
      (blockOf .patron m ≠ b → getPatron m (dropRecords b.space ns s) = getPatron m s) := by
  induction ns generalizing s with
  | nil => exact ⟨fun _ => rfl, fun _ => rfl, fun _ => rfl⟩
  | cons n ns ih =>
    obtain ⟨items, titles, patrons⟩ := ih (fun x hx => h x (by simp [hx])) (dropRecord b.space n s)
    have own := h n (by simp)
    refine ⟨fun hm => (items hm).trans ?_, fun hm => (titles hm).trans ?_, fun hm => (patrons hm).trans ?_⟩ <;>
      cases hsp : b.space <;> rw [hsp] at own <;> try rfl
    · exact tblGet_tblDel_other _ (by rintro rfl; exact hm own)
    · exact tblGet_tblDel_other _ (by rintro rfl; exact hm own)
    · exact tblGet_tblDel_other _ (by rintro rfl; exact hm own)

/-- Of distinct numbers those not among the first are the rest. -/
theorem filter_not_mem_take {l : List Nat} (h : l.Nodup) (n : Nat) :
    (l.filter fun m => decide (m ∉ l.take n)) = l.drop n := by
  have split_ := (List.take_append_drop n l).symm
  have disjoint := List.nodup_append.1 (split_ ▸ h)
  obtain ⟨-, -, disjoint⟩ := disjoint
  calc (l.filter fun m => decide (m ∉ l.take n))
      = (l.take n ++ l.drop n).filter fun m => decide (m ∉ l.take n) := by rw [← split_]
    _ = l.drop n := by
      rw [List.filter_append, List.filter_eq_nil_iff.2 (by simp), List.nil_append, List.filter_eq_self]
      intro m hm
      simpa using fun hm' => disjoint m hm' m hm rfl

section Freeing

variable {s : State} {units E : Nat} {b : Block}

/-- A freeing cut after some units leaves the records freed so far, the lowest numbers first. -/
theorem cut_freeing (held : s.arb.held = some ⟨.stream (.free b), E⟩) (tables : s.tablesOk)
    (frees : (viewOf b s).freesRecords = true) :
    ∃ u, clearVolatile (runUnits units s) = clearVolatile u ∧ u.queue = s.queue ∧ u.map = s.map ∧ u.day = s.day ∧
      u.store.stamp = s.store.stamp ∧ recordsOf b u = (recordsOf b s).drop (min units 64) ∧
      ∀ n, (blockOf .item n ≠ b → getItem n u = getItem n s) ∧
        (blockOf .title n ≠ b → getTitle n u = getTitle n s) ∧
        (blockOf .patron n ≠ b → getPatron n u = getPatron n s) := by
  have run : runUnits units s = dropRecords b.space ((recordsOf b s).take (min units 64)) s := by
    simp [runUnits, held, frees, freeRecords_eq, Config.burst]
  obtain ⟨st, same, stamp⟩ := dropRecords_eq b.space ((recordsOf b s).take (min units 64)) s
  refine ⟨dropRecords b.space ((recordsOf b s).take (min units 64)) s, by rw [run], ?_, ?_, ?_, ?_, ?_, ?_⟩
  · rw [same]
  · rw [same]
  · rw [same]
  · rw [same]; exact stamp
  · rw [recordsOf_dropRecords, filter_not_mem_take (recordsOf_nodup tables b)]
  · exact dropRecords_other (fun n hn => blockOf_of_mem_recordsOf (List.mem_of_mem_take hn)) s

theorem cut_freeing_kept (held : s.arb.held = some ⟨.stream (.free b), E⟩)
    (keeps : (viewOf b s).freesRecords = false) : runUnits units s = s := by
  simp [runUnits, held, keeps]

end Freeing

/-! ## The store erase of a JOIN (R187) -/

/-- The erase cut before its last stage leaves no stamp; after it the erase stands whole. -/
theorem cut_erase {s : State} {n : Nat} (station : s.station = .configured) (erases : joinErases s = true)
    (some_ : 1 ≤ n) :
    ∃ t, exec (.startReset (.inErase n)) s = .next t ∧
      (n < 5 → t.store.stamp = false ∧ ∀ c : Configuration, joinErases { t with conf := c } = true) ∧
      (5 ≤ n → t.store = ⟨[], [], [], true⟩ ∧ t.queue.entries = [] ∧ t.map.serial = 0 ∧
        t.map.views = initialMap s.conf ∧ t.day.county = s.conf.startDay.getD 0) := by
  have reset : startReset (.inErase n) s = clearVolatile (eraseUpTo n s) := by
    simp [startReset, station, erases]
  refine ⟨_, by rw [exec_startReset, reset], fun cut => ?_, fun whole => ?_⟩
  · have stamp : (clearVolatile (eraseUpTo n s)).store.stamp = false := by
      interval_cases n <;> rfl
    exact ⟨stamp, fun c => by simp [joinErases, stamp]⟩
  · have all : eraseUpTo n s = storeErase s := by simp [storeErase, eraseUpTo, Nat.min_eq_right whole]
    rw [all]
    exact ⟨rfl, rfl, rfl, rfl, rfl⟩

end Sys2Proof.Machine
end

section
/-! PROOFS. A title record under the sweep: what the settle leaves alone, and the removal of expired entries, one commit
unit each (R31, R63, R179). -/

namespace Sys2Proof.Machine

/-! ## What the settle leaves alone -/

/-- From `t` to `u` only views of copies and states of entries have changed: the entries are of the same patrons in
their order, and the parts that passed their check still do. -/
structure Title.Alike (t u : Title) : Prop where
  patrons : u.holds.map HoldEntry.patron = t.holds.map HoldEntry.patron
  checks : t.checks = true → u.checks = true
  currentTo : u.currentTo = t.currentTo
  quarantined : u.quarantined = t.quarantined

theorem Title.Alike.refl (t : Title) : t.Alike t := ⟨rfl, id, rfl, rfl⟩

theorem Title.Alike.trans {t u v : Title} (h : t.Alike u) (k : u.Alike v) : t.Alike v :=
  ⟨k.patrons.trans h.patrons, k.checks ∘ h.checks, k.currentTo.trans h.currentTo, k.quarantined.trans h.quarantined⟩

/-- The check of a title, part by part (R180). -/
theorem Title.checks_iff (t : Title) :
    t.checks = true ↔ t.check = .agrees ∧ (∀ c ∈ t.copies, c.check = .agrees) ∧ ∀ h ∈ t.holds, h.check = .agrees := by
  simp [Title.checks, and_assoc]

theorem Title.setEntry_alike (t : Title) (patron : Nat) (st : HoldState) : t.Alike (t.setEntry patron st) := by
  refine ⟨?_, fun h => ?_, rfl, rfl⟩
  · simp only [Title.setEntry, List.map_map]
    refine List.map_congr_left fun h _ => ?_
    simp only [Function.comp]
    split <;> rfl
  · rw [Title.checks_iff] at *
    refine ⟨h.1, h.2.1, fun e he => ?_⟩
    obtain ⟨e', he', rfl⟩ := List.mem_map.1 he
    have := h.2.2 e' he'
    split <;> exact this

theorem Title.setCopy_alike (t : Title) (item : Nat) (v : CopyView) : t.Alike (t.setCopy item v) := by
  refine ⟨rfl, fun h => ?_, rfl, rfl⟩
  rw [Title.checks_iff] at *
  refine ⟨h.1, fun c hc => ?_, h.2.2⟩
  obtain ⟨c', hc', rfl⟩ := List.mem_map.1 hc
  have := h.2.1 c' hc'
  split <;> exact this

theorem settleShelf_alike (n fuel : Nat) (t : Title) : t.Alike (settleShelf n fuel t).1 := by
  induction fuel generalizing t with
  | zero => exact .refl t
  | succ fuel ih =>
    unfold settleShelf
    split
    · exact ((t.setEntry_alike _ _).trans (Title.setCopy_alike _ _ _)).trans (ih _)
    · exact .refl t

theorem settleTraps_alike (fuel : Nat) (t : Title) : t.Alike (settleTraps fuel t).1 := by
  induction fuel generalizing t with
  | zero => exact .refl t
  | succ fuel ih =>
    unfold settleTraps
    split
    · split
      · exact (t.setCopy_alike _ _).trans (ih _)
      · exact .refl t
    · split
      · split
        · exact (t.setCopy_alike _ _).trans (ih _)
        · exact .refl t
      · exact .refl t

theorem settle_alike (n : Nat) (t : Title) : t.Alike (settle n t).1 :=
  (settleShelf_alike n _ t).trans (settleTraps_alike _ _)

/-! ## The removal of an entry -/

/-- The first expired entry is an entry of the queue. -/
theorem Title.mem_of_expired {t : Title} {day : Nat} {h : HoldEntry} (he : t.expired day = some h) : h ∈ t.holds :=
  List.mem_of_find?_eq_some he

theorem Title.dropEntry_checks {t : Title} (patron : Nat) (h : t.checks = true) :
    (t.dropEntry patron).checks = true := by
  rw [Title.checks_iff] at *
  exact ⟨h.1, h.2.1, fun e he => h.2.2 e (List.mem_of_mem_filter he)⟩

/-- An entry's removal leaves fewer entries. -/
theorem Title.dropEntry_length_lt {t : Title} {h : HoldEntry} (he : h ∈ t.holds) :
    (t.dropEntry h.patron).holds.length < t.holds.length :=
  List.length_filter_lt_length_iff_exists.2 ⟨h, he, by simp⟩

/-- With one entry to a patron (R29) an entry's removal takes that entry alone. -/
theorem length_filter_ne {α β : Type} [DecidableEq β] {f : α → β} {l : List α} (h : (l.map f).Nodup) {x : α}
    (hx : x ∈ l) : (l.filter fun y => f y != f x).length + 1 = l.length := by
  induction l with
  | nil => cases hx
  | cons y l ih =>
    obtain ⟨fresh, rest⟩ := List.nodup_cons.1 h
    rcases List.mem_cons.1 hx with rfl | hx
    · have all : ∀ y ∈ l, (f y != f x) = true := by
        intro y hy
        simpa using fun e => fresh (List.mem_map.2 ⟨y, hy, e⟩)
      simp [List.filter_eq_self.2 all]
    · have other : f y ≠ f x := fun e => fresh (e ▸ List.mem_map_of_mem hx)
      simp [other, ih rest hx]

/-- A title record whose parts pass their check is written as it stands (R180). -/
theorem Title.sealed_of_checks {t : Title} (h : t.checks = true) : t.sealed = t := by
  obtain ⟨header, copies, holds⟩ := t.checks_iff.1 h
  have hc : t.copies.map (fun c => { c with check := .agrees }) = t.copies :=
    (List.map_congr_left fun c hc => show _ = c by rw [← copies c hc]).trans (List.map_id _)
  have hh : t.holds.map (fun e => { e with check := .agrees }) = t.holds :=
    (List.map_congr_left fun e he => show _ = e by rw [← holds e he]).trans (List.map_id _)
  unfold Title.sealed
  rw [hc, hh, ← header]

/-- What an expiry removal makes of a title: the entry gone, and the title settled. -/
def Title.afterExpiry (n : Nat) (h : HoldEntry) (t : Title) : Title := (settle n (t.dropEntry h.patron)).1

/-- The dispatches of an expiry removal, HOLD_ENDED first. -/
def Title.expiryDispatches (n : Nat) (h : HoldEntry) (t : Title) : List Dispatch :=
  .holdEnded h.patron n .expired :: (settle n (t.dropEntry h.patron)).2

theorem expireRule_eq (n : Nat) (h : HoldEntry) (t : Title) :
    expireRule n h t = (t.afterExpiry n h, t.expiryDispatches n h) := rfl

section Removal

variable {n E : Nat} {t : Title} {h : HoldEntry}

theorem Title.afterExpiry_alike : (t.dropEntry h.patron).Alike (t.afterExpiry n h) := settle_alike n _

theorem Title.afterExpiry_checks (checks : t.checks = true) : (t.afterExpiry n h).checks = true :=
  Title.afterExpiry_alike.checks (Title.dropEntry_checks _ checks)

theorem Title.afterExpiry_length : (t.afterExpiry n h).holds.length = (t.dropEntry h.patron).holds.length := by
  simpa using congrArg List.length (Title.afterExpiry_alike (n := n) (t := t) (h := h)).patrons

theorem Title.afterExpiry_nodup (nodup : (t.holds.map HoldEntry.patron).Nodup) :
    ((t.afterExpiry n h).holds.map HoldEntry.patron).Nodup := by
  rw [Title.afterExpiry_alike.patrons]
  exact nodup.sublist (List.filter_sublist.map _)

end Removal

/-! ## The removal of expired entries, one after the other -/

/-- What `expireTitle` leaves of the title `t` of number `n`: the title `y`, the dispatches `ds` queued, and nothing
else changed. -/
structure Expires (E n : Nat) (t : Title) (s : State) (x : State × Bool) (ds : List Dispatch) (y : Title) :
    Prop where
  swept : t.SweptTo E n ds y
  found : getTitle n x.1 = some y
  others : ∀ m, m ≠ n → getTitle m x.1 = getTitle m s
  frame : ∃ q l, x.1 = { s with queue := q, store := { s.store with titles := l } }
  queue : x.1.queue = (enqueueAll ds s).queue
  quarantined : y.quarantined = t.quarantined
  currentTo : y.currentTo = if x.2 then t.currentTo else E
  holds : y.holds.length ≤ t.holds.length
  moved : (x.1 = s ∧ ds = [] ∧ y = t) ∨ x.2 = false ∨ y.holds.length < t.holds.length

section Expire

variable {E n room dayRoom fuel : Nat} {s : State} {t : Title}

/-- Nothing is done. -/
theorem Expires.stays (found : getTitle n s = some t) : Expires E n t s (s, true) [] t :=
  { swept := .stays t, found := found, others := fun _ _ => rfl, frame := ⟨_, _, rfl⟩, queue := rfl,
    quarantined := rfl, currentTo := rfl, holds := le_refl _, moved := .inl ⟨rfl, rfl, rfl⟩ }

/-- The queue after dispatches does not depend on the records. -/
theorem enqueueAll_queue_congr {s u : State} (ds : List Dispatch) (h : s.queue = u.queue) :
    (enqueueAll ds s).queue = (enqueueAll ds u).queue := by
  induction ds generalizing s u with
  | nil => exact h
  | cons d ds ih => exact ih (by simp [enqueue, h])

theorem getTitle_enqueueAll (m : Nat) (ds : List Dispatch) (s : State) :
    getTitle m (enqueueAll ds s) = getTitle m s := by
  obtain ⟨q, hq⟩ := enqueueAll_eq ds s
  rw [hq]; rfl

/-- The state after one removal. -/
def afterRemoval (n : Nat) (h : HoldEntry) (t : Title) (s : State) : State :=
  enqueueAll (t.expiryDispatches n h) (putTitle n (t.afterExpiry n h) s)

theorem getTitle_afterRemoval {h : HoldEntry} (checks : t.checks = true) :
    getTitle n (afterRemoval n h t s) = some (t.afterExpiry n h) := by
  rw [afterRemoval, getTitle_enqueueAll, getTitle_putTitle_same,
    Title.sealed_of_checks (Title.afterExpiry_checks checks)]

theorem getTitle_afterRemoval_other {h : HoldEntry} {m : Nat} (hm : m ≠ n) :
    getTitle m (afterRemoval n h t s) = getTitle m s := by
  rw [afterRemoval, getTitle_enqueueAll, getTitle_putTitle_other _ _ hm]

/-- One step of `expireTitle`. -/
theorem expireTitle_succ (found : getTitle n s = some t) :
    expireTitle E n room dayRoom (fuel + 1) s =
      match t.expired E with
      | none => if freePlaces s < dayRoom then (s, true) else (putTitle n { t with currentTo := E } s, false)
      | some h =>
        if freePlaces s < room then (s, true) else expireTitle E n room dayRoom fuel (afterRemoval n h t s) := by
  simp only [expireTitle, found, expireRule_eq]
  rfl

/-- What `expireTitle` leaves, whatever the fuel. -/
theorem expireTitle_expires (found : getTitle n s = some t) (checks : t.checks = true) :
    ∃ ds y, Expires E n t s (expireTitle E n room dayRoom fuel s) ds y := by
  induction fuel generalizing s t with
  | zero => exact ⟨_, _, .stays found⟩
  | succ fuel ih =>
    rw [expireTitle_succ found]
    cases expired : t.expired E with
    | none =>
      dsimp only
      split
      · exact ⟨_, _, .stays found⟩
      · have written : getTitle n (putTitle n { t with currentTo := E } s) = some { t with currentTo := E } := by
          rw [getTitle_putTitle_same]
          exact congrArg some (Title.sealed_of_checks (t := { t with currentTo := E }) checks)
        exact ⟨[], { t with currentTo := E },
          { swept := .current t expired, found := written, others := fun m hm => getTitle_putTitle_other _ _ hm,
            frame := ⟨_, _, rfl⟩, queue := rfl, quarantined := rfl, currentTo := rfl, holds := le_refl _,
            moved := .inr (.inl rfl) }⟩
    | some h =>
      dsimp only
      split
      · exact ⟨_, _, .stays found⟩
      · obtain ⟨ds, y, rest⟩ := ih (getTitle_afterRemoval (n := n) (s := s) (h := h) checks)
          (Title.afterExpiry_checks checks)
        have fewer := (Title.afterExpiry_length (n := n) (t := t) (h := h)).trans_lt
          (Title.dropEntry_length_lt (Title.mem_of_expired expired))
        obtain ⟨q, l, frame⟩ := rest.frame
        obtain ⟨q', hq'⟩ := enqueueAll_eq (t.expiryDispatches n h) (putTitle n (t.afterExpiry n h) s)
        refine ⟨t.expiryDispatches n h ++ ds, y,
          { swept := .removes t y h ds expired rest.swept, found := rest.found, others := fun m hm => ?_,
            frame := ⟨q, l, ?_⟩, queue := ?_, quarantined := ?_, currentTo := ?_,
            holds := rest.holds.trans fewer.le, moved := .inr (.inr (rest.holds.trans_lt fewer)) }⟩
        · rw [rest.others m hm, getTitle_afterRemoval_other hm]
        · rw [frame, afterRemoval, hq']; rfl
        · rw [rest.queue, enqueueAll_append]
          exact enqueueAll_queue_congr ds (enqueueAll_queue_congr _ rfl)
        · exact rest.quarantined.trans (Title.afterExpiry_alike (n := n)).quarantined
        · rw [rest.currentTo, (Title.afterExpiry_alike (n := n) (t := t) (h := h)).currentTo]; rfl

/-- A removal with one entry to a patron takes one entry. -/
theorem Title.afterExpiry_length_succ {h : HoldEntry} (nodup : (t.holds.map HoldEntry.patron).Nodup)
    (expired : t.expired E = some h) : (t.afterExpiry n h).holds.length + 1 = t.holds.length := by
  rw [Title.afterExpiry_length]
  exact length_filter_ne nodup (Title.mem_of_expired expired)

/-- With one entry to a patron, each commit unit removes one entry or writes the day; and where units are left, more of
them change nothing. -/
theorem expireTitle_units {y : Title} (found : getTitle n s = some t) (checks : t.checks = true)
    (nodup : (t.holds.map HoldEntry.patron).Nodup)
    (left : getTitle n (expireTitle E n room dayRoom fuel s).1 = some y) :
    let used := t.holds.length - y.holds.length + if (expireTitle E n room dayRoom fuel s).2 then 0 else 1
    used ≤ fuel ∧ (used < fuel → ∀ more, fuel ≤ more →
      expireTitle E n room dayRoom more s = expireTitle E n room dayRoom fuel s) := by
  induction fuel generalizing s t with
  | zero =>
    obtain rfl : t = y := Option.some.inj (found.symm.trans left)
    simp [expireTitle]
  | succ fuel ih =>
    have more_succ : ∀ more, fuel + 1 ≤ more → ∃ m, more = m + 1 ∧ fuel ≤ m := fun more h => ⟨more - 1, by omega⟩
    rw [expireTitle_succ found] at left ⊢
    cases expired : t.expired E with
    | none =>
      simp only [expired] at left ⊢
      split at left <;> rename_i short
      · obtain rfl : t = y := Option.some.inj (found.symm.trans left)
        refine ⟨by simp [short], fun _ more h => ?_⟩
        obtain ⟨m, rfl, -⟩ := more_succ more h
        rw [expireTitle_succ found, expired]
      · obtain rfl : { t with currentTo := E } = y := by
          rw [getTitle_putTitle_same] at left
          exact (Title.sealed_of_checks (t := { t with currentTo := E }) checks).symm.trans (Option.some.inj left)
        refine ⟨by simp [short], fun _ more h => ?_⟩
        obtain ⟨m, rfl, -⟩ := more_succ more h
        rw [expireTitle_succ found, expired]
    | some h =>
      simp only [expired] at left ⊢
      split at left <;> rename_i short
      · obtain rfl : t = y := Option.some.inj (found.symm.trans left)
        refine ⟨by simp [short], fun _ more h => ?_⟩
        obtain ⟨m, rfl, -⟩ := more_succ more h
        simp only [expireTitle_succ found, expired, if_pos short]
      · have found' := getTitle_afterRemoval (n := n) (s := s) (h := h) checks
        have checks' := Title.afterExpiry_checks (n := n) (h := h) checks
        have one := Title.afterExpiry_length_succ (n := n) nodup expired
        have fewer : y.holds.length ≤ (t.afterExpiry n h).holds.length := by
          obtain ⟨ds, y', rest⟩ := expireTitle_expires (E := E) (room := room) (dayRoom := dayRoom) (fuel := fuel)
            found' checks'
          exact Option.some.inj (rest.found.symm.trans left) ▸ rest.holds
        obtain ⟨most, same⟩ := ih found' checks' (Title.afterExpiry_nodup nodup) left
        simp only [if_neg short]
        refine ⟨by omega, fun spare more h => ?_⟩
        obtain ⟨m, rfl, hm⟩ := more_succ more h
        simp only [expireTitle_succ found, expired, if_neg short]
        exact same (by omega) m hm

end Expire

end Sys2Proof.Machine
end

section
/-! PROOFS. A burst of the sweep cut short, what one record's examination leaves (R59 to R63, R179, R181). -/

namespace Sys2Proof.Machine

/-! ## What a part of a burst leaves -/

/-- What a part of a burst at the day `E` leaves, of which only records with `P` can be examined. -/
structure Sweeps (E : Nat) (P : Space × Nat → Prop) (out : List ((Space × Nat) × List Dispatch)) (s t : State) :
    Prop where
  swept : s.SweptBy E out t
  own : ∀ o ∈ out, P o.1
  others : ∀ r, ¬ P r → s.sameRecord t r
  conf : t.conf = s.conf

theorem Sweeps.mono {E : Nat} {P Q : Space × Nat → Prop} {out : List ((Space × Nat) × List Dispatch)} {s t : State}
    (h : Sweeps E P out s t) (le : ∀ r, P r → Q r) : Sweeps E Q out s t :=
  { h with own := fun o ho => le _ (h.own o ho), others := fun r hr => h.others r (mt (le r) hr) }

/-- The dispatches queued, as entries. -/
theorem entries_enqueueAll (ds : List Dispatch) (s : State) :
    ∃ new, (enqueueAll ds s).queue.entries = s.queue.entries ++ new ∧
      (∀ e ∈ new, e.dir = .outbound ∧ e.failures = 0 ∧ e.phase = .queued) ∧ new.map Entry.disp = ds := by
  induction ds generalizing s with
  | nil => exact ⟨[], by simp⟩
  | cons d ds ih =>
    obtain ⟨new, queued, fresh, disp⟩ := ih (enqueue d s)
    refine ⟨⟨s.queue.nextId, .outbound, d, 0, .queued⟩ :: new, ?_, ?_, by simp [disp]⟩
    · rw [enqueueAll_cons, queued]
      simp [enqueue]
    · intro e he
      rcases List.mem_cons.1 he with rfl | he
      · exact ⟨rfl, rfl, rfl⟩
      · exact fresh e he

/-- From `s` to `t` of the records only `r` has changed, and the dispatches `ds` are queued. -/
structure ChangedAt (r : Space × Nat) (ds : List Dispatch) (s t : State) : Prop where
  others : ∀ r', r' ≠ r → s.sameRecord t r'
  queue : t.queue = (enqueueAll ds s).queue
  patrons : t.store.patrons = s.store.patrons
  rest : t.store.stamp = s.store.stamp ∧ t.map = s.map ∧ t.day.county = s.day.county ∧ t.free = s.free
  conf : t.conf = s.conf

section ChangedAt

variable {E : Nat} {r : Space × Nat} {ds : List Dispatch} {s t : State}

theorem ChangedAt.refl (r : Space × Nat) (s : State) : ChangedAt r [] s s :=
  ⟨fun _ _ => s.sameRecord_refl _, rfl, rfl, ⟨rfl, rfl, rfl, rfl⟩, rfl⟩

theorem ChangedAt.item {n : Nat} (h : ChangedAt r ds s t) (hn : (.item, n) ≠ r) : getItem n t = getItem n s :=
  (h.others _ hn).symm

theorem ChangedAt.title {n : Nat} (h : ChangedAt r ds s t) (hn : (.title, n) ≠ r) : getTitle n t = getTitle n s :=
  (h.others _ hn).symm

/-- A record that is not brought up stands, or is marked. -/
theorem ChangedAt.sweeps_nil (h : ChangedAt r [] s t)
    (item : ∀ n, r = (.item, n) → getItem n t = getItem n s ∨
      ∃ x, getItem n s = some x ∧ viewOf (blockOf .item n) s = .home ∧ x.quarantined = false ∧ x.check ≠ .agrees ∧
        getItem n t = some { x with quarantined := true })
    (title : ∀ n, r = (.title, n) → getTitle n t = getTitle n s ∨
      ∃ x, getTitle n s = some x ∧ viewOf (blockOf .title n) s = .home ∧ x.quarantined = false ∧ x.checks = false ∧
        getTitle n t = some { x with quarantined := true }) :
    Sweeps E (· = r) [] s t where
  own := by simp
  others := h.others
  conf := h.conf
  swept :=
    { order := .nil
      entries := ⟨[], by rw [h.queue]; simp⟩
      items := by simp
      titles := by simp
      otherItems := fun n _ => if hn : (.item, n) = r then item n hn.symm else .inl (h.item hn)
      otherTitles := fun n _ => if hn : (.title, n) = r then title n hn.symm else .inl (h.title hn)
      patrons := h.patrons
      rest := h.rest }

/-- A record that is brought up. -/
theorem ChangedAt.sweeps_one (h : ChangedAt r ds s t)
    (item : ∀ n, r = (.item, n) → ∃ x, getItem n s = some x ∧ viewOf (blockOf .item n) s = .home ∧
      x.quarantined = false ∧ x.check = .agrees ∧ x.currentTo ≠ E ∧
      getItem n t = some (bringUp (classRow s x.cls) (calendarOf s) E n x).1 ∧
      (bringUp (classRow s x.cls) (calendarOf s) E n x).2 = ds.map .send)
    (title : ∀ n, r = (.title, n) → ∃ x y, getTitle n s = some x ∧ viewOf (blockOf .title n) s = .home ∧
      x.quarantined = false ∧ x.checks = true ∧ x.currentTo ≠ E ∧ x.SweptTo E n ds y ∧ getTitle n t = some y) :
    Sweeps E (· = r) [(r, ds)] s t where
  own := by simp
  others := h.others
  conf := h.conf
  swept :=
    { order := List.pairwise_singleton _ _
      entries := by
        obtain ⟨new, queued, fresh, disp⟩ := entries_enqueueAll ds s
        exact ⟨new, by rw [h.queue, queued], fresh, by simpa using disp⟩
      items := by
        intro n ds' hn
        obtain ⟨hr, rfl⟩ := Prod.mk.inj (List.mem_singleton.1 hn)
        exact item n hr.symm
      titles := by
        intro n ds' hn
        obtain ⟨hr, rfl⟩ := Prod.mk.inj (List.mem_singleton.1 hn)
        exact title n hr.symm
      otherItems := fun n hn => .inl (h.item (by simpa using hn))
      otherTitles := fun n hn => .inl (h.title (by simpa using hn))
      patrons := h.patrons
      rest := h.rest }

end ChangedAt

/-! ## The order of the walk -/

theorem not_sweptBefore_self (r : Space × Nat) : ¬ sweptBefore r r := by
  rintro (⟨h, k⟩ | ⟨-, h⟩)
  · exact absurd (h.symm.trans k) (by decide)
  · exact absurd h (lt_irrefl _)

theorem sweptBefore_asymm {a b : Space × Nat} (h : sweptBefore a b) : ¬ sweptBefore b a := by
  obtain ⟨sa, a⟩ := a
  obtain ⟨sb, b⟩ := b
  simp only [sweptBefore] at *
  rcases h with ⟨rfl, rfl⟩ | ⟨rfl, h⟩
  · simp
  · rintro (⟨h, k⟩ | ⟨-, k⟩)
    · exact absurd (h.symm.trans k) (by decide)
    · omega

theorem ne_of_sweptBefore {a b : Space × Nat} (h : sweptBefore a b) : b ≠ a :=
  fun e => not_sweptBefore_self a (e ▸ h)

/-- A record's examination, and then a part of a burst on the records after it. -/
theorem Sweeps.append {E : Nat} {r : Space × Nat} {out more : List ((Space × Nat) × List Dispatch)} {s t u : State}
    (h : Sweeps E (· = r) out s t) (k : Sweeps E (sweptBefore r) more t u) :
    Sweeps E (fun r' => r' = r ∨ sweptBefore r r') (out ++ more) s u := by
  have before : ∀ r', sweptBefore r r' → s.sameRecord t r' := fun r' hr => h.others r' (ne_of_sweptBefore hr)
  have after : t.sameRecord u r := k.others r (not_sweptBefore_self r)
  have view : ∀ b, viewOf b t = viewOf b s := fun b => by rw [viewOf, h.swept.rest.2.1]; rfl
  have row : ∀ c, classRow t c = classRow s c := fun c => by rw [classRow, h.conf]; rfl
  have cal : calendarOf t = calendarOf s := by rw [calendarOf, h.conf]; rfl
  refine { own := fun o ho => ?_, others := fun r' hr => ?_, conf := k.conf.trans h.conf, swept := ?_ }
  rotate_left
  · exact (List.mem_append.1 ho).elim (fun ho => .inl (h.own o ho)) fun ho => .inr (k.own o ho)
  · obtain ⟨ne, nb⟩ := not_or.1 hr
    exact State.sameRecord_trans (h.others r' ne) (k.others r' nb)
  · refine { order := ?_, entries := ?_, items := ?_, titles := ?_, otherItems := ?_, otherTitles := ?_,
             patrons := k.swept.patrons.trans h.swept.patrons, rest := ?_ }
    · rw [List.map_append, List.pairwise_append]
      refine ⟨h.swept.order, k.swept.order, ?_⟩
      intro a ha b hb
      obtain ⟨o, ho, rfl⟩ := List.mem_map.1 ha
      obtain ⟨o', ho', rfl⟩ := List.mem_map.1 hb
      exact h.own o ho ▸ k.own o' ho'
    · obtain ⟨new, queued, fresh, disp⟩ := h.swept.entries
      obtain ⟨new', queued', fresh', disp'⟩ := k.swept.entries
      refine ⟨new ++ new', by rw [queued', queued, List.append_assoc], fun e he => ?_, by simp [disp, disp']⟩
      exact (List.mem_append.1 he).elim (fresh e) (fresh' e)
    · intro n ds ho
      rcases List.mem_append.1 ho with ho | ho
      · obtain ⟨x, found, home, whole, agrees, stale, up, sends⟩ := h.swept.items n ds ho
        have own : (.item, n) = r := h.own _ ho
        subst own
        exact ⟨x, found, home, whole, agrees, stale, after.symm.trans up, sends⟩
      · obtain ⟨x, found, home, whole, agrees, stale, up, sends⟩ := k.swept.items n ds ho
        rw [row, cal] at up sends
        exact ⟨x, (before _ (k.own _ ho)).trans found, (view _).symm.trans home, whole, agrees, stale, up, sends⟩
    · intro n ds ho
      rcases List.mem_append.1 ho with ho | ho
      · obtain ⟨x, y, found, home, whole, checks, stale, up, left⟩ := h.swept.titles n ds ho
        have own : (.title, n) = r := h.own _ ho
        subst own
        exact ⟨x, y, found, home, whole, checks, stale, up, after.symm.trans left⟩
      · obtain ⟨x, y, found, home, whole, checks, stale, up, left⟩ := k.swept.titles n ds ho
        exact ⟨x, y, (before _ (k.own _ ho)).trans found, (view _).symm.trans home, whole, checks, stale, up, left⟩
    · intro n hn
      rw [List.map_append, List.mem_append, not_or] at hn
      by_cases own : (.item, n) = r
      · subst own
        have same : getItem n u = getItem n t := after.symm
        rw [same]
        exact h.swept.otherItems n hn.1
      · have same : getItem n t = getItem n s := (h.others _ own).symm
        rcases k.swept.otherItems n hn.2 with left | ⟨x, found, home, rest⟩
        · exact .inl (left.trans same)
        · exact .inr ⟨x, same.symm.trans found, (view _).symm.trans home, rest⟩
    · intro n hn
      rw [List.map_append, List.mem_append, not_or] at hn
      by_cases own : (.title, n) = r
      · subst own
        have same : getTitle n u = getTitle n t := after.symm
        rw [same]
        exact h.swept.otherTitles n hn.1
      · have same : getTitle n t = getTitle n s := (h.others _ own).symm
        rcases k.swept.otherTitles n hn.2 with left | ⟨x, found, home, rest⟩
        · exact .inl (left.trans same)
        · exact .inr ⟨x, same.symm.trans found, (view _).symm.trans home, rest⟩
    · obtain ⟨a, b, c, d⟩ := h.swept.rest
      obtain ⟨a', b', c', d'⟩ := k.swept.rest
      exact ⟨a'.trans a, b'.trans b, c'.trans c, d'.trans d⟩

end Sys2Proof.Machine
end

section
/-! PROOFS. The sweep's examination of one record: its cases, what it leaves, and the commit units it spends (R59 to
R63, R179, R181). -/

namespace Sys2Proof.Machine

/-! ## The cases of an examination -/

/-- The examinations that end with at most one commit unit: the record is passed over or stopped at, marked because its
check fails, or an item brought up to the day. `paid` says that a unit is spent. -/
inductive Examines (E : Nat) : Space × Nat → State → State → Bool → Prop
  | idle (r : Space × Nat) (s : State) : Examines E r s s false
  | marksItem {n : Nat} {s : State} (x : Item) (f : CapturedFault) (found : getItem n s = some x)
      (home : viewOf (blockOf .item n) s = .home) (whole : x.quarantined = false) (fails : x.check ≠ .agrees) :
      Examines E (.item, n) s (recordFault f (markItem n x s)) true
  | bringsItem {n : Nat} {s : State} (x : Item) (found : getItem n s = some x)
      (home : viewOf (blockOf .item n) s = .home) (whole : x.quarantined = false) (agrees : x.check = .agrees)
      (stale : x.currentTo ≠ E) : Examines E (.item, n) s (touched E n x s) true
  | marksTitle {n : Nat} {s : State} (x : Title) (f : CapturedFault) (found : getTitle n s = some x)
      (home : viewOf (blockOf .title n) s = .home) (whole : x.quarantined = false) (fails : x.checks = false) :
      Examines E (.title, n) s (recordFault f (markTitle n x s)) true

/-- What an examination with at most one commit unit gives, whatever the units. -/
def Examines.result (t : State) (paid stop : Bool) (units : Option Nat) : Examined :=
  (t, if paid then spend units else units, stop)

/-- A title is to be brought up to the day `E`, and the entries it needs are free. -/
structure ExpiresAt (E n : Nat) (x : Title) (s : State) : Prop where
  found : getTitle n s = some x
  home : viewOf (blockOf .title n) s = .home
  whole : x.quarantined = false
  checks : x.checks = true
  stale : x.currentTo ≠ E

/-- What the examination of a title to be brought up gives. -/
def expiring (E n : Nat) (x : Title) (units : Option Nat) (s : State) : Examined :=
  let all := x.holds.length + 1
  let y := expireTitle E n 3 3 (units.elim all (min all)) s
  let removed := x.holds.length - ((getTitle n y.1).map fun t' => t'.holds.length).getD 0
  (y.1, units.map (fun u => u - removed - if y.2 then 0 else 1), y.2)

section Cases

variable (E n : Nat) (s : State)

theorem examineItem_cases :
    ∃ t paid stop, Examines E (.item, n) s t paid ∧
      ∀ units, examineItem E n units s = Examines.result t paid stop units := by
  by_cases home : viewOf (blockOf .item n) s = .home
  swap
  · exact ⟨s, false, false, .idle _ s, fun units => by simp [examineItem, home, Examines.result]⟩
  cases found : getItem n s with
  | none => exact ⟨s, false, false, .idle _ s, fun units => by
      simp [examineItem, home, fetchItem_none found, Examines.result]⟩
  | some x =>
    by_cases marked : x.quarantined = true
    · exact ⟨s, false, false, .idle _ s, fun units => by
        simp [examineItem, home, fetchItem_read found (.inl marked), marked, found, Examines.result]⟩
    have whole : x.quarantined = false := by simpa using marked
    by_cases agrees : x.check = .agrees
    swap
    · exact ⟨_, true, false, .marksItem x ⟨.checkFailed, .item, n, .sweep, E, none⟩ found home whole agrees,
        fun units => by
          simp [examineItem, home, fetchItem_failing found whole agrees, found, whole, Examines.result]⟩
    by_cases stale : x.currentTo = E
    · exact ⟨s, false, false, .idle _ s, fun units => by
        simp [examineItem, home, fetchItem_read found (.inr agrees), whole, stale, Examines.result]⟩
    by_cases room : freePlaces s < 3
    · exact ⟨s, false, true, .idle _ s, fun units => by
        simp [examineItem, home, fetchItem_read found (.inr agrees), whole, stale, room, Examines.result]⟩
    · exact ⟨_, true, false, .bringsItem x found home whole agrees stale, fun units => by
        simp [examineItem, home, fetchItem_read found (.inr agrees), whole, stale, room, touched, Examines.result]⟩

theorem examineTitle_cases :
    (∃ t paid stop, Examines E (.title, n) s t paid ∧
      ∀ units, examineTitle E n units s = Examines.result t paid stop units) ∨
    ∃ x, ExpiresAt E n x s ∧ ∀ units, examineTitle E n units s = expiring E n x units s := by
  by_cases home : viewOf (blockOf .title n) s = .home
  swap
  · exact .inl ⟨s, false, false, .idle _ s, fun units => by simp [examineTitle, home, Examines.result]⟩
  cases found : getTitle n s with
  | none => exact .inl ⟨s, false, false, .idle _ s, fun units => by
      simp [examineTitle, home, fetchTitle_none found, Examines.result]⟩
  | some x =>
    by_cases marked : x.quarantined = true
    · exact .inl ⟨s, false, false, .idle _ s, fun units => by
        simp [examineTitle, home, fetchTitle_read found (.inl marked), marked, found, Examines.result]⟩
    have whole : x.quarantined = false := by simpa using marked
    by_cases checks : x.checks = true
    swap
    · have fails : x.checks = false := by simpa using checks
      exact .inl ⟨_, true, false, .marksTitle x ⟨.checkFailed, .title, n, .sweep, E, none⟩ found home whole fails,
        fun units => by
          simp [examineTitle, home, fetchTitle_failing found whole fails, found, whole, Examines.result]⟩
    by_cases stale : x.currentTo = E
    · exact .inl ⟨s, false, false, .idle _ s, fun units => by
        simp [examineTitle, home, fetchTitle_read found (.inr checks), whole, stale, Examines.result]⟩
    by_cases room : freePlaces s < 3
    · exact .inl ⟨s, false, true, .idle _ s, fun units => by
        simp [examineTitle, home, fetchTitle_read found (.inr checks), whole, stale, room, Examines.result]⟩
    · exact .inr ⟨x, ⟨found, home, whole, checks, stale⟩, fun units => by
        simp [examineTitle, home, fetchTitle_read found (.inr checks), whole, stale, room, expiring]⟩

/-- An examination with units left is one of these. -/
theorem examine_cases {r : Space × Nat} (walked : r.1 ≠ .patron) :
    (∃ t paid stop, Examines E r s t paid ∧
      ∀ units, units ≠ some 0 → examine E r units s = Examines.result t paid stop units) ∨
    ∃ n x, r = (.title, n) ∧ ExpiresAt E n x s ∧
      ∀ units, units ≠ some 0 → examine E r units s = expiring E n x units s := by
  obtain ⟨sp, n⟩ := r
  cases sp with
  | item =>
    obtain ⟨t, paid, stop, case, eq⟩ := examineItem_cases E n s
    exact .inl ⟨t, paid, stop, case, fun units h => by simp [examine, h, eq]⟩
  | title =>
    rcases examineTitle_cases E n s with ⟨t, paid, stop, case, eq⟩ | ⟨x, at_, eq⟩
    · exact .inl ⟨t, paid, stop, case, fun units h => by rw [examine, if_neg h]; exact eq units⟩
    · exact .inr ⟨n, x, rfl, at_, fun units h => by rw [examine, if_neg h]; exact eq units⟩
  | patron => exact absurd rfl walked

end Cases

/-- With no unit left nothing is examined. -/
theorem examine_zero (E : Nat) (r : Space × Nat) (s : State) : examine E r (some 0) s = (s, some 0, true) := by
  simp [examine]

/-! ## What an examination leaves -/

section Leaves

variable {E n : Nat} {r : Space × Nat} {s t : State}

/-- A fault changes no record. -/
theorem ChangedAt.recordFault {ds : List Dispatch} (f : CapturedFault) (h : ChangedAt r ds s t) :
    ChangedAt r ds s (recordFault f t) where
  others := fun r' hr => State.sameRecord_trans (h.others r' hr)
    (by obtain ⟨_ | _ | _, m⟩ := r' <;> simp [State.sameRecord, getItem, getTitle])
  queue := by simpa using h.queue
  patrons := by simpa using h.patrons
  rest := by simpa using h.rest
  conf := by simpa using h.conf

theorem getItem_recordFault (n : Nat) (f : CapturedFault) (s : State) : getItem n (recordFault f s) = getItem n s := by
  simp [getItem]

theorem getTitle_recordFault (n : Nat) (f : CapturedFault) (s : State) :
    getTitle n (recordFault f s) = getTitle n s := by simp [getTitle]

theorem getItem_markItem (n : Nat) (x : Item) (s : State) :
    getItem n (markItem n x s) = some { x with quarantined := true } := by simp [getItem, markItem]

theorem getTitle_markTitle (n : Nat) (x : Title) (s : State) :
    getTitle n (markTitle n x s) = some { x with quarantined := true } := by simp [getTitle, markTitle]

theorem changedAt_markItem (n : Nat) (x : Item) (s : State) : ChangedAt (.item, n) [] s (markItem n x s) where
  others := by
    rintro ⟨sp, m⟩ hr
    cases sp with
    | item => exact (tblGet_tblSet_other _ _ (by simpa using hr)).symm
    | title => exact rfl
    | patron => trivial
  queue := rfl
  patrons := rfl
  rest := ⟨rfl, rfl, rfl, rfl⟩
  conf := rfl

theorem changedAt_markTitle (n : Nat) (x : Title) (s : State) : ChangedAt (.title, n) [] s (markTitle n x s) where
  others := by
    rintro ⟨sp, m⟩ hr
    cases sp with
    | item => exact rfl
    | title => exact (tblGet_tblSet_other _ _ (by simpa using hr)).symm
    | patron => trivial
  queue := rfl
  patrons := rfl
  rest := ⟨rfl, rfl, rfl, rfl⟩
  conf := rfl

theorem changedAt_touched {x : Item} {ds : List Dispatch}
    (sends : (bringUp (classRow s x.cls) (calendarOf s) E n x).2 = ds.map .send) :
    ChangedAt (.item, n) ds s (touched E n x s) := by
  obtain ⟨q, hq⟩ := touched_eq E n x s
  refine { others := ?_, queue := ?_, patrons := ?_, rest := ?_, conf := ?_ }
  · rintro ⟨sp, m⟩ hr
    rw [hq]
    cases sp with
    | item => exact (getItem_putItem_other _ s (by simpa using hr)).symm
    | title => exact rfl
    | patron => trivial
  · rw [touched, sends, emitAll_sends]
    exact enqueueAll_queue_congr ds rfl
  all_goals simp [hq]

/-- What is left of a title that loses expired entries or is made current. -/
theorem Expires.changedAt {x y : Title} {z : State × Bool} {ds : List Dispatch} (h : Expires E n x s z ds y) :
    ChangedAt (.title, n) ds s z.1 := by
  obtain ⟨q, l, frame⟩ := h.frame
  refine { others := ?_, queue := h.queue, patrons := ?_, rest := ?_, conf := ?_ }
  · rintro ⟨sp, m⟩ hr
    cases sp with
    | item => rw [frame]; exact rfl
    | title => exact (h.others m (by simpa using hr)).symm
    | patron => trivial
  all_goals simp [frame]

/-- An examination with at most one unit brings up the record or leaves it, and what it brings up costs the unit. -/
theorem Examines.sweeps {paid : Bool} (h : Examines E r s t paid) :
    ∃ out, Sweeps E (· = r) out s t ∧ out.length ≤ paid.toNat := by
  cases h with
  | idle => exact ⟨[], (ChangedAt.refl r s).sweeps_nil (fun _ _ => .inl rfl) (fun _ _ => .inl rfl), le_refl _⟩
  | @marksItem n s x f found home whole fails =>
    refine ⟨[], ((changedAt_markItem n x s).recordFault f).sweeps_nil ?_ (by simp), by simp⟩
    rintro m ⟨⟩
    exact .inr ⟨x, found, home, whole, fails, by rw [getItem_recordFault, getItem_markItem]⟩
  | @bringsItem n s x found home whole agrees stale =>
    obtain ⟨ds, sends⟩ := bringUp_sends (classRow s x.cls) (calendarOf s) E n x
    refine ⟨[((.item, n), ds)], (changedAt_touched sends).sweeps_one ?_ (by simp), by simp⟩
    rintro m ⟨⟩
    exact ⟨x, found, home, whole, agrees, stale, getItem_touched agrees, sends⟩
  | @marksTitle n s x f found home whole fails =>
    refine ⟨[], ((changedAt_markTitle n x s).recordFault f).sweeps_nil (by simp) ?_, by simp⟩
    rintro m ⟨⟩
    exact .inr ⟨x, found, home, whole, fails, by rw [getTitle_recordFault, getTitle_markTitle]⟩

/-- A title to be brought up is left as it is, or what it loses and its current-to day cost a unit at least. -/
theorem ExpiresAt.sweeps {x : Title} (h : ExpiresAt E n x s) (units : Option Nat) :
    ∃ out, Sweeps E (· = (.title, n)) out s (expiring E n x units s).1 ∧
      ∀ k, 1 ≤ k → units = some k → ∃ k', (expiring E n x units s).2.1 = some k' ∧ out.length + k' ≤ k := by
  obtain ⟨ds, y, left⟩ := expireTitle_expires (E := E) (room := 3) (dayRoom := 3)
    (fuel := units.elim (x.holds.length + 1) (min (x.holds.length + 1))) h.found h.checks
  have paid : ∀ k, units = some k → (expiring E n x units s).2.1 = some (k - (x.holds.length - y.holds.length) -
      if (expiring E n x units s).2.2 then 0 else 1) := by
    intro k hk
    simp only [expiring, left.found]
    simp [hk]
  rcases left.moved with ⟨same, -, -⟩ | moved
  · have same : (expiring E n x units s).1 = s := same
    refine ⟨[], ?_, fun k _ hk => ⟨_, paid k hk, by simp; omega⟩⟩
    rw [same]
    exact (ChangedAt.refl _ s).sweeps_nil (by simp) fun _ _ => .inl rfl
  · refine ⟨[((.title, n), ds)], left.changedAt.sweeps_one (by simp) ?_, fun k _ hk => ⟨_, paid k hk, ?_⟩⟩
    · rintro m ⟨⟩
      exact ⟨x, y, h.found, h.home, h.whole, h.checks, h.stale, left.swept, left.found⟩
    · rcases moved with moved | moved
      · have moved : (expiring E n x units s).2.2 = false := moved
        simp only [moved, List.length_singleton]
        grind
      · simp only [List.length_singleton]
        grind

end Leaves

end Sys2Proof.Machine
end

section
/-! PROOFS. A burst of the sweep: the records it reaches, and what it leaves of them and of the others (R59,
R179). -/

namespace Sys2Proof.Machine

/-! ## The records reached from a position -/

/-- The records at or after a position of the walk (R59). -/
def SweepPos.reaches : SweepPos → Space × Nat → Bool
  | .item n, (.item, m) => decide (n ≤ m)
  | .item _, (.title, _) => true
  | .title n, (.title, m) => decide (n ≤ m)
  | _, _ => false

/-- After a record come those that the walk has after it. -/
theorem reaches_posAfter {r : Space × Nat} (walked : r.1 ≠ .patron) (r' : Space × Nat) :
    (posAfter r).reaches r' = true ↔ sweptBefore r r' := by
  obtain ⟨sp, n⟩ := r
  obtain ⟨sp', m⟩ := r'
  cases sp <;> cases sp' <;> simp_all [posAfter, posAt, SweepPos.reaches, sweptBefore]

theorem reaches_of_sweptBefore {pos : SweepPos} {r r' : Space × Nat} (h : pos.reaches r = true)
    (after : sweptBefore r r') : pos.reaches r' = true := by
  obtain ⟨sp, n⟩ := r
  obtain ⟨sp', m⟩ := r'
  cases pos <;> cases sp <;> cases sp' <;> simp_all [SweepPos.reaches, sweptBefore]
  all_goals omega

/-- The next record of the walk is an item or a title, at or after the position. -/
theorem nextRecord_some {s : State} {pos : SweepPos} {r : Space × Nat} (h : nextRecord s pos = some r) :
    r.1 ≠ .patron ∧ pos.reaches r = true := by
  have from_ : ∀ {α : Type} {l : List (Nat × α)} {n : Nat} {p : Nat × α}, tblFrom l n = some p → n ≤ p.1 :=
    fun h => by simpa using List.find?_some h
  cases pos with
  | item n =>
    simp only [nextRecord] at h
    split at h
    · rename_i k x found
      cases h
      simpa [SweepPos.reaches] using from_ found
    · obtain ⟨p, -, rfl⟩ := Option.map_eq_some_iff.1 h
      simp [SweepPos.reaches]
  | title n =>
    obtain ⟨p, found, rfl⟩ := Option.map_eq_some_iff.1 h
    simpa [SweepPos.reaches] using from_ found

/-! ## What a burst leaves -/

section Burst

variable {E : Nat} {s : State} {pos : SweepPos} {r : Space × Nat}

theorem burst_none (fuel : Nat) (units : Option Nat) (next : nextRecord s pos = none) :
    (burst E fuel units pos s).1 = s := by
  cases fuel <;> simp [burst, next]

theorem burst_out (units : Option Nat) : (burst E 0 units pos s).1 = s := by
  unfold burst
  split <;> rfl

/-- One step of a burst. -/
theorem burst_succ (fuel : Nat) (units : Option Nat) (next : nextRecord s pos = some r) :
    (burst E (fuel + 1) units pos s).1 =
      if (examine E r units s).2.2 then (examine E r units s).1
      else (burst E fuel (examine E r units s).2.1 (posAfter r) (examine E r units s).1).1 := by
  rw [burst, next]
  dsimp only
  generalize examine E r units s = x
  obtain ⟨t, left, stop⟩ := x
  cases stop <;> rfl

/-- With no unit left a burst changes nothing. -/
theorem burst_zero (fuel : Nat) : (burst E fuel (some 0) pos s).1 = s := by
  cases fuel with
  | zero => exact burst_out _
  | succ fuel =>
    cases next : nextRecord s pos with
    | none => exact burst_none _ _ next
    | some r => simp [burst_succ _ _ next, examine_zero]

theorem Sweeps.refl (E : Nat) (P : Space × Nat → Prop) (s : State) : Sweeps E P [] s s where
  own := by simp
  others := fun r _ => s.sameRecord_refl r
  conf := rfl
  swept := ((ChangedAt.refl (.patron, 0) s).sweeps_nil (by simp) (by simp)).swept

/-- What an examination leaves: of the records at most its own is changed, and it is brought up for a unit at least. -/
theorem examine_sweeps (E : Nat) (units : Option Nat) (s : State) (walked : r.1 ≠ .patron) :
    ∃ out, Sweeps E (· = r) out s (examine E r units s).1 ∧
      ∀ k, units = some k → ∃ k', (examine E r units s).2.1 = some k' ∧ out.length + k' ≤ k := by
  by_cases spent : units = some 0
  · subst spent
    rw [examine_zero]
    exact ⟨[], .refl _ _ _, by simp⟩
  have positive : ∀ k, units = some k → 1 ≤ k := by
    rintro k rfl
    exact Nat.one_le_iff_ne_zero.2 fun e => spent (e ▸ rfl)
  rcases examine_cases E s walked with ⟨t, paid, stop, case, eq⟩ | ⟨n, x, rfl, at_, eq⟩
  · rw [eq _ spent]
    obtain ⟨out, sweeps, cost⟩ := case.sweeps
    refine ⟨out, sweeps, fun k hk => ?_⟩
    have := positive k hk
    subst hk
    cases paid
    · exact ⟨k, rfl, by simpa using cost⟩
    · exact ⟨k - 1, rfl, by simp at cost; omega⟩
  · rw [eq _ spent]
    obtain ⟨out, sweeps, cost⟩ := at_.sweeps units
    exact ⟨out, sweeps, fun k hk => cost k (positive k hk) hk⟩

/-- What a burst leaves: it changes only records at or after its position, and brings up at most as many as it has
units. -/
theorem burst_sweeps (E fuel : Nat) (units : Option Nat) (pos : SweepPos) (s : State) :
    ∃ out, Sweeps E (fun r => pos.reaches r = true) out s (burst E fuel units pos s).1 ∧
      ∀ k, units = some k → out.length ≤ k := by
  induction fuel generalizing units pos s with
  | zero =>
    rw [burst_out]
    exact ⟨[], .refl _ _ _, by simp⟩
  | succ fuel ih =>
    cases next : nextRecord s pos with
    | none =>
      rw [burst_none _ _ next]
      exact ⟨[], .refl _ _ _, by simp⟩
    | some r =>
      obtain ⟨walked, reached⟩ := nextRecord_some next
      obtain ⟨out, first, cost⟩ := examine_sweeps E units s walked
      rw [burst_succ _ _ next]
      split
      · refine ⟨out, first.mono fun r' hr => hr ▸ reached, fun k hk => ?_⟩
        obtain ⟨k', -, le⟩ := cost k hk
        omega
      · obtain ⟨more, rest, cost'⟩ := ih (examine E r units s).2.1 (posAfter r) (examine E r units s).1
        have after := rest.mono fun r' => (reaches_posAfter walked r').1
        refine ⟨out ++ more, (first.append after).mono ?_, fun k hk => ?_⟩
        · rintro r' (rfl | after)
          · exact reached
          · exact reaches_of_sweptBefore reached after
        · obtain ⟨k', left, le⟩ := cost k hk
          have := cost' k' left
          simp only [List.length_append]
          omega

/-- A burst changes no record before its position. -/
theorem burst_unreached (fuel : Nat) (units : Option Nat) {r' : Space × Nat} (h : ¬ pos.reaches r' = true) :
    s.sameRecord (burst E fuel units pos s).1 r' :=
  have ⟨_, sweeps, _⟩ := burst_sweeps E fuel units pos s
  sweeps.others r' h

/-- A burst from after a record changes no record up to it. -/
theorem burst_posAfter (fuel : Nat) (units : Option Nat) (walked : r.1 ≠ .patron) {r' : Space × Nat}
    (h : ¬ sweptBefore r r') : s.sameRecord (burst E fuel units (posAfter r) s).1 r' :=
  burst_unreached fuel units (mt (reaches_posAfter walked r').1 h)

/-- An examination changes no other record. -/
theorem examine_other (units : Option Nat) (walked : r.1 ≠ .patron) {r' : Space × Nat} (h : r' ≠ r) :
    s.sameRecord (examine E r units s).1 r' :=
  have ⟨_, sweeps, _⟩ := examine_sweeps E units s walked
  sweeps.others r' h

/-- A record before one examined is as it was, also after the rest of the burst. -/
theorem burst_before (fuel : Nat) (units : Option Nat) (next : nextRecord s pos = some r) {a : Space × Nat}
    (before : sweptBefore a r) : s.sameRecord (burst E fuel units pos s).1 a := by
  obtain ⟨walked, -⟩ := nextRecord_some next
  have own := examine_other (E := E) (s := s) units walked (ne_of_sweptBefore before).symm
  cases fuel with
  | zero => rw [burst_out]; exact s.sameRecord_refl a
  | succ fuel =>
    rw [burst_succ _ _ next]
    split
    · exact own
    · exact State.sameRecord_trans own (burst_posAfter fuel _ walked (sweptBefore_asymm before))

end Burst

end Sys2Proof.Machine
end

section
/-! PROOFS. A burst of the sweep: the commit units that lead from one state to another, record by record, and those an
examination spends (R63, R179, R181). -/

namespace Sys2Proof.Machine

/-! ## The walk in two states -/

/-- The keys of a table are those it has a value for. -/
theorem mem_keys_iff {α : Type} (l : List (Nat × α)) (n : Nat) : n ∈ l.map Prod.fst ↔ (tblGet l n).isSome := by
  induction l with
  | nil => simp [tblGet]
  | cons a l ih =>
    obtain ⟨k, v⟩ := a
    rw [List.map_cons, List.mem_cons, ih, tblGet]
    by_cases h : k = n
    · simp [h]
    · simp [h, Ne.symm h]

/-- A rising table gives each value it lists. -/
theorem tblGet_of_mem {α : Type} {l : List (Nat × α)} (rising : tblRising l = true) {p : Nat × α} (h : p ∈ l) :
    tblGet l p.1 = some p.2 := by
  induction l with
  | nil => cases h
  | cons a l ih =>
    have lt := tblRising_lt rising
    have rising' : tblRising l = true := by cases l <;> simp_all [tblRising]
    obtain ⟨k, v⟩ := a
    rcases List.mem_cons.1 h with rfl | h
    · simp [tblGet]
    · rw [tblGet, if_neg (lt p h).ne, ih rising' h]

/-- Two rising tables that have values for the same numbers have the same keys. -/
theorem keys_eq {α : Type} {l l' : List (Nat × α)} (rising : tblRising l = true) (rising' : tblRising l' = true)
    (same : ∀ n, (tblGet l n).isSome = (tblGet l' n).isSome) : l.map Prod.fst = l'.map Prod.fst := by
  have sorted : ∀ {l : List (Nat × α)}, tblRising l = true → (l.map Prod.fst).Pairwise (· < ·) :=
    fun h => List.pairwise_map.2 ((tblRising_iff _).1 h)
  exact (sorted rising).eq_of_mem_iff (sorted rising') fun n => by rw [mem_keys_iff, mem_keys_iff, same]

section Walk

variable {E : Nat} {s t : State} {out : List ((Space × Nat) × List Dispatch)}

/-- The sweep makes no record and removes none. -/
theorem State.SweptBy.item_isSome (h : s.SweptBy E out t) (n : Nat) :
    (getItem n s).isSome = (getItem n t).isSome := by
  by_cases hn : ((.item, n) : Space × Nat) ∈ out.map Prod.fst
  · obtain ⟨⟨r, ds⟩, ho, rfl⟩ := List.mem_map.1 hn
    obtain ⟨x, found, -, -, -, -, up, -⟩ := h.items n ds ho
    rw [found, up]; rfl
  · rcases h.otherItems n hn with same | ⟨x, found, -, -, -, marked⟩
    · rw [same]
    · rw [found, marked]; rfl

theorem State.SweptBy.title_isSome (h : s.SweptBy E out t) (n : Nat) :
    (getTitle n s).isSome = (getTitle n t).isSome := by
  by_cases hn : ((.title, n) : Space × Nat) ∈ out.map Prod.fst
  · obtain ⟨⟨r, ds⟩, ho, rfl⟩ := List.mem_map.1 hn
    obtain ⟨x, y, found, -, -, -, -, -, left⟩ := h.titles n ds ho
    rw [found, left]; rfl
  · rcases h.otherTitles n hn with same | ⟨x, found, -, -, -, marked⟩
    · rw [same]
    · rw [found, marked]; rfl

/-- So its walk is the same before and after it. -/
theorem State.SweptBy.sweepWalk_eq (h : s.SweptBy E out t) (tables : s.tablesOk) (tables' : t.tablesOk)
    (pos : SweepPos) : t.sweepWalk pos = s.sweepWalk pos := by
  have items := keys_eq tables.1 tables'.1 h.item_isSome
  have titles := keys_eq tables.2.1 tables'.2.1 h.title_isSome
  have numbers : ∀ l : List (Nat × Title), (l.map fun p => ((.title, p.1) : Space × Nat)) =
      (l.map Prod.fst).map fun m => (.title, m) := by simp
  cases pos <;> simp only [State.sweepWalk, numbers, items, titles]

theorem Keeps.tablesOk (h : Keeps s t) (tables : s.tablesOk) : t.tablesOk := by
  obtain ⟨-, -, -, -, -, -, -, -, -, -, views, known, items, titles, patrons, -⟩ := h
  obtain ⟨i, x, p, v, k⟩ := tables
  exact ⟨items i, titles x, patrons p, views v, known k⟩

theorem examine_tablesOk (E : Nat) (r : Space × Nat) (units : Option Nat) (tables : s.tablesOk) :
    (examine E r units s).1.tablesOk := (examine_keeps E r units (.refl s)).tablesOk tables

theorem examine_sweepWalk {r : Space × Nat} (units : Option Nat) (tables : s.tablesOk) (walked : r.1 ≠ .patron)
    (pos : SweepPos) : (examine E r units s).1.sweepWalk pos = s.sweepWalk pos :=
  have ⟨_, sweeps, _⟩ := examine_sweeps E units s walked
  sweeps.swept.sweepWalk_eq tables (examine_tablesOk E r units tables) pos

/-- The walk from a position is the part of the whole walk that is reached from it. -/
theorem State.sweepWalk_eq_filter (s : State) (pos : SweepPos) :
    s.sweepWalk pos = (s.sweepWalk (.item 0)).filter pos.reaches := by
  cases pos <;> simp [State.sweepWalk, List.filter_map, Function.comp_def, SweepPos.reaches]

theorem reaches_of_mem_sweepWalk {pos : SweepPos} {r : Space × Nat} (h : r ∈ s.sweepWalk pos) :
    pos.reaches r = true := by
  rw [State.sweepWalk_eq_filter] at h
  exact (List.mem_filter.1 h).2

end Walk

/-! ## The commit units at a record -/

/-- How many commit units lead from the record `r` of `s` to that of `t`: the part of `State.burstUnits` at `r`. -/
def State.recordUnits (s t : State) (r : Space × Nat) : Nat :=
  match r.1 with
  | .item => if getItem r.2 s = getItem r.2 t then 0 else 1
  | .title =>
    match getTitle r.2 s, getTitle r.2 t with
    | some x, some y =>
      x.holds.length - y.holds.length + if y.currentTo = x.currentTo ∧ y.quarantined = x.quarantined then 0 else 1
    | _, _ => 0
  | .patron => 0

section Units

variable {E n : Nat} {r : Space × Nat} {s t u v : State}

theorem recordUnits_of_same (h : s.sameRecord t r) : s.recordUnits t r = 0 := by
  obtain ⟨_ | _ | _, n⟩ := r
  · simpa [State.recordUnits] using h
  · have h : getTitle n s = getTitle n t := h
    simp only [State.recordUnits, h]
    cases getTitle n t <;> simp
  · rfl

theorem recordUnits_congr (h : s.sameRecord t r) (k : u.sameRecord v r) : s.recordUnits u r = t.recordUnits v r := by
  obtain ⟨_ | _ | _, n⟩ := r
  · have h : getItem n s = getItem n t := h
    have k : getItem n u = getItem n v := k
    simp [State.recordUnits, h, k]
  · have h : getTitle n s = getTitle n t := h
    have k : getTitle n u = getTitle n v := k
    simp [State.recordUnits, h, k]
  · rfl

/-- A count as a sum. -/
theorem countP_eq_sum {α : Type} (p : α → Bool) (l : List α) :
    l.countP p = (l.map fun a => if p a then 1 else 0).sum := by
  induction l with
  | nil => rfl
  | cons a l ih => rw [List.countP_cons, ih, List.map_cons, List.sum_cons, Nat.add_comm]

/-- The units that lead from one state to another, in the order of the walk. -/
theorem burstUnits_eq_sum (tables : s.tablesOk) (u : State) :
    s.burstUnits u = ((s.sweepWalk (.item 0)).map (s.recordUnits u)).sum := by
  have walk : s.sweepWalk (.item 0) =
      (s.store.items.map fun p => (.item, p.1)) ++ s.store.titles.map fun p => (.title, p.1) := by
    simp [State.sweepWalk]
  rw [walk, List.map_append, List.sum_append, List.map_map, List.map_map, State.burstUnits, countP_eq_sum]
  congr 2
  · refine List.map_congr_left fun p hp => ?_
    have found : getItem p.1 s = some p.2 := tblGet_of_mem tables.1 hp
    simp only [Function.comp, State.recordUnits, found, bne_iff_ne, ne_eq, eq_comm (a := getItem p.1 u), ite_not]
  · refine List.map_congr_left fun p hp => ?_
    have found : getTitle p.1 s = some p.2 := tblGet_of_mem tables.2.1 hp
    simp only [Function.comp, State.recordUnits, found]
    cases getTitle p.1 u <;> rfl

/-- An examination with at most one unit leads to what it leaves by the units it spends. -/
theorem Examines.units {paid : Bool} (h : Examines E r s t paid) : s.recordUnits t r = paid.toNat := by
  cases h with
  | idle => exact recordUnits_of_same (s.sameRecord_refl r)
  | @marksItem n s x f found home whole fails =>
    have changed : x ≠ { x with quarantined := true } := fun e => by simpa [whole] using congrArg Item.quarantined e
    simpa [State.recordUnits, getItem_recordFault, getItem_markItem, found] using changed
  | @bringsItem n s x found home whole agrees stale =>
    have changed : x ≠ (bringUp (classRow s x.cls) (calendarOf s) E n x).1 := fun e =>
      stale (e ▸ (bringUp_kept (classRow s x.cls) (calendarOf s) E n x).1)
    simpa [State.recordUnits, getItem_touched agrees, found] using changed
  | @marksTitle n s x f found home whole fails =>
    simp [State.recordUnits, getTitle_recordFault, getTitle_markTitle, found, whole]

/-- So does that of a title to be brought up that has one entry to a patron; and where units are left, it is the whole
examination. -/
theorem ExpiresAt.units {x : Title} {k : Nat} (h : ExpiresAt E n x s) (nodup : (x.holds.map HoldEntry.patron).Nodup) :
    let y := expiring E n x (some k) s
    ∃ k', y.2.1 = some k' ∧ s.recordUnits y.1 (.title, n) + k' = k ∧
      (0 < k' → expiring E n x none s = (y.1, none, y.2.2)) := by
  intro z
  obtain ⟨ds, y, left⟩ := expireTitle_expires (E := E) (room := 3) (dayRoom := 3)
    (fuel := min (x.holds.length + 1) k) h.found h.checks
  obtain ⟨most, whole⟩ := expireTitle_units h.found h.checks nodup left.found
  have found : getTitle n z.1 = some y := left.found
  have current : y.currentTo = if z.2.2 then x.currentTo else E := left.currentTo
  have spent : s.recordUnits z.1 (.title, n) = x.holds.length - y.holds.length + if z.2.2 then 0 else 1 := by
    simp only [State.recordUnits, h.found, found, left.quarantined, current]
    cases z.2.2
    · simp [Ne.symm h.stale]
    · simp
  change x.holds.length - y.holds.length + (if z.2.2 then 0 else 1) ≤ _ at most
  change x.holds.length - y.holds.length + (if z.2.2 then 0 else 1) < _ → _ at whole
  have units : z.2.1 = some (k - (x.holds.length - y.holds.length) - if z.2.2 then 0 else 1) := by
    simp only [z, expiring, Option.elim_some, left.found]
    rfl
  refine ⟨_, units, by rw [spent]; omega, fun spare => ?_⟩
  have same : expireTitle E n 3 3 (x.holds.length + 1) s =
      expireTitle E n 3 3 (min (x.holds.length + 1) k) s := by
    by_cases enough : x.holds.length + 1 ≤ k
    · rw [Nat.min_eq_left enough]
    · exact whole (by omega) _ (Nat.min_le_left _ _)
  simp only [z, expiring, Option.elim_none, Option.elim_some, same]
  rfl

/-- An examination spends the units that lead to what it leaves; and where units are left, it is the whole
examination. -/
theorem examine_units {k : Nat} (some_ : k ≠ 0) (walked : r.1 ≠ .patron)
    (settled : ∀ n x, r = (.title, n) → ExpiresAt E n x s → (x.holds.map HoldEntry.patron).Nodup) :
    let y := examine E r (some k) s
    ∃ k', y.2.1 = some k' ∧ s.recordUnits y.1 r + k' = k ∧ (0 < k' → examine E r none s = (y.1, none, y.2.2)) := by
  have left : some k ≠ some 0 := by simpa using some_
  rcases examine_cases E s walked with ⟨t, paid, stop, case, eq⟩ | ⟨n, x, rfl, at_, eq⟩
  · rw [eq _ left, eq none (by simp)]
    simp only [Examines.result, case.units]
    cases paid
    · exact ⟨k, rfl, by simp, fun _ => rfl⟩
    · exact ⟨k - 1, rfl, by simp; omega, fun _ => rfl⟩
  · rw [eq _ left, eq none (by simp)]
    exact at_.units (settled n x rfl at_)

end Units

end Sys2Proof.Machine
end

section
/-! PROOFS. A burst of the sweep cut after some commit units: how many it spends, which come first, and the start reset
within it (R59, R63, R179, R199). -/

namespace Sys2Proof.Machine

section Burst

variable {E : Nat} {s : State} {pos : SweepPos} {r : Space × Nat}

/-- The titles that a burst from a position may bring up have one entry to a patron (R29). -/
def State.SettledFrom (s : State) (pos : SweepPos) : Prop :=
  ∀ n x, pos.reaches (.title, n) = true → getTitle n s = some x → x.quarantined = false →
    viewOf (blockOf .title n) s = .home → (x.holds.map HoldEntry.patron).Nodup

theorem State.homeSettled.from (h : s.homeSettled) (pos : SweepPos) : s.SettledFrom pos :=
  fun n x _ found whole home => (h n x found whole home).patrons

theorem State.SettledFrom.posAfter (h : s.SettledFrom pos) (units : Option Nat) (next : nextRecord s pos = some r) :
    (examine E r units s).1.SettledFrom (posAfter r) := by
  obtain ⟨walked, reached⟩ := nextRecord_some next
  obtain ⟨out, sweeps, -⟩ := examine_sweeps E units s walked
  intro n x reach found whole home
  have after := (reaches_posAfter walked _).1 reach
  have same : getTitle n s = getTitle n (examine E r units s).1 := sweeps.others _ (ne_of_sweptBefore after)
  have view : viewOf (blockOf .title n) (examine E r units s).1 = viewOf (blockOf .title n) s := by
    rw [viewOf, sweeps.swept.rest.2.1]; rfl
  exact h n x (reaches_of_sweptBefore reached after) (same.trans found) whole (view.symm.trans home)

/-- Of the walk from a position the first record and the records after it. -/
theorem sweepWalk_cons (tables : s.tablesOk) (next : nextRecord s pos = some r) :
    s.sweepWalk pos = r :: s.sweepWalk (posAfter r) := by
  rw [s.sweepWalk_nextRecord pos tables, next]

theorem sweepWalk_nil (tables : s.tablesOk) (next : nextRecord s pos = none) : s.sweepWalk pos = [] := by
  rw [s.sweepWalk_nextRecord pos tables, next]

/-- The next record's part of the units, when the records after it have theirs. -/
theorem sum_recordUnits_cons {t u : State} (tables : s.tablesOk) (next : nextRecord s pos = some r)
    (others : ∀ r', r' ≠ r → s.sameRecord t r') (own : t.sameRecord u r) :
    ((s.sweepWalk pos).map (s.recordUnits u)).sum =
      s.recordUnits t r + ((s.sweepWalk (posAfter r)).map (t.recordUnits u)).sum := by
  obtain ⟨walked, -⟩ := nextRecord_some next
  rw [sweepWalk_cons tables next, List.map_cons, List.sum_cons,
    recordUnits_congr (s.sameRecord_refl r) (State.sameRecord_symm own)]
  congr 2
  refine List.map_congr_left fun r' hr => recordUnits_congr (others r' ?_) (u.sameRecord_refl r')
  exact ne_of_sweptBefore ((reaches_posAfter walked r').1 (reaches_of_mem_sweepWalk hr))

/-- A burst spends the units that lead to what it leaves; and where units are left, it is the whole burst. -/
theorem burst_units (E fuel k : Nat) (tables : s.tablesOk) (settled : s.SettledFrom pos) :
    let u := (burst E fuel (some k) pos s).1
    ∃ left, ((s.sweepWalk pos).map (s.recordUnits u)).sum + left = k ∧
      (0 < left → (burst E fuel none pos s).1 = u) := by
  have unchanged : ∀ (s : State) (l : List (Space × Nat)), (l.map (s.recordUnits s)).sum = 0 := fun s l =>
    List.sum_eq_zero fun x hx => by
      obtain ⟨r, -, rfl⟩ := List.mem_map.1 hx
      exact recordUnits_of_same (s.sameRecord_refl r)
  induction fuel generalizing k pos s with
  | zero =>
    rw [burst_out, burst_out]
    exact ⟨k, by rw [unchanged, Nat.zero_add], fun _ => rfl⟩
  | succ fuel ih =>
    by_cases spent : k = 0
    · subst spent
      rw [burst_zero]
      exact ⟨0, by rw [unchanged], by simp⟩
    cases next : nextRecord s pos with
    | none =>
      rw [burst_none _ _ next, burst_none _ _ next]
      exact ⟨k, by rw [unchanged, Nat.zero_add], fun _ => rfl⟩
    | some r =>
      obtain ⟨walked, reached⟩ := nextRecord_some next
      obtain ⟨k', left, cost, whole⟩ := examine_units (E := E) (s := s) spent walked fun n x hr at_ =>
        settled n x (hr ▸ reached) at_.found at_.whole at_.home
      have others := fun r' => examine_other (E := E) (s := s) (some k) walked (r' := r')
      have tables' := examine_tablesOk E r (some k) tables
      have settled' := settled.posAfter (E := E) (some k) next
      have walk := examine_sweepWalk (E := E) (some k) tables walked (posAfter r)
      rw [burst_succ _ _ next, burst_succ _ none next]
      generalize hx : examine E r (some k) s = x at *
      obtain ⟨t, u1, stop⟩ := x
      dsimp only at left cost whole others tables' settled' walk ⊢
      subst left
      cases stop with
      | true =>
        refine ⟨k', ?_, fun spare => by simp [whole spare]⟩
        rw [if_pos rfl, sum_recordUnits_cons tables next others (t.sameRecord_refl r), unchanged]
        exact cost
      | false =>
        obtain ⟨k'', cost', whole'⟩ := ih k' tables' settled'
        rw [walk] at cost'
        refine ⟨k'', ?_, fun spare => ?_⟩
        · rw [if_neg (by simp), sum_recordUnits_cons tables next others
            (burst_posAfter fuel (some k') walked (not_sweptBefore_self r))]
          omega
        · rw [whole (by omega)]
          exact whole' spare

/-- Where a burst cut short has changed a record, the records before it are as the whole burst leaves them. -/
theorem burst_in_order (E fuel k : Nat) (settled : s.SettledFrom pos) {a b : Space × Nat} (before : sweptBefore a b)
    (changed : ¬ s.sameRecord (burst E fuel (some k) pos s).1 b) :
    (burst E fuel (some k) pos s).1.sameRecord (burst E fuel none pos s).1 a := by
  induction fuel generalizing k pos s with
  | zero => exact absurd (by rw [burst_out]; exact s.sameRecord_refl b) changed
  | succ fuel ih =>
    by_cases spent : k = 0
    · subst spent
      exact absurd (by rw [burst_zero]; exact s.sameRecord_refl b) changed
    cases next : nextRecord s pos with
    | none => exact absurd (by rw [burst_none _ _ next]; exact s.sameRecord_refl b) changed
    | some r =>
      obtain ⟨walked, reached⟩ := nextRecord_some next
      by_cases here : b = r
      · subst here
        exact State.sameRecord_trans (State.sameRecord_symm (burst_before _ _ next before))
          (burst_before _ _ next before)
      · obtain ⟨k', left, cost, whole⟩ := examine_units (E := E) (s := s) spent walked fun n x hr at_ =>
          settled n x (hr ▸ reached) at_.found at_.whole at_.home
        have own := examine_other (E := E) (s := s) (some k) walked here
        have settled' := settled.posAfter (E := E) (some k) next
        rw [burst_succ _ _ next] at changed ⊢
        rw [burst_succ _ _ next]
        generalize examine E r (some k) s = x at *
        obtain ⟨t, u1, stop⟩ := x
        dsimp only at left whole own settled' changed ⊢
        subst left
        cases stop with
        | true => exact absurd own changed
        | false =>
          have later : ¬ t.sameRecord (burst E fuel (some k') (posAfter r) t).1 b :=
            fun same => changed (State.sameRecord_trans own same)
          have spare : 0 < k' := Nat.pos_of_ne_zero fun e => later (by
            rw [e, burst_zero]; exact t.sameRecord_refl b)
          rw [whole spare]
          exact ih k' settled' later

/-! ## The first transition -/

/-- A record at which the sweep has nothing to do is passed over. -/
theorem examine_of_sweptAt {k : Nat} (some_ : k ≠ 0) (walked : r.1 ≠ .patron) (h : s.sweptAt E r) :
    examine E r (some k) s = (s, some k, false) := by
  obtain ⟨sp, n⟩ := r
  cases sp with
  | item =>
    rcases h with away | ⟨x, found, marked | ⟨agrees, current⟩⟩
    · have away : viewOf (blockOf .item n) s ≠ .home := away
      simp [examine, some_, examineItem, away]
    · have found : getItem n s = some x := found
      simp [examine, some_, examineItem, fetchItem_read found (.inl marked), marked, found]
    · have found : getItem n s = some x := found
      simp [examine, some_, examineItem, fetchItem_read found (.inr agrees), current, found]
      intro _ marked whole
      simp [marked] at whole
  | title =>
    rcases h with away | ⟨x, found, marked | ⟨checks, current⟩⟩
    · have away : viewOf (blockOf .title n) s ≠ .home := away
      simp [examine, some_, examineTitle, away]
    · have found : getTitle n s = some x := found
      simp [examine, some_, examineTitle, fetchTitle_read found (.inl marked), marked, found]
    · have found : getTitle n s = some x := found
      simp [examine, some_, examineTitle, fetchTitle_read found (.inr checks), current, found]
      intro _ marked whole
      simp [marked] at whole
  | patron => exact absurd rfl walked

/-- The records at which there is nothing to do cost no unit and none of what a burst may do. -/
theorem burst_passes {fuel k : Nat} (some_ : k ≠ 0) (tables : s.tablesOk) {l rest : List (Space × Nat)}
    (walk : s.sweepWalk pos = l ++ r :: rest) (swept : ∀ r ∈ l, s.sweptAt E r) :
    ∃ pos', nextRecord s pos' = some r ∧
      (burst E (l.length + fuel) (some k) pos s).1 = (burst E fuel (some k) pos' s).1 := by
  induction l generalizing pos with
  | nil =>
    refine ⟨pos, ?_, by rw [List.length_nil, Nat.zero_add]⟩
    cases next : nextRecord s pos with
    | none => simp [sweepWalk_nil tables next] at walk
    | some r' =>
      rw [sweepWalk_cons tables next] at walk
      exact congrArg some (List.cons.inj walk).1
  | cons r' l ih =>
    cases next : nextRecord s pos with
    | none => simp [sweepWalk_nil tables next] at walk
    | some r'' =>
      rw [sweepWalk_cons tables next] at walk
      obtain ⟨rfl, tail⟩ := List.cons.inj walk
      obtain ⟨pos', next', same⟩ := ih tail fun r hr => swept r (List.mem_cons_of_mem _ hr)
      refine ⟨pos', next', ?_⟩
      rw [List.length_cons, Nat.succ_add, burst_succ _ _ next,
        examine_of_sweptAt some_ (nextRecord_some next).1 (swept _ List.mem_cons_self)]
      exact same

/-- With a unit complete the first item that needs its transition has been brought up. -/
theorem burst_first {k n : Nat} {l rest : List (Space × Nat)} (some_ : 1 ≤ k) (tables : s.tablesOk)
    (walk : s.sweepWalk pos = l ++ (.item, n) :: rest) (short : l.length < Config.burst)
    (swept : ∀ r ∈ l, s.sweptAt E r) (home : viewOf (blockOf .item n) s = .home) (room : 3 ≤ freePlaces s) {x : Item}
    (found : getItem n s = some x) (whole : x.quarantined = false) (agrees : x.check = .agrees)
    (stale : x.currentTo ≠ E) :
    getItem n (burst E Config.burst (some k) pos s).1 =
      some (bringUp (classRow s x.cls) (calendarOf s) E n x).1 := by
  obtain ⟨fuel, hf⟩ : ∃ fuel, Config.burst = l.length + (fuel + 1) := ⟨Config.burst - l.length - 1, by omega⟩
  obtain ⟨pos', next, same⟩ := burst_passes (fuel := fuel + 1) (Nat.one_le_iff_ne_zero.1 some_) tables walk swept
  have up : examine E (.item, n) (some k) s = (touched E n x s, some (k - 1), false) := by
    simp [examine, Nat.one_le_iff_ne_zero.1 some_, examineItem, home, fetchItem_read found (.inr agrees), whole, stale,
      Nat.not_lt.2 room, touched, spend]
  rw [hf, same, burst_succ _ _ next, up]
  have kept : getItem n (touched E n x s) = _ :=
    burst_posAfter (E := E) (s := touched E n x s) fuel (some (k - 1)) (r := (.item, n)) (by simp)
      (not_sweptBefore_self _)
  exact kept.symm.trans (getItem_touched agrees)

end Burst

end Sys2Proof.Machine
end

section
/-! PROOFS. What a start reset keeps (R199, R179, R187). -/

namespace Sys2Proof.Machine

/-- With no unit complete a cut grant leaves the state as it was (R179). -/
theorem runUnits_zero (s : State) : runUnits 0 s = s := by
  unfold runUnits
  repeat' split
  any_goals rfl
  exact burst_zero _

/-! ## A burst of the sweep cut short -/

section Sweep

variable {s : State} {E units : Nat}

theorem runUnits_sweep (held : s.arb.held = some ⟨.sweep, E⟩) : runUnits units s = (runBurst E (some units) s).1 := by
  simp [runUnits, held]

/-- The end of a burst writes the sweep's own state and asks for the next burst. -/
theorem afterBurst_eq (e : BurstEnd) (s : State) :
    ∃ d a, afterBurst e s = { s with day := d, arb := a } ∧ d.county = s.day.county := by
  cases e
  · exact ⟨_, _, rfl, rfl⟩
  · exact ⟨_, _, rfl, rfl⟩
  · unfold afterBurst
    dsimp only
    split <;> exact ⟨_, _, rfl, rfl⟩

/-- The command of a burst leaves what the burst leaves in the records, the dispatch queue and all that is
nonvolatile. -/
theorem exec_sweepBurst (held : s.arb.held = some ⟨.sweep, E⟩) :
    ∃ t, exec .sweepBurst s = .next t ∧ t.store = (runBurst E none s).1.store ∧
      t.queue = (runBurst E none s).1.queue ∧ clearVolatile t = clearVolatile (runBurst E none s).1 := by
  obtain ⟨d, a, after, county⟩ := afterBurst_eq (runBurst E none s).2 (runBurst E none s).1
  refine ⟨refreshAttention (endGrant (afterBurst (runBurst E none s).2 (runBurst E none s).1)), ?_, ?_, ?_, ?_⟩
  · show execSweepBurst s = _
    simp [execSweepBurst, held, finish]
  · rw [after]; rfl
  · rw [after]; rfl
  · rw [clearVolatile_refreshAttention, clearVolatile_endGrant, after]
    exact clearVolatile_congr rfl county rfl rfl rfl rfl rfl

/-- A burst cut short leaves whole commit units, at most as many as were complete. -/
theorem cut_burst (E units : Nat) (s : State) :
    ∃ out, out.length ≤ units ∧ s.SweptBy E out (runBurst E (some units) s).1 :=
  have ⟨out, sweeps, most⟩ := burst_sweeps E Config.burst (some units) (s.day.pos.getD .first) s
  ⟨out, most units rfl, sweeps.swept⟩

/-- A sum does not need the members with nothing to add. -/
theorem sum_map_filter_of_zero {α : Type} {f : α → Nat} {p : α → Bool} {l : List α} (h : ∀ a, p a = false → f a = 0) :
    ((l.filter p).map f).sum = (l.map f).sum := by
  induction l with
  | nil => rfl
  | cons a l ih =>
    cases hp : p a
    · rw [List.filter_cons_of_neg (by simp [hp]), ih, List.map_cons, List.sum_cons, h a hp, Nat.zero_add]
    · rw [List.filter_cons_of_pos hp, List.map_cons, List.map_cons, List.sum_cons, List.sum_cons, ih]

/-- The units of a burst are those at the records from its position on: it changes none before it. -/
theorem burstUnits_runBurst (tables : s.tablesOk) (n : Option Nat) :
    let u := (runBurst E n s).1
    s.burstUnits u = ((s.sweepWalk (s.day.pos.getD .first)).map (s.recordUnits u)).sum := by
  intro u
  rw [burstUnits_eq_sum tables, s.sweepWalk_eq_filter (s.day.pos.getD .first)]
  refine (sum_map_filter_of_zero fun r hr => recordUnits_of_same ?_).symm
  exact burst_unreached Config.burst n (by simpa using hr)

/-- A burst cut short spends at most its units, and where units are left, it is the whole burst. -/
theorem cut_burst_units (tables : s.tablesOk) (settled : s.homeSettled) :
    let u := (runBurst E (some units) s).1
    s.burstUnits u ≤ units ∧ (s.burstUnits u < units → (runBurst E none s).1 = u) := by
  obtain ⟨left, cost, whole⟩ := burst_units E Config.burst units tables (settled.from (s.day.pos.getD .first))
  dsimp only
  rw [burstUnits_runBurst tables]
  exact ⟨Nat.le.intro cost, fun spare => whole (Nat.pos_of_ne_zero fun e => by
    rw [e, Nat.add_zero] at cost
    exact absurd cost spare.ne)⟩

end Sweep

/-! ## The obligation -/

/-- The part of a start reset within a grant: what is left where a command of the grant was complete. -/
theorem left_done {units : Nat} {s : State} {i : Instr}
    (h : ∃ u, exec i s = .next u ∧ clearVolatile (runUnits units s) = clearVolatile u) :
    ∃ u, exec i s = .next u ∧ exec (.startReset (.inGrant units)) s = exec (.startReset .quiet) u :=
  have ⟨u, run, same⟩ := h
  ⟨u, run, left_of_runUnits same⟩

/-- A start reset within a burst of the sweep. -/
theorem startReset_in_burst {s : State} {E units : Nat} (held : s.arb.held = some ⟨.sweep, E⟩) :
    let left := fun u : State => exec (.startReset (.inGrant units)) s = exec (.startReset .quiet) u
    ∃ u out, out.length ≤ units ∧ s.SweptBy E out u ∧ left u ∧
      (s.tablesOk → s.homeSettled → ∃ t, exec .sweepBurst s = .next t ∧
        s.burstUnits u ≤ units ∧
        (s.burstUnits u < units → left t ∧ u.store = t.store ∧ u.queue = t.queue) ∧
        (∀ a b, sweptBefore a b → ¬ s.sameRecord u b → u.sameRecord t a) ∧
        (1 ≤ units → ∀ l n rest, s.sweepWalk (s.day.pos.getD (.item 0)) = l ++ (.item, n) :: rest →
          l.length < 64 → (∀ r ∈ l, s.sweptAt E r) → viewOf (blockOf .item n) s = .home → 3 ≤ freePlaces s →
          ∀ r, getItem n s = some r → r.quarantined = false → r.check = .agrees → r.currentTo ≠ E →
            getItem n u = some (bringUp (classRow s r.cls) (calendarOf s) E n r).1)) := by
  intro left
  have run := runUnits_sweep (units := units) held
  obtain ⟨out, most, swept⟩ := cut_burst E units s
  refine ⟨_, out, most, swept, left_of_runUnits (by rw [run]), fun tables settled => ?_⟩
  obtain ⟨t, command, store, queue, cleared⟩ := exec_sweepBurst held
  obtain ⟨spent, whole⟩ := cut_burst_units (E := E) (units := units) tables settled
  refine ⟨t, command, spent, fun spare => ?_, fun a b before changed => ?_, ?_⟩
  · have same := whole spare
    refine ⟨left_of_runUnits (by rw [run, cleared, same]), by rw [store, same], by rw [queue, same]⟩
  · have ordered := burst_in_order E Config.burst units (settled.from _) before changed
    refine State.sameRecord_trans ordered ?_
    obtain ⟨_ | _ | _, n⟩ := a <;> simp [State.sameRecord, getItem, getTitle, store, runBurst]
  · intro some_ l n rest walk short done home room r found sound agrees stale
    exact burst_first some_ tables walk short done home room found sound agrees stale

/-- Settles O31: a start reset between grants and at every moment, within each kind of grant, and within the store erase
of a JOIN. -/
theorem startResetKeepsWholeUnits : Obligations.StartResetKeepsWholeUnits := by
  refine ⟨fun s => ⟨exec_startReset .quiet s, fun m => ?_⟩, fun s units => ?_, fun s n => cut_erase⟩
  · obtain ⟨u, cleared⟩ := startReset_clears m s
    refine ⟨_, exec_startReset m s, ?_⟩
    rw [cleared]
    refine ⟨rfl, rfl, rfl, rfl, rfl, rfl, rfl, rfl, rfl, rfl, rfl, rfl, rfl, rfl, rfl, rfl, fun e he => ?_⟩
    obtain ⟨e', -, rfl⟩ := List.mem_map.1 he
    rfl
  · refine ⟨?_, ?_, ?_, fun E => startReset_in_burst, ?_, ?_, ?_, ?_⟩
    · rintro rfl
      exact left_of_runUnits (by rw [runUnits_zero])
    · refine fun h held => ⟨fun some_ => ?_, fun all => left_done (cut_operation_all held all)⟩
      rcases cut_operation held some_ with done | op | ⟨u, marked, same⟩
      · exact .inl (left_done done)
      · exact .inr (.inl (left_of_runUnits op))
      · exact .inr (.inr ⟨u, marked, left_of_runUnits same⟩)
    · refine fun e E i held row => ⟨fun some_ => ?_, fun all => left_done (cut_application_all held row all)⟩
      rcases cut_application held row some_ with done | ⟨sp, n, u, target, marked, same⟩
      · exact .inl (left_done done)
      · exact .inr ⟨sp, n, u, target, marked, left_of_runUnits same⟩
    · exact fun E held some_ => left_done (cut_freeze held some_)
    · exact fun E held some_ => left_done (cut_read held some_)
    · refine fun k E age f p b serial u held slot => ⟨fun body some_ => left_done (cut_write held slot body some_),
        fun total body => ⟨fun some_ => ?_, fun all => left_done (cut_last_all held slot body all)⟩⟩
      rcases cut_last held slot body some_ with done | ⟨v, unit, same⟩
      · exact .inl (left_done done)
      · exact .inr ⟨v, unit, left_of_runUnits same⟩
    · refine fun b E held tables => ⟨fun view => ?_, fun view => ?_⟩
      · have frees : (viewOf b s).freesRecords = true := by
          rcases view with view | ⟨st, view⟩ | ⟨st, view⟩ <;> rw [view] <;> rfl
        obtain ⟨u, same, rest⟩ := cut_freeing (units := units) held tables frees
        exact ⟨u, left_of_runUnits same, rest⟩
      · have keeps : (viewOf b s).freesRecords = false := by
          rcases view with view | view | ⟨st, view⟩ <;> rw [view] <;> rfl
        exact left_of_runUnits (by rw [cut_freeing_kept held keeps])

end Sys2Proof.Machine
end
section
/-! PROOFS. The settle of a title (R33, R34): step 1 pairs WAITING entries with SHELF copies, step 2 marks loans
trapped or untrapped, one at a time in the order of their due days and items. -/

namespace Sys2Proof.Machine

/-! ## Lists with distinct keys -/

/-- Two elements of a list with distinct keys are the same when their keys are. -/
theorem eq_of_key_eq {α β : Type} {f : α → β} {l : List α} (nodup : (l.map f).Nodup) {x y : α} (hx : x ∈ l)
    (hy : y ∈ l) (key : f x = f y) : x = y :=
  List.inj_on_of_nodup_map nodup hx hy key

/-! ## One entry, one copy changed -/

section Counts

variable {t : Title}

@[simp] theorem Title.setEntry_copies (p : Nat) (st : HoldState) : (t.setEntry p st).copies = t.copies := rfl

@[simp] theorem Title.setCopy_holds (i : Nat) (v : CopyView) : (t.setCopy i v).holds = t.holds := rfl

@[simp] theorem Title.setCopy_items (i : Nat) (v : CopyView) :
    (t.setCopy i v).copies.map CopyRef.item = t.copies.map CopyRef.item := by
  simp only [Title.setCopy, List.map_map]
  refine List.map_congr_left fun c _ => ?_
  simp only [Function.comp]
  split <;> rfl

@[simp] theorem Title.setEntry_patrons (p : Nat) (st : HoldState) :
    (t.setEntry p st).holds.map HoldEntry.patron = t.holds.map HoldEntry.patron :=
  (t.setEntry_alike p st).patrons

/-- Only the number of copies is the same as only their views change. -/
@[simp] theorem Title.setCopy_length (i : Nat) (v : CopyView) : (t.setCopy i v).copies.length = t.copies.length := by
  simp [Title.setCopy]

/-- The copy of an item changed, told by the copy: with distinct items it is that copy alone. -/
theorem Title.setCopy_eq {c : CopyRef} (nodup : (t.copies.map CopyRef.item).Nodup) (hc : c ∈ t.copies) (v : CopyView) :
    (t.setCopy c.item v).copies = t.copies.map fun d => if d = c then { c with view := v } else d := by
  refine List.map_congr_left fun d hd => ?_
  by_cases h : d = c
  · simp [h]
  · have other : d.item ≠ c.item := fun k => h (eq_of_key_eq nodup hd hc k)
    simp [h, other]

/-- The entry of a patron changed, told by the entry. -/
theorem Title.setEntry_eq {h : HoldEntry} (nodup : (t.holds.map HoldEntry.patron).Nodup) (hh : h ∈ t.holds)
    (st : HoldState) :
    (t.setEntry h.patron st).holds = t.holds.map fun g => if g = h then { h with state := st } else g := by
  refine List.map_congr_left fun g hg => ?_
  by_cases k : g = h
  · simp [k]
  · have other : g.patron ≠ h.patron := fun e => k (eq_of_key_eq nodup hg hh e)
    simp [k, other]

end Counts

/-- Nothing is replaced in a list without the element. -/
theorem map_replace_of_not_mem {α : Type} [DecidableEq α] {l : List α} {x : α} (h : x ∉ l) (y : α) :
    (l.map fun z => if z = x then y else z) = l :=
  (List.map_congr_left fun z hz => if_neg (by rintro rfl; exact h hz)).trans (List.map_id' l)

/-- One element of a list replaced changes a count by what the two elements count. -/
theorem countP_replace {α : Type} [DecidableEq α] (p : α → Bool) {l : List α} (nodup : l.Nodup) {x : α} (hx : x ∈ l)
    (y : α) : (l.map fun z => if z = x then y else z).countP p + (p x).toNat = l.countP p + (p y).toNat := by
  induction l with
  | nil => cases hx
  | cons z l ih =>
    obtain ⟨fresh, rest⟩ := List.nodup_cons.1 nodup
    rcases List.mem_cons.1 hx with rfl | hx
    · simp only [List.map_cons, if_true, map_replace_of_not_mem fresh, List.countP_cons]
      cases p x <;> cases p y <;> simp
    · have other : z ≠ x := fun k => fresh (k ▸ hx)
      have := ih rest hx
      simp only [List.map_cons, if_neg other, List.countP_cons]
      omega

/-- The first element that a test picks, replaced by one that it does not pick, leaves those behind it. -/
theorem filter_replace_first {α : Type} [DecidableEq α] {p : α → Bool} {l : List α} (nodup : l.Nodup) {x y : α}
    (hx : l.find? p = some x) (hy : p y = false) :
    l.filter p = x :: (l.map fun z => if z = x then y else z).filter p := by
  induction l with
  | nil => cases hx
  | cons z l ih =>
    obtain ⟨fresh, rest⟩ := List.nodup_cons.1 nodup
    rw [List.find?_cons] at hx
    split at hx
    · rename_i picked
      obtain rfl : z = x := Option.some.inj hx
      rw [List.map_cons, if_pos rfl, map_replace_of_not_mem fresh, List.filter_cons_of_pos picked,
        List.filter_cons_of_neg (by simp [hy])]
    · rename_i passed
      have other : z ≠ x := fun k => by simp [k, List.find?_some hx] at passed
      rw [List.map_cons, if_neg other, List.filter_cons_of_neg (by simp [passed]),
        List.filter_cons_of_neg (by simp [passed])]
      exact ih rest hx

section SetCopy

variable {t : Title} {c : CopyRef}

/-- A count of copies after one of them has changed its view. -/
theorem Title.countP_setCopy (p : CopyRef → Bool) (nodup : (t.copies.map CopyRef.item).Nodup) (hc : c ∈ t.copies)
    (v : CopyView) :
    (t.setCopy c.item v).copies.countP p + (p c).toNat = t.copies.countP p + (p { c with view := v }).toNat := by
  rw [Title.setCopy_eq nodup hc]
  exact countP_replace p nodup.of_map hc _

/-- A count of entries after one of them has changed its state. -/
theorem Title.countP_setEntry {h : HoldEntry} (p : HoldEntry → Bool) (nodup : (t.holds.map HoldEntry.patron).Nodup)
    (hh : h ∈ t.holds) (st : HoldState) :
    (t.setEntry h.patron st).holds.countP p + (p h).toNat = t.holds.countP p + (p { h with state := st }).toNat := by
  rw [Title.setEntry_eq nodup hh]
  exact countP_replace p nodup.of_map hh _

end SetCopy

/-! ## Step 1: the shelf (R33) -/

/-- The SHELF copies. -/
def Title.shelves (t : Title) : List CopyRef := t.copies.filter CopyRef.onShelf

/-- The WAITING entries, oldest first. -/
def Title.waiters (t : Title) : List HoldEntry := t.holds.filter HoldEntry.isWaiting

theorem Title.oldestWaiting_eq (t : Title) : t.oldestWaiting = t.waiters.head? := by
  simp [Title.oldestWaiting, Title.waiters]

theorem Title.shelfCopy_eq (t : Title) : t.shelfCopy = t.shelves.head? := by
  simp [Title.shelfCopy, Title.shelves]

theorem Title.waiting_eq (t : Title) : t.waiting = t.waiters.length := List.countP_eq_length_filter

/-- The pairs of step 1: the WAITING entries, oldest first, with the SHELF copies, lowest item first (R33). -/
def Title.pairs (t : Title) : List (HoldEntry × CopyRef) := t.waiters.zip t.shelves

/-- A title once an entry is allocated a copy. -/
def Title.allocate (t : Title) (h : HoldEntry) (c : CopyRef) : Title :=
  (t.setEntry h.patron (.allocated c.item)).setCopy c.item (.away (some h.patron))

section Shelf

variable {n fuel : Nat} {t : Title} {h : HoldEntry} {c : CopyRef}

theorem settleShelf_none (k : t.oldestWaiting = none ∨ t.shelfCopy = none) : settleShelf n fuel t = (t, []) := by
  cases fuel with
  | zero => rfl
  | succ fuel => unfold settleShelf; split <;> simp_all

theorem settleShelf_some (hh : t.oldestWaiting = some h) (hc : t.shelfCopy = some c) :
    settleShelf n (fuel + 1) t =
      ((settleShelf n fuel (t.allocate h c)).1,
        .allocate c.item n h.patron h.pickup :: (settleShelf n fuel (t.allocate h c)).2) := by
  simp [settleShelf, hh, hc, Title.allocate]

/-- An allocation leaves fewer WAITING entries, also where a patron has several. -/
theorem Title.waiting_allocate_lt (hh : t.oldestWaiting = some h) : (t.allocate h c).waiting < t.waiting := by
  have mem := List.mem_of_find?_eq_some hh
  have waits : h.isWaiting = true := List.find?_some hh
  have fewer : ∀ l : List HoldEntry, h ∈ l →
      ((l.map fun g => if g.patron = h.patron then { g with state := .allocated c.item } else g).countP
        HoldEntry.isWaiting < l.countP HoldEntry.isWaiting) := by
    intro l hl
    rw [List.countP_map, List.countP_eq_length_filter, List.countP_eq_length_filter]
    have sub : ∀ g : HoldEntry, (HoldEntry.isWaiting ∘ fun g : HoldEntry =>
        if g.patron = h.patron then { g with state := .allocated c.item } else g) g =
          (g.isWaiting && !(g.patron == h.patron)) := by
      intro g
      by_cases k : g.patron = h.patron <;> simp [k, HoldEntry.isWaiting]
    rw [List.filter_congr fun g _ => (sub g).trans (Bool.and_comm _ _), ← List.filter_filter]
    exact List.length_filter_lt_length_iff_exists.2 ⟨h, List.mem_filter.2 ⟨hl, waits⟩, by simp⟩
  exact fewer t.holds mem

/-- Step 1 ends with no entry waiting or no copy on the shelf (R33). -/
theorem settleShelf_done (enough : t.waiting ≤ fuel) :
    (settleShelf n fuel t).1.oldestWaiting = none ∨ (settleShelf n fuel t).1.shelfCopy = none := by
  induction fuel generalizing t with
  | zero =>
    refine .inl (List.find?_eq_none.2 fun h hh waits => ?_)
    exact absurd (List.countP_pos_iff.2 ⟨h, hh, waits⟩) (by change ¬ 0 < t.waiting; omega)
  | succ fuel ih =>
    cases hh : t.oldestWaiting with
    | none => rw [settleShelf_none (.inl hh)]; exact .inl hh
    | some h =>
      cases hc : t.shelfCopy with
      | none => rw [settleShelf_none (.inr hc)]; exact .inr hc
      | some c =>
        rw [settleShelf_some hh hc]
        exact ih (by have := Title.waiting_allocate_lt (c := c) hh; omega)

theorem settleShelf_items : (settleShelf n fuel t).1.copies.map CopyRef.item = t.copies.map CopyRef.item := by
  induction fuel generalizing t with
  | zero => rfl
  | succ fuel ih =>
    unfold settleShelf
    split
    · exact ih.trans (by simp)
    · rfl

/-- An allocated entry leaves the queue of those that wait, at its head. -/
theorem Title.waiters_allocate (nodup : (t.holds.map HoldEntry.patron).Nodup) (hh : t.oldestWaiting = some h) :
    t.waiters = h :: (t.allocate h c).waiters := by
  have holds : (t.allocate h c).holds = (t.setEntry h.patron (.allocated c.item)).holds := rfl
  rw [Title.waiters, Title.waiters, holds, Title.setEntry_eq nodup (List.mem_of_find?_eq_some hh)]
  exact filter_replace_first nodup.of_map hh rfl

/-- An allocated copy leaves the shelf, lowest item first. -/
theorem Title.shelves_allocate (nodup : (t.copies.map CopyRef.item).Nodup) (hc : t.shelfCopy = some c) :
    t.shelves = c :: (t.allocate h c).shelves := by
  have copies : (t.allocate h c).copies = (t.setCopy c.item (.away (some h.patron))).copies := rfl
  rw [Title.shelves, Title.shelves, copies, Title.setCopy_eq nodup (List.mem_of_find?_eq_some hc)]
  exact filter_replace_first nodup.of_map hc rfl

end Shelf

/-- An entry as step 1 leaves it (R33). -/
def pairedEntry (ps : List (HoldEntry × CopyRef)) (h : HoldEntry) : HoldEntry :=
  match ps.find? fun p => p.1.patron == h.patron with
  | some p => { h with state := .allocated p.2.item }
  | none => h

/-- A copy as step 1 leaves it (R33). -/
def pairedCopy (ps : List (HoldEntry × CopyRef)) (c : CopyRef) : CopyRef :=
  match ps.find? fun p => p.2.item == c.item with
  | some p => { c with view := .away (some p.1.patron) }
  | none => c

/-- A title as step 1 leaves it (R33). -/
def Title.shelved (t : Title) : Title :=
  { t with holds := t.holds.map (pairedEntry t.pairs), copies := t.copies.map (pairedCopy t.pairs) }

section Paired

variable {n fuel : Nat} {t : Title} {h g : HoldEntry} {c d : CopyRef} {ps : List (HoldEntry × CopyRef)}

theorem pairedEntry_none (other : ∀ p ∈ ps, p.1.patron ≠ h.patron) : pairedEntry ps h = h := by
  have : (ps.find? fun p => p.1.patron == h.patron) = none := List.find?_eq_none.2 (by simpa using other)
  simp [pairedEntry, this]

theorem pairedCopy_none (other : ∀ p ∈ ps, p.2.item ≠ c.item) : pairedCopy ps c = c := by
  have : (ps.find? fun p => p.2.item == c.item) = none := List.find?_eq_none.2 (by simpa using other)
  simp [pairedCopy, this]

theorem pairedEntry_cons : pairedEntry ((h, c) :: ps) g =
    if g.patron = h.patron then { g with state := .allocated c.item } else pairedEntry ps g := by
  by_cases k : g.patron = h.patron
  · simp [pairedEntry, k]
  · simp [pairedEntry, k, Ne.symm k]

theorem pairedCopy_cons : pairedCopy ((h, c) :: ps) d =
    if d.item = c.item then { d with view := .away (some h.patron) } else pairedCopy ps d := by
  by_cases k : d.item = c.item
  · simp [pairedCopy, k]
  · simp [pairedCopy, k, Ne.symm k]

theorem Title.mem_of_mem_shelves (hc : c ∈ t.shelves) : c ∈ t.copies ∧ c.onShelf = true := List.mem_filter.1 hc

theorem Title.mem_of_mem_pairs {p : HoldEntry × CopyRef} (hp : p ∈ t.pairs) : p.1 ∈ t.waiters ∧ p.2 ∈ t.shelves :=
  List.of_mem_zip hp

/-- A copy that is not on the shelf is in no pair. -/
theorem Title.pairedCopy_other (nodup : (t.copies.map CopyRef.item).Nodup) (hc : c ∈ t.copies)
    (off : c.onShelf = false) : pairedCopy t.pairs c = c := by
  refine pairedCopy_none fun p hp key => ?_
  obtain ⟨mem, on⟩ := Title.mem_of_mem_shelves (Title.mem_of_mem_pairs hp).2
  rw [eq_of_key_eq nodup mem hc key, off] at on
  cases on

/-- The pairs of a title, the first of them made. -/
theorem Title.pairs_allocate (items : (t.copies.map CopyRef.item).Nodup)
    (patrons : (t.holds.map HoldEntry.patron).Nodup) (hh : t.oldestWaiting = some h) (hc : t.shelfCopy = some c) :
    t.pairs = (h, c) :: (t.allocate h c).pairs := by
  rw [Title.pairs, Title.waiters_allocate (c := c) patrons hh, Title.shelves_allocate (h := h) items hc]
  rfl

theorem Title.shelved_none (k : t.oldestWaiting = none ∨ t.shelfCopy = none) : t.pairs = [] ∧ t.shelved = t := by
  have unpaired : t.pairs = [] := by
    rcases k with k | k
    · rw [Title.oldestWaiting_eq, List.head?_eq_none_iff] at k
      simp [Title.pairs, k]
    · rw [Title.shelfCopy_eq, List.head?_eq_none_iff] at k
      simp [Title.pairs, k]
  have entry : pairedEntry [] = id := rfl
  have copy : pairedCopy [] = id := rfl
  exact ⟨unpaired, by simp [Title.shelved, unpaired, entry, copy]⟩

/-- With the first pair made, the others make of the title what all of them make. -/
theorem Title.shelved_allocate (items : (t.copies.map CopyRef.item).Nodup)
    (patrons : (t.holds.map HoldEntry.patron).Nodup) (hh : t.oldestWaiting = some h) (hc : t.shelfCopy = some c) :
    (t.allocate h c).shelved = t.shelved := by
  have first := Title.pairs_allocate items patrons hh hc
  have freshPatron : ∀ p ∈ (t.allocate h c).pairs, p.1.patron ≠ h.patron := by
    intro p hp key
    have sub : (t.waiters.map HoldEntry.patron).Nodup := patrons.sublist (List.filter_sublist.map _)
    rw [Title.waiters_allocate (c := c) patrons hh] at sub
    exact (List.nodup_cons.1 sub).1 (List.mem_map.2 ⟨p.1, (Title.mem_of_mem_pairs hp).1, key⟩)
  have freshItem : ∀ p ∈ (t.allocate h c).pairs, p.2.item ≠ c.item := by
    intro p hp key
    have sub : (t.shelves.map CopyRef.item).Nodup := items.sublist (List.filter_sublist.map _)
    rw [Title.shelves_allocate (h := h) items hc] at sub
    exact (List.nodup_cons.1 sub).1 (List.mem_map.2 ⟨p.2, (Title.mem_of_mem_pairs hp).2, key⟩)
  have holds : (t.allocate h c).holds.map (pairedEntry (t.allocate h c).pairs) = t.holds.map (pairedEntry t.pairs) := by
    rw [first]
    simp only [Title.allocate, Title.setCopy, Title.setEntry, List.map_map]
    refine List.map_congr_left fun g _ => ?_
    simp only [Function.comp, pairedEntry_cons]
    split
    · rename_i key
      exact pairedEntry_none fun p hp => by simpa [key] using freshPatron p hp
    · rfl
  have copies : (t.allocate h c).copies.map (pairedCopy (t.allocate h c).pairs) = t.copies.map (pairedCopy t.pairs) := by
    rw [first]
    simp only [Title.allocate, Title.setCopy, Title.setEntry, List.map_map]
    refine List.map_congr_left fun d _ => ?_
    simp only [Function.comp, pairedCopy_cons]
    split
    · rename_i key
      exact pairedCopy_none fun p hp => by simpa [key] using freshItem p hp
    · rfl
  simp only [Title.shelved, holds, copies]
  rfl

/-- Step 1 by its pairs: where there is nothing to pair, and where the first pair is made. -/
theorem Title.shelf_induction {motive : Title → Prop}
    (idle : ∀ t : Title, t.oldestWaiting = none ∨ t.shelfCopy = none → motive t)
    (pair : ∀ (t : Title) (h : HoldEntry) (c : CopyRef), (t.copies.map CopyRef.item).Nodup →
      (t.holds.map HoldEntry.patron).Nodup → t.oldestWaiting = some h → t.shelfCopy = some c →
      motive (t.allocate h c) → motive t)
    (items : (t.copies.map CopyRef.item).Nodup) (patrons : (t.holds.map HoldEntry.patron).Nodup) : motive t := by
  generalize hw : t.waiting = w
  induction w using Nat.strong_induction_on generalizing t with
  | h w ih =>
    by_cases k : t.oldestWaiting = none ∨ t.shelfCopy = none
    · exact idle t k
    · obtain ⟨waits, shelf⟩ := not_or.1 k
      obtain ⟨h, hh⟩ := Option.ne_none_iff_exists'.1 waits
      obtain ⟨c, hc⟩ := Option.ne_none_iff_exists'.1 shelf
      refine pair t h c items patrons hh hc (ih _ ?_ ?_ ?_ rfl)
      · exact hw ▸ Title.waiting_allocate_lt hh
      · simpa [Title.allocate] using items
      · simpa [Title.allocate] using patrons

/-- Step 1 makes the pairs, oldest entry and lowest item first, and nothing else (R33). -/
theorem settleShelf_eq (items : (t.copies.map CopyRef.item).Nodup) (patrons : (t.holds.map HoldEntry.patron).Nodup)
    (enough : t.waiting ≤ fuel) :
    settleShelf n fuel t = (t.shelved, t.pairs.map fun p => .allocate p.2.item n p.1.patron p.1.pickup) := by
  revert fuel
  refine Title.shelf_induction (motive := fun t => ∀ {fuel}, t.waiting ≤ fuel → settleShelf n fuel t =
    (t.shelved, t.pairs.map fun p => .allocate p.2.item n p.1.patron p.1.pickup))
    (fun t k => ?_) (fun t h c items patrons hh hc rest => ?_) items patrons
  · intro fuel _
    rw [settleShelf_none k, (Title.shelved_none k).1, (Title.shelved_none k).2]
    rfl
  · intro fuel enough
    have fewer := Title.waiting_allocate_lt (c := c) hh
    obtain ⟨fuel, rfl⟩ := Nat.exists_eq_add_one_of_ne_zero (by omega : fuel ≠ 0)
    rw [settleShelf_some hh hc, rest (by omega), Title.shelved_allocate items patrons hh hc,
      Title.pairs_allocate items patrons hh hc]
    rfl

/-- The entries that still wait after step 1. -/
theorem Title.waiting_shelved (items : (t.copies.map CopyRef.item).Nodup)
    (patrons : (t.holds.map HoldEntry.patron).Nodup) : t.shelved.waiting = t.waiting - t.pairs.length := by
  refine Title.shelf_induction (motive := fun t => t.shelved.waiting = t.waiting - t.pairs.length)
    (fun t k => ?_) (fun t h c items patrons hh hc rest => ?_) items patrons
  · rw [(Title.shelved_none k).1, (Title.shelved_none k).2]
    rfl
  · have one : t.waiting = (t.allocate h c).waiting + 1 := by
      rw [Title.waiting_eq, Title.waiting_eq, Title.waiters_allocate (c := c) patrons hh]
      rfl
    rw [← Title.shelved_allocate items patrons hh hc, rest, Title.pairs_allocate items patrons hh hc, one]
    simp

/-- Step 1 leaves the loans as they are. -/
theorem Title.loans_shelved (p : CopyRef → Bool) (loans : ∀ c, p c = true → c.onLoan = true)
    (items : (t.copies.map CopyRef.item).Nodup) : t.shelved.copies.filter p = t.copies.filter p := by
  have off : ∀ c : CopyRef, p c = true → c.onShelf = false := by
    intro c hp
    have := loans c hp
    unfold CopyRef.onLoan at this
    split at this
    · rename_i hv; simp [CopyRef.onShelf, hv]
    · cases this
  have same : ∀ c ∈ t.copies, p (pairedCopy t.pairs c) = p c ∧ (p c = true → pairedCopy t.pairs c = c) := by
    intro c hc
    by_cases on : c.onShelf = true
    · have np : p c = false := by
        by_contra k
        rw [off c (by simpa using k)] at on
        cases on
      refine ⟨?_, fun k => by simp [np] at k⟩
      unfold pairedCopy
      split
      · rw [np]
        by_contra k
        have := loans _ (by simpa using k)
        simp [CopyRef.onLoan] at this
      · rfl
    · rw [Title.pairedCopy_other items hc (by simpa using on)]
      exact ⟨rfl, fun _ => rfl⟩
  have map : t.shelved.copies = t.copies.map (pairedCopy t.pairs) := rfl
  have picked : t.copies.filter (p ∘ pairedCopy t.pairs) = t.copies.filter p :=
    List.filter_congr fun c hc => (same c hc).1
  rw [map, List.filter_map, picked]
  refine (List.map_congr_left fun c hc => ?_).trans (List.map_id' _)
  exact (same c (List.mem_of_mem_filter hc)).2 (List.mem_filter.1 hc).2

end Paired

end Sys2Proof.Machine
end
section
/-! PROOFS. Step 2 of the settle (R34): the loans that are marked trapped and those that are unmarked, in the order of
their due days and items; and the settle whole. -/

namespace Sys2Proof.Machine

/-! ## The order of loans -/

/-- A loan is trapped before another: the earlier due day first, the lower item first among equal days (R34). -/
def CopyRef.sooner (a b : CopyRef) : Prop := a.due < b.due ∨ (a.due = b.due ∧ a.item < b.item)

/-- Trapping takes the sooner loan first, untrapping the later one (R34). -/
def CopyRef.goesFirst (mark : Bool) (a b : CopyRef) : Prop := if mark then a.sooner b else b.sooner a

/-- The loans whose trapped mark is not yet as step 2 would have it. -/
def Title.unmarked (mark : Bool) (t : Title) : List CopyRef :=
  t.copies.filter fun c => c.onLoan && (c.isTrapped != mark)

/-- The loan that step 2 changes next. -/
def Title.toMark (mark : Bool) (t : Title) : Option CopyRef := if mark then t.toTrap else t.toUntrap

/-- The dispatch of a loan trapped or untrapped. -/
def CopyRef.markDispatch (mark : Bool) (c : CopyRef) : Dispatch := if mark then .trap c.item else .untrap c.item

theorem trapsFirst_iff {a b : CopyRef} : trapsFirst a b = true ↔ a.due < b.due ∨ (a.due = b.due ∧ a.item ≤ b.item) := by
  simp [trapsFirst]

/-- The best of a list by an order, the later of two equal ones losing. -/
def bestOf {α : Type} (better : α → α → Bool) (l : List α) : Option α :=
  l.foldl (fun best c =>
    match best with
    | none => some c
    | some b => if better b c then some b else some c) none

/-- By a total order the best of a list is one of it, and no worse than any other. -/
theorem bestOf_some {α : Type} {better : α → α → Bool} (total : ∀ a b, better a b = false → better b a = true)
    (refl : ∀ a, better a a = true)
    (trans : ∀ a b c, better a b = true → better b c = true → better a c = true) {l : List α} (some_ : l ≠ []) :
    ∃ m ∈ l, bestOf better l = some m ∧ ∀ x ∈ l, better m x = true := by
  have from_ : ∀ (l : List α) (b : α), ∃ m, (m = b ∨ m ∈ l) ∧ bestOf better (b :: l) = some m ∧
      better m b = true ∧ ∀ x ∈ l, better m x = true := by
    intro l
    induction l with
    | nil => exact fun b => ⟨b, .inl rfl, rfl, refl b, by simp⟩
    | cons c l ih =>
      intro b
      by_cases keeps : better b c = true
      · have next : bestOf better (b :: c :: l) = bestOf better (b :: l) := by simp [bestOf, keeps]
        obtain ⟨m, mem, found, best, rest⟩ := ih b
        refine ⟨m, mem.imp_right (List.mem_cons_of_mem c), next.trans found, best, ?_⟩
        exact List.forall_mem_cons.2 ⟨trans _ _ _ best keeps, rest⟩
      · have next : bestOf better (b :: c :: l) = bestOf better (c :: l) := by simp [bestOf, keeps]
        obtain ⟨m, mem, found, best, rest⟩ := ih c
        refine ⟨m, .inr (List.mem_cons.2 mem), next.trans found, ?_, List.forall_mem_cons.2 ⟨best, rest⟩⟩
        exact trans _ _ _ best (total _ _ (by simpa using keeps))
  cases l with
  | nil => exact absurd rfl some_
  | cons c l =>
    obtain ⟨m, mem, found, best, rest⟩ := from_ l c
    exact ⟨m, List.mem_cons.2 mem, found, List.forall_mem_cons.2 ⟨best, rest⟩⟩

theorem CopyRef.onLoan_of_isTrapped {c : CopyRef} (h : c.isTrapped = true) : c.onLoan = true := by
  unfold CopyRef.isTrapped at h
  split at h
  · rename_i hv; simp [CopyRef.onLoan, hv]
  · cases h

section Next

variable {t : Title} {c d : CopyRef} {mark : Bool}

theorem Title.mem_unmarked : c ∈ t.unmarked mark ↔ c ∈ t.copies ∧ c.onLoan = true ∧ c.isTrapped ≠ mark := by
  simp [Title.unmarked]

/-- The loans to untrap are the trapped ones. -/
theorem Title.unmarked_false : t.unmarked false = t.copies.filter CopyRef.isTrapped := by
  refine List.filter_congr fun c _ => ?_
  cases h : c.isTrapped
  · simp
  · simp [CopyRef.onLoan_of_isTrapped h]

theorem Title.toTrap_eq : t.toTrap = bestOf trapsFirst (t.unmarked true) := by
  have picks : t.unmarked true = t.copies.filter fun c => c.onLoan && !c.isTrapped := by simp [Title.unmarked]
  rw [picks, Title.toTrap, bestOf]
  congr
  funext best c
  cases best <;> rfl

theorem Title.toUntrap_eq : t.toUntrap = bestOf (fun b c => trapsFirst c b) (t.unmarked false) := by
  rw [Title.unmarked_false, Title.toUntrap, bestOf]
  congr
  funext best c
  cases best <;> rfl

/-- Step 2 takes, of the loans it can change, the one that goes first (R34). -/
theorem Title.toMark_some (items : (t.copies.map CopyRef.item).Nodup) (some_ : t.unmarked mark ≠ []) :
    ∃ c ∈ t.unmarked mark, t.toMark mark = some c ∧ ∀ d ∈ t.unmarked mark, d ≠ c → c.goesFirst mark d := by
  have distinct : ∀ c ∈ t.unmarked mark, ∀ d ∈ t.unmarked mark, d ≠ c → c.item ≠ d.item := fun c hc d hd ne k =>
    ne (eq_of_key_eq items (Title.mem_unmarked.1 hd).1 (Title.mem_unmarked.1 hc).1 k.symm)
  cases mark with
  | true =>
    obtain ⟨c, hc, found, best⟩ := bestOf_some (better := trapsFirst)
      (fun a b h => by simp only [trapsFirst_iff, ← Bool.not_eq_true] at *; omega)
      (fun a => by rw [trapsFirst_iff]; omega) (fun a b c h k => by rw [trapsFirst_iff] at *; omega) some_
    refine ⟨c, hc, Title.toTrap_eq.trans found, fun d hd ne => ?_⟩
    have first := trapsFirst_iff.1 (best d hd)
    have items := distinct c hc d hd ne
    simp only [CopyRef.goesFirst, if_true, CopyRef.sooner]
    omega
  | false =>
    obtain ⟨c, hc, found, best⟩ := bestOf_some (better := fun b c => trapsFirst c b)
      (fun a b h => by simp only [trapsFirst_iff, ← Bool.not_eq_true] at *; omega)
      (fun a => by rw [trapsFirst_iff]; omega) (fun a b c h k => by simp only [trapsFirst_iff] at *; omega) some_
    refine ⟨c, hc, Title.toUntrap_eq.trans found, fun d hd ne => ?_⟩
    have first := trapsFirst_iff.1 (best d hd)
    have items := distinct c hc d hd ne
    simp only [CopyRef.goesFirst, CopyRef.sooner, Bool.false_eq_true, if_false]
    omega

/-! ## One loan marked -/

/-- A loan with its trapped mark set or cleared. -/
def CopyRef.marked (mark : Bool) (c : CopyRef) : CopyRef := { c with view := .loan c.due mark }

/-- A title with the trapped mark of some loans set or cleared. -/
def Title.remark (mark : Bool) (cs : List CopyRef) (t : Title) : Title :=
  { t with copies := t.copies.map fun c => if c ∈ cs then c.marked mark else c }

@[simp] theorem CopyRef.marked_onLoan : (c.marked mark).onLoan = true := rfl
@[simp] theorem CopyRef.marked_isTrapped : (c.marked mark).isTrapped = mark := rfl
@[simp] theorem CopyRef.marked_onShelf : (c.marked mark).onShelf = false := rfl

theorem CopyRef.onShelf_of_onLoan (h : c.onLoan = true) : c.onShelf = false := by
  unfold CopyRef.onLoan at h
  split at h
  · rename_i hv; simp [CopyRef.onShelf, hv]
  · cases h

/-- The change of one loan's trapped mark. -/
theorem Title.remark_single (items : (t.copies.map CopyRef.item).Nodup) (hc : c ∈ t.copies) :
    t.setCopy c.item (.loan c.due mark) = t.remark mark [c] := by
  have := Title.setCopy_eq items hc (.loan c.due mark)
  simp only [Title.remark, List.mem_singleton]
  rw [show t.setCopy c.item (.loan c.due mark) = { t with copies := (t.setCopy c.item (.loan c.due mark)).copies } from rfl,
    this]
  congr 1
  refine List.map_congr_left fun d _ => ?_
  split
  · rename_i k; rw [k]; rfl
  · rfl

/-- What a loan's new mark changes of the counts: the trapped loans alone. -/
theorem Title.counts_setCopy_loan (items : (t.copies.map CopyRef.item).Nodup) (hc : c ∈ t.unmarked mark) :
    (t.setCopy c.item (.loan c.due mark)).loans = t.loans ∧
      (t.setCopy c.item (.loan c.due mark)).copies.countP CopyRef.onShelf = t.copies.countP CopyRef.onShelf ∧
      (t.setCopy c.item (.loan c.due mark)).trapped + (!mark).toNat = t.trapped + mark.toNat := by
  obtain ⟨mem, loan, diff⟩ := Title.mem_unmarked.1 hc
  have loans := Title.countP_setCopy CopyRef.onLoan items mem (.loan c.due mark)
  have shelf := Title.countP_setCopy CopyRef.onShelf items mem (.loan c.due mark)
  have trapped := Title.countP_setCopy CopyRef.isTrapped items mem (.loan c.due mark)
  have flag : c.isTrapped = !mark := Bool.eq_not.2 diff
  rw [loan, show ({ c with view := .loan c.due mark } : CopyRef).onLoan = true from rfl] at loans
  rw [CopyRef.onShelf_of_onLoan loan, show ({ c with view := .loan c.due mark } : CopyRef).onShelf = false from rfl] at shelf
  rw [flag, show ({ c with view := .loan c.due mark } : CopyRef).isTrapped = mark from rfl] at trapped
  exact ⟨by simpa [Title.loans] using loans, by simpa using shelf, trapped⟩

/-- The loans left to change once one of them is changed. -/
theorem Title.mem_unmarked_setCopy (items : (t.copies.map CopyRef.item).Nodup) (hc : c ∈ t.unmarked mark) :
    d ∈ (t.setCopy c.item (.loan c.due mark)).unmarked mark ↔ d ∈ t.unmarked mark ∧ d ≠ c := by
  obtain ⟨mem, loan, diff⟩ := Title.mem_unmarked.1 hc
  have copies := Title.setCopy_eq items mem (.loan c.due mark)
  simp only [Title.mem_unmarked, copies, List.mem_map]
  constructor
  · rintro ⟨⟨e, he, rfl⟩, onLoan, other⟩
    split at other
    · exact absurd rfl other
    · rename_i k
      rw [if_neg k] at onLoan ⊢
      exact ⟨⟨he, onLoan, other⟩, k⟩
  · rintro ⟨⟨hd, onLoan, other⟩, k⟩
    exact ⟨⟨d, hd, if_neg k⟩, onLoan, other⟩

end Next

/-! ## Step 2 (R34) -/

/-- What step 2 leaves: the loans `cs` with their mark changed, in the order in which they go. -/
structure Marks (mark : Bool) (k : Nat) (t : Title) (x : Title × List Dispatch) (cs : List CopyRef) : Prop where
  title : x.1 = t.remark mark cs
  dispatches : x.2 = cs.map (CopyRef.markDispatch mark)
  length : cs.length = k
  ordered : cs.Pairwise (CopyRef.goesFirst mark)
  of_unmarked : ∀ c ∈ cs, c ∈ t.unmarked mark
  first : ∀ c ∈ t.unmarked mark, c ∉ cs → ∀ d ∈ cs, d.goesFirst mark c

section Traps

variable {t : Title} {fuel k : Nat} {mark : Bool} {c : CopyRef}

theorem settleTraps_done (h : t.trapped = t.trapTarget) : settleTraps fuel t = (t, []) := by
  cases fuel with
  | zero => rfl
  | succ fuel => simp [settleTraps, h]

/-- How far the trapped count is from its target, on the side that trapping or untrapping mends. -/
def Title.gap (mark : Bool) (k : Nat) (t : Title) : Prop :=
  if mark then t.trapped + k = t.trapTarget else t.trapped = t.trapTarget + k

theorem Title.gap_zero : t.gap mark 0 ↔ t.trapped = t.trapTarget := by
  cases mark <;> simp [Title.gap]

/-- While the count is off, a loan is left to change (R34). -/
theorem Title.unmarked_ne_nil (h : t.gap mark (k + 1)) : t.unmarked mark ≠ [] := by
  intro none
  cases mark with
  | true =>
    have target : t.trapTarget ≤ t.loans := Nat.min_le_right _ _
    have all : t.loans ≤ t.trapped := by
      refine List.countP_mono_left fun c hc loan => ?_
      by_contra trapped
      have : c ∈ t.unmarked true := Title.mem_unmarked.2 ⟨hc, loan, trapped⟩
      simp [none] at this
    simp only [Title.gap, if_true] at h
    omega
  | false =>
    rw [Title.unmarked_false] at none
    have zero : t.trapped = 0 := by
      rw [Title.trapped, List.countP_eq_length_filter, none]
      rfl
    simp only [Title.gap, Bool.false_eq_true, if_false] at h
    omega

theorem settleTraps_succ (h : t.gap mark (k + 1)) (next : t.toMark mark = some c) :
    settleTraps (fuel + 1) t =
      ((settleTraps fuel (t.setCopy c.item (.loan c.due mark))).1,
        c.markDispatch mark :: (settleTraps fuel (t.setCopy c.item (.loan c.due mark))).2) := by
  cases mark with
  | true =>
    simp only [Title.gap, if_true] at h
    have short : t.trapped < t.trapTarget := by omega
    simp only [Title.toMark, if_true] at next
    simp [settleTraps, short, next, CopyRef.markDispatch]
  | false =>
    simp only [Title.gap, Bool.false_eq_true, if_false] at h
    have many : t.trapTarget < t.trapped := by omega
    simp only [Title.toMark, Bool.false_eq_true, if_false] at next
    simp [settleTraps, many, many.not_gt, next, CopyRef.markDispatch]

theorem Title.trapTarget_setCopy_loan (items : (t.copies.map CopyRef.item).Nodup) (hc : c ∈ t.unmarked mark) :
    (t.setCopy c.item (.loan c.due mark)).trapTarget = t.trapTarget := by
  have waiting : (t.setCopy c.item (.loan c.due mark)).waiting = t.waiting := rfl
  rw [Title.trapTarget, Title.trapTarget, waiting, (Title.counts_setCopy_loan items hc).1]

theorem Title.gap_setCopy_loan (items : (t.copies.map CopyRef.item).Nodup) (hc : c ∈ t.unmarked mark)
    (h : t.gap mark (k + 1)) : (t.setCopy c.item (.loan c.due mark)).gap mark k := by
  have count := (Title.counts_setCopy_loan items hc).2.2
  have target := Title.trapTarget_setCopy_loan items hc
  cases mark <;> simp [Title.gap] at * <;> omega

/-- The marks of one loan and then of others are the marks of all of them. -/
theorem Title.remark_cons {cs : List CopyRef} (items : (t.copies.map CopyRef.item).Nodup) (hc : c ∈ t.unmarked mark)
    (rest : ∀ d ∈ cs, d ∈ (t.setCopy c.item (.loan c.due mark)).unmarked mark) :
    (t.setCopy c.item (.loan c.due mark)).remark mark cs = t.remark mark (c :: cs) := by
  have fresh : c.marked mark ∉ cs := fun k => (Title.mem_unmarked.1 (rest _ k)).2.2 rfl
  rw [Title.remark_single items (Title.mem_unmarked.1 hc).1]
  simp only [Title.remark, List.map_map]
  congr 1
  refine List.map_congr_left fun d _ => ?_
  by_cases k : d = c
  · simp [k, fresh]
  · simp [k]

/-- Step 2 changes as many marks as the count is off, in their order (R34). -/
theorem settleTraps_marks (items : (t.copies.map CopyRef.item).Nodup) (h : t.gap mark k) (enough : k ≤ fuel) :
    ∃ cs, Marks mark k t (settleTraps fuel t) cs := by
  induction k generalizing t fuel with
  | zero =>
    rw [settleTraps_done (Title.gap_zero.1 h)]
    exact ⟨[], by simp [Title.remark], rfl, rfl, .nil, by simp, by simp⟩
  | succ k ih =>
    obtain ⟨fuel, rfl⟩ := Nat.exists_eq_add_one_of_ne_zero (by omega : fuel ≠ 0)
    obtain ⟨c, hc, next, best⟩ := Title.toMark_some items (Title.unmarked_ne_nil h)
    obtain ⟨cs, rest⟩ := ih (t := t.setCopy c.item (.loan c.due mark)) (fuel := fuel) (by simpa using items)
      (Title.gap_setCopy_loan items hc h) (by omega)
    have others := fun d hd => (Title.mem_unmarked_setCopy (d := d) items hc).1 (rest.of_unmarked d hd)
    rw [settleTraps_succ h next]
    refine ⟨c :: cs, rest.title.trans (Title.remark_cons items hc rest.of_unmarked),
      by rw [rest.dispatches]; rfl, by simp [rest.length], ?_, ?_, ?_⟩
    · exact List.pairwise_cons.2 ⟨fun d hd => best d (others d hd).1 (others d hd).2, rest.ordered⟩
    · exact List.forall_mem_cons.2 ⟨hc, fun d hd => (others d hd).1⟩
    · intro d hd out
      obtain ⟨ne, out⟩ := not_or.1 (mt List.mem_cons.2 out)
      exact List.forall_mem_cons.2
        ⟨best d hd ne, rest.first d ((Title.mem_unmarked_setCopy items hc).2 ⟨hd, ne⟩) out⟩

/-- The trapped count is off by some number on one of its sides, and never by more than the title has copies. -/
theorem Title.gap_exists (t : Title) :
    ∃ mark k, t.gap mark k ∧ k ≤ t.copies.length ∧
      k = (if mark then t.trapTarget - t.trapped else t.trapped - t.trapTarget) := by
  have trapped : t.trapped ≤ t.copies.length := List.countP_le_length
  have target : t.trapTarget ≤ t.copies.length := (Nat.min_le_right _ _).trans List.countP_le_length
  by_cases h : t.trapped ≤ t.trapTarget
  · exact ⟨true, t.trapTarget - t.trapped, by simp [Title.gap]; omega, by omega, rfl⟩
  · exact ⟨false, t.trapped - t.trapTarget, by simp [Title.gap]; omega, by omega, rfl⟩

/-- The counts after step 2: as many loans trapped as R34 gives, and no other count changed. -/
theorem settleTraps_counts (items : (t.copies.map CopyRef.item).Nodup) (h : t.gap mark k) (enough : k ≤ fuel) :
    (settleTraps fuel t).1.trapped = t.trapTarget ∧ (settleTraps fuel t).1.trapTarget = t.trapTarget ∧
      (settleTraps fuel t).1.holds = t.holds ∧
      (settleTraps fuel t).1.copies.countP CopyRef.onShelf = t.copies.countP CopyRef.onShelf := by
  induction k generalizing t fuel with
  | zero =>
    rw [settleTraps_done (Title.gap_zero.1 h)]
    exact ⟨Title.gap_zero.1 h, rfl, rfl, rfl⟩
  | succ k ih =>
    obtain ⟨fuel, rfl⟩ := Nat.exists_eq_add_one_of_ne_zero (by omega : fuel ≠ 0)
    obtain ⟨c, hc, next, -⟩ := Title.toMark_some items (Title.unmarked_ne_nil h)
    obtain ⟨trapped, target, holds, shelf⟩ := ih (t := t.setCopy c.item (.loan c.due mark)) (fuel := fuel)
      (by simpa using items) (Title.gap_setCopy_loan items hc h) (by omega)
    have target' := Title.trapTarget_setCopy_loan items hc
    rw [settleTraps_succ h next]
    exact ⟨trapped.trans target', target.trans target', holds.trans rfl,
      shelf.trans (Title.counts_setCopy_loan items hc).2.1⟩

end Traps

/-! ## The settle (R33, R34) -/

theorem Title.shelfCopy_eq_none (t : Title) : t.shelfCopy = none ↔ t.copies.countP CopyRef.onShelf = 0 := by
  simp [Title.shelfCopy, List.countP_eq_zero]

theorem settleTraps_items {fuel : Nat} {t : Title} :
    (settleTraps fuel t).1.copies.map CopyRef.item = t.copies.map CopyRef.item := by
  induction fuel generalizing t with
  | zero => rfl
  | succ fuel ih =>
    unfold settleTraps
    split
    · split
      · exact ih.trans (by simp)
      · rfl
    · split
      · split
        · exact ih.trans (by simp)
        · rfl
      · rfl

/-- The settle leaves the items of the copies, in their order. -/
theorem settle_items (n : Nat) (t : Title) : (settle n t).1.copies.map CopyRef.item = t.copies.map CopyRef.item :=
  settleTraps_items.trans settleShelf_items

/-- A settled title is balanced, whatever it was, with the same copies and the same entries' patrons. -/
theorem settle_balanced (n : Nat) {t : Title} (items : (t.copies.map CopyRef.item).Nodup) :
    (settle n t).1.balanced ∧ (settle n t).1.copies.map CopyRef.item = t.copies.map CopyRef.item ∧
      (settle n t).1.holds.map HoldEntry.patron = t.holds.map HoldEntry.patron := by
  have items1 := settleShelf_items (n := n) (fuel := t.holds.length) (t := t)
  have done := settleShelf_done (n := n) (t := t) (fuel := t.holds.length) List.countP_le_length
  change (settleTraps (settleShelf n t.holds.length t).1.copies.length (settleShelf n t.holds.length t).1).1.balanced ∧
    (settleTraps (settleShelf n t.holds.length t).1.copies.length (settleShelf n t.holds.length t).1).1.copies.map _ = _ ∧ _
  obtain ⟨mark, k, gap, enough, -⟩ := (settleShelf n t.holds.length t).1.gap_exists
  obtain ⟨trapped, target, holds, shelf⟩ := settleTraps_counts (items1 ▸ items) gap enough
  refine ⟨⟨?_, trapped.trans target.symm⟩, settle_items n t, (settle_alike n t).patrons⟩
  refine done.imp (fun none => ?_) (fun none => ?_)
  · rw [Title.oldestWaiting, holds]
    exact none
  · rw [Title.shelfCopy_eq_none, shelf]
    exact (Title.shelfCopy_eq_none _).1 none

/-- The settle, step by step, of a title with distinct items and patrons. -/
theorem settle_steps (n : Nat) {t : Title} (items : (t.copies.map CopyRef.item).Nodup)
    (patrons : (t.holds.map HoldEntry.patron).Nodup) :
    settle n t = ((settleTraps t.shelved.copies.length t.shelved).1,
      (t.pairs.map fun p => .allocate p.2.item n p.1.patron p.1.pickup) ++
        (settleTraps t.shelved.copies.length t.shelved).2) := by
  have one := settleShelf_eq (n := n) items patrons (fuel := t.holds.length) List.countP_le_length
  simp only [settle, one]

section Whole

variable {t : Title} {cs : List CopyRef} {mark : Bool} {c : CopyRef}

theorem Title.shelved_items (items : (t.copies.map CopyRef.item).Nodup) :
    (t.shelved.copies.map CopyRef.item).Nodup := by
  have same : t.shelved.copies.map CopyRef.item = t.copies.map CopyRef.item := by
    simp only [Title.shelved, List.map_map]
    refine List.map_congr_left fun c _ => ?_
    simp only [Function.comp, pairedCopy]
    split <;> rfl
  rw [same]
  exact items

theorem Title.unmarked_shelved (items : (t.copies.map CopyRef.item).Nodup) :
    t.shelved.unmarked mark = t.unmarked mark :=
  Title.loans_shelved _ (fun _ h => (Bool.and_eq_true _ _ ▸ h).1) items

/-- The number of loans to hold trapped once step 1 is made. -/
theorem Title.trapTarget_shelved (items : (t.copies.map CopyRef.item).Nodup)
    (patrons : (t.holds.map HoldEntry.patron).Nodup) :
    t.shelved.trapTarget = min (t.waiters.length - t.pairs.length) (t.copies.filter CopyRef.onLoan).length := by
  rw [Title.trapTarget, Title.waiting_shelved items patrons, Title.waiting_eq, Title.loans, List.countP_eq_length_filter,
    Title.loans_shelved CopyRef.onLoan (fun _ h => h) items]

theorem Title.trapped_shelved (items : (t.copies.map CopyRef.item).Nodup) :
    t.shelved.trapped = (t.copies.filter CopyRef.isTrapped).length := by
  rw [Title.trapped, List.countP_eq_length_filter,
    Title.loans_shelved CopyRef.isTrapped (fun _ => CopyRef.onLoan_of_isTrapped) items]

/-- A copy as both steps leave it. -/
def Title.settledCopy (mark : Bool) (cs : List CopyRef) (t : Title) (c : CopyRef) : CopyRef :=
  if pairedCopy t.pairs c ∈ cs then (pairedCopy t.pairs c).marked mark else pairedCopy t.pairs c

/-- A copy of a pair goes AWAY, and step 2 leaves it. -/
theorem Title.settledCopy_some {p : HoldEntry × CopyRef} (hcs : ∀ d ∈ cs, d ∈ t.unmarked mark)
    (found : (t.pairs.find? fun p => p.2.item == c.item) = some p) :
    t.settledCopy mark cs c = { c with view := .away (some p.1.patron) } := by
  have away : pairedCopy t.pairs c = { c with view := .away (some p.1.patron) } := by simp [pairedCopy, found]
  have out : pairedCopy t.pairs c ∉ cs := by
    intro k
    have := (Title.mem_unmarked.1 (hcs _ k)).2.1
    simp [away, CopyRef.onLoan] at this
  rw [Title.settledCopy, if_neg out, away]

/-- A copy of no pair is as step 2 leaves it. -/
theorem Title.settledCopy_none (found : (t.pairs.find? fun p => p.2.item == c.item) = none) :
    t.settledCopy mark cs c = if c ∈ cs then { c with view := .loan c.due mark } else c := by
  have same : pairedCopy t.pairs c = c := by simp [pairedCopy, found]
  rw [Title.settledCopy, same]
  rfl

end Whole

/-- Settles O19: step 1 by the pairs it makes, one after the other, and step 2 by the loans it marks, each the first of
those left. -/
theorem settleLeavesTheTitleBalanced : Obligations.SettleLeavesTheTitleBalanced := by
  refine ⟨fun n t => settle_balanced n, fun n t rising patrons => ?_⟩
  have items : (t.copies.map CopyRef.item).Nodup := rising.imp Nat.ne_of_lt
  obtain ⟨mark, k, gap, enough, hk⟩ := t.shelved.gap_exists
  obtain ⟨cs, marks⟩ := settleTraps_marks (Title.shelved_items items) gap enough
  have mem := fun c hc => Title.unmarked_shelved (mark := mark) items ▸ marks.of_unmarked c hc
  have first := fun c hc => marks.first c ((Title.unmarked_shelved (mark := mark) items).symm ▸ hc)
  have length := marks.length.trans hk
  rw [Title.trapTarget_shelved items patrons, Title.trapped_shelved items] at length
  have title : (settle n t).1 = { t with
      holds := t.holds.map (pairedEntry t.pairs), copies := t.copies.map (t.settledCopy mark cs) } := by
    rw [settle_steps n items patrons, marks.title]
    simp only [Title.remark, Title.shelved, List.map_map]
    rfl
  have dispatches : (settle n t).2 = (t.pairs.map fun p => .allocate p.2.item n p.1.patron p.1.pickup) ++
      cs.map (CopyRef.markDispatch mark) := by
    rw [settle_steps n items patrons, marks.dispatches]
  intro waiting pairs loans marked target sooner
  have loan : ∀ c, c ∈ loans ↔ c ∈ t.copies ∧ c.onLoan = true := fun c => List.mem_filter
  have trapped : ∀ c, c ∈ marked ↔ c ∈ t.copies ∧ c.isTrapped = true := fun c => List.mem_filter
  cases mark with
  | true =>
    have of_cs : ∀ c, c ∈ t.unmarked true ↔ c ∈ loans ∧ c ∉ marked := by
      intro c
      rw [Title.mem_unmarked, loan, trapped]
      tauto
    have none_over : marked.length ≤ target := by
      simp only [Title.gap, if_true, Title.trapTarget_shelved items patrons, Title.trapped_shelved items] at gap
      exact (Nat.le_add_right _ _).trans gap.le
    refine ⟨cs, [], dispatches.trans (by rw [List.map_nil, List.append_nil]; rfl), length,
      (Nat.sub_eq_zero_of_le none_over).symm, marks.ordered, fun c hc => (of_cs c).1 (mem c hc),
      fun c hl hm => first c ((of_cs c).2 ⟨hl, hm⟩), .nil, by simp, by simp, title.trans ?_⟩
    congr 1
    refine List.map_congr_left fun c _ => ?_
    split
    · rename_i found; exact Title.settledCopy_some mem found
    · rename_i found; simpa using Title.settledCopy_none found
  | false =>
    have of_cs : ∀ c, c ∈ t.unmarked false ↔ c ∈ marked := fun c => by rw [Title.unmarked_false]
    have none_short : target ≤ marked.length := by
      simp only [Title.gap, Bool.false_eq_true, if_false, Title.trapTarget_shelved items patrons,
        Title.trapped_shelved items] at gap
      exact (Nat.le_add_right _ _).trans gap.ge
    refine ⟨[], cs, dispatches.trans (by rw [List.map_nil, List.append_nil]; rfl),
      (Nat.sub_eq_zero_of_le none_short).symm, length, .nil, by simp, by simp, marks.ordered,
      fun c hc => (of_cs c).1 (mem c hc), fun c hm => first c ((of_cs c).2 hm), title.trans ?_⟩
    congr 1
    refine List.map_congr_left fun c _ => ?_
    split
    · rename_i found; exact Title.settledCopy_some mem found
    · rename_i found; simpa using Title.settledCopy_none found

end Sys2Proof.Machine
end
section
/-! PROOFS. The touch of a title before an operation and before a dispatch (R31, R44): O20. -/

namespace Sys2Proof.Machine

section Touch

variable {n E room dayRoom : Nat} {t : Title} {who : Requester} {s : State} {h : HoldEntry}

/-- With more units than entries, the removals end by themselves: how many more there are does not matter. -/
theorem expireTitle_fuel {fuel more : Nat} (found : getTitle n s = some t) (checks : t.checks = true)
    (enough : t.holds.length < fuel) (enough' : t.holds.length < more) :
    expireTitle E n room dayRoom fuel s = expireTitle E n room dayRoom more s := by
  induction fuel generalizing s t more with
  | zero => omega
  | succ fuel ih =>
    obtain ⟨more, rfl⟩ := Nat.exists_eq_add_one_of_ne_zero (by omega : more ≠ 0)
    rw [expireTitle_succ found, expireTitle_succ found]
    cases expired : t.expired E with
    | none => rfl
    | some h =>
      have fewer := (Title.afterExpiry_length (n := n) (t := t) (h := h)).trans_lt
        (Title.dropEntry_length_lt (Title.mem_of_expired expired))
      have rest := ih (more := more) (getTitle_afterRemoval (n := n) (s := s) (h := h) checks)
        (Title.afterExpiry_checks checks) (by omega) (by omega)
      simp only [rest]

/-- The title current to the day. -/
def current (E n : Nat) (t : Title) (s : State) : State := putTitle n { t with currentTo := E } s

theorem getTitle_current (checks : t.checks = true) :
    getTitle n (current E n t s) = some { t with currentTo := E } := by
  rw [current, getTitle_putTitle_same]
  exact congrArg some (Title.sealed_of_checks (t := { t with currentTo := E }) checks)

@[simp] theorem freePlaces_putTitle : freePlaces (putTitle n t s) = freePlaces s := rfl

theorem viewOf_afterRemoval (b : Block) : viewOf b (afterRemoval n h t s) = viewOf b s := by
  obtain ⟨q, hq⟩ := enqueueAll_eq (t.expiryDispatches n h) (putTitle n (t.afterExpiry n h) s)
  rw [afterRemoval, hq]
  rfl

theorem touchTitle_current (day : t.currentTo = E) : touchTitle E n t s = (s, false) := by
  simp [touchTitle, day]

section Stale

variable (found : getTitle n s = some t) (checks : t.checks = true) (stale : t.currentTo ≠ E)
include found

theorem touchTitle_of_none (stale : t.currentTo ≠ E) (expired : t.expired E = none) :
    touchTitle E n t s = (current E n t s, false) := by
  rw [touchTitle, if_neg stale, expireTitle_succ found]
  simp [expired, current]

/-- The touch stops where 2 places beyond the 3 cannot be reserved (R31). -/
theorem touchTitle_stops (stale : t.currentTo ≠ E) (expired : t.expired E = some h) (short : freePlaces s < 5) :
    touchTitle E n t s = (s, true) := by
  rw [touchTitle, if_neg stale, expireTitle_succ found]
  simp [expired, short]

include checks in
/-- The touch goes on with the title that one removal leaves. -/
theorem touchTitle_removes (stale : t.currentTo ≠ E) (expired : t.expired E = some h) (room : 5 ≤ freePlaces s) :
    touchTitle E n t s = touchTitle E n (t.afterExpiry n h) (afterRemoval n h t s) := by
  have day : (t.afterExpiry n h).currentTo ≠ E := by
    rw [Title.afterExpiry_alike.currentTo]
    exact stale
  have fewer := (Title.afterExpiry_length (n := n) (t := t) (h := h)).trans_lt
    (Title.dropEntry_length_lt (Title.mem_of_expired expired))
  rw [touchTitle, touchTitle, if_neg stale, if_neg day, expireTitle_succ found]
  simp only [expired, if_neg (Nat.not_lt.2 room)]
  exact expireTitle_fuel (getTitle_afterRemoval checks) (Title.afterExpiry_checks checks) fewer (Nat.lt_succ_self _)

include checks in
/-- The title stays in its place through a touch. -/
theorem getTitle_touchTitle : ∃ y, getTitle n (touchTitle E n t s).1 = some y := by
  unfold touchTitle
  split
  · exact ⟨t, found⟩
  · obtain ⟨ds, y, h⟩ := expireTitle_expires (E := E) (room := 5) (dayRoom := 0) (fuel := t.holds.length + 1) found checks
    exact ⟨y, h.found⟩

end Stale

/-! ## An operation on a title -/

/-- What an operation does with a title that passed its checks, once the touch is made. -/
def afterTouch (n : Nat) (rule : State → Title → TitleResult) (x : State × Bool) (t : Title) : OpResult :=
  match x with
  | (s2, true) => (s2, .deferred)
  | (s2, false) =>
    let c := rule s2 ((getTitle n s2).getD t)
    match c.2.2 with
    | .done v => (enqueueAll c.2.1 (putTitle n c.1 s2), .done v)
    | a => (s2, a)

section Op

variable {read : Bool} {missing : Reason} {rule : State → Title → TitleResult}

theorem titleOp_whole (home : viewOf (blockOf .title n) s = .home) (room : 3 ≤ freePlaces s)
    (found : getTitle n s = some t) (whole : t.quarantined = false) (checks : t.checks = true) :
    titleOp n who E read missing rule s = afterTouch n rule (touchTitle E n t s) t := by
  simp only [titleOp, home, gateOf, fetchTitle_read found (.inr checks), whole, roomForOp, room]
  rfl

/-- The title that a touched state holds does not depend on what stands for a missing one. -/
theorem afterTouch_congr {x : State × Bool} {u : Title} (held : ∃ y, getTitle n x.1 = some y) :
    afterTouch n rule x t = afterTouch n rule x u := by
  obtain ⟨y, hy⟩ := held
  obtain ⟨s2, stop⟩ := x
  cases stop with
  | true => rfl
  | false => simp only [afterTouch, show getTitle n s2 = some y from hy, Option.getD_some]

theorem opTitleDelete_whole (home : viewOf (blockOf .title n) s = .home) (room : 3 ≤ freePlaces s)
    (found : getTitle n s = some t) (whole : t.quarantined = false) (checks : t.checks = true) :
    opTitleDelete n who E s =
      if (touchTitle E n t s).2 then ((touchTitle E n t s).1, .deferred)
      else
        let t2 := (getTitle n (touchTitle E n t s).1).getD t
        if t2.copies.isEmpty && t2.holds.isEmpty then deleteTitle n t2 (touchTitle E n t s).1
        else ((touchTitle E n t s).1, .refused .notEmpty .nothing) := by
  simp only [opTitleDelete, home, gateOf, fetchTitle_read found (.inr checks), whole, roomForOp, room]
  cases h : touchTitle E n t s with
  | mk s2 stop => cases stop <;> rfl

end Op

/-- Every owner operation on an existing title, at two states whose touches end alike (R31). -/
theorem applyOp_touchTitle {o : OwnerOp} {u : Title} {v : State} (target : o.target = (.title, n))
    (create : ∀ b, o ≠ .titleCreate n b) (home : viewOf (blockOf .title n) s = .home) (room : 3 ≤ freePlaces s)
    (found : getTitle n s = some t) (whole : t.quarantined = false) (checks : t.checks = true)
    (home' : viewOf (blockOf .title n) v = .home) (room' : 3 ≤ freePlaces v) (found' : getTitle n v = some u)
    (whole' : u.quarantined = false) (checks' : u.checks = true) (same : touchTitle E n t s = touchTitle E n u v) :
    applyOp o who E s = applyOp o who E v := by
  have held : ∃ y, getTitle n (touchTitle E n u v).1 = some y := getTitle_touchTitle found' checks'
  have op : ∀ read missing rule, titleOp n who E read missing rule s = titleOp n who E read missing rule v := by
    intro read missing rule
    rw [titleOp_whole home room found whole checks, titleOp_whole home' room' found' whole' checks', same,
      afterTouch_congr held]
  cases o <;> simp only [OwnerOp.target, Prod.mk.injEq, reduceCtorEq, false_and, true_and] at target <;> subst target
  case titleCreate b => exact absurd rfl (create b)
  case titleDelete =>
    obtain ⟨y, hy⟩ := held
    simp only [applyOp]
    rw [opTitleDelete_whole home room found whole checks, opTitleDelete_whole home' room' found' whole' checks', same]
    simp only [hy, Option.getD_some]
  all_goals exact op _ _ _

/-! ## A dispatch for a title -/

/-- What a dispatch for a title leaves where it finds no record: the copy is released, or the dispatch is dropped (R44,
R47, R49). -/
def Dispatch.withoutTitle : Dispatch → State → State
  | .copyFree _ i _ | .pickupLapsed _ _ i => enqueue (.release i)
  | _ => id

/-- What a dispatch changes in the title it is for, before the settle. -/
def Dispatch.titleRule : Dispatch → Title → TitleChange
  | .copyState _ i r f => copyStateRule i r f
  | .copyFree _ i _ => copyFreeRule i
  | .holdFilled n p i => holdFilledRule n p i
  | .pickupLapsed n p i => pickupLapsedRule n p i
  | .copyRemove _ i => copyRemoveRule i
  | _ => fun t => (t, [])

/-- A dispatch for a title is applied to the title's record (R44). -/
theorem applyDispatch_title {d : Dispatch} (target : d.target = some (.title, n)) (E : Nat) (s : State) :
    applyDispatch d E s = titleDispatch d n E d.withoutTitle d.titleRule s := by
  cases d <;>
    simp only [Dispatch.target, Option.some.injEq, Prod.mk.injEq, reduceCtorEq, false_and, true_and] at target <;>
    subst target <;> rfl

/-- The title's change and the settle after it, written with their dispatches (R32). -/
def settledInto (n : Nat) (c : TitleChange) (s : State) : State :=
  enqueueAll (c.2 ++ (settle n c.1).2) (putTitle n (settle n c.1).1 s)

section Dispatches

variable {d : Dispatch} {missing : State → State} {rule : Title → TitleChange}

theorem titleDispatch_missing (gone : getTitle n s = none) : titleDispatch d n E missing rule s = missing s := by
  simp [titleDispatch, fetchTitle_none gone]

theorem titleDispatch_whole (found : getTitle n s = some t) (whole : t.quarantined = false)
    (checks : t.checks = true) : titleDispatch d n E missing rule s =
      settledInto n (rule ((getTitle n (touchTitle E n t s).1).getD t)) (touchTitle E n t s).1 := by
  simp only [titleDispatch, fetchTitle_read found (.inr checks), whole]
  rfl

/-- A dispatch for a title that needs no touch. -/
theorem titleDispatch_current (title : titleAt n t E s) :
    titleDispatch d n E missing rule s = settledInto n (rule t) s := by
  obtain ⟨found, whole, checks, day⟩ := title
  rw [titleDispatch_whole found whole checks, touchTitle_current day, found]
  rfl

/-- A quarantined record discards the dispatch (R44). -/
theorem titleDispatch_quarantined (found : getTitle n s = some t) (mark : t.quarantined = true) :
    titleDispatch d n E missing rule s = recordFault ⟨.dispatchDiscarded, .title, n, .line, E, some d⟩ s := by
  simp [titleDispatch, fetchTitle_read found (.inl mark), mark, discard]

/-- A check word that fails marks the record, and the dispatch is discarded (R181). -/
theorem titleDispatch_failing (found : getTitle n s = some t) (whole : t.quarantined = false)
    (fails : t.checks = false) :
    titleDispatch d n E missing rule s =
      recordFault ⟨.dispatchDiscarded, .title, n, .line, E, some d⟩
        (recordFault ⟨.checkFailed, .title, n, .line, E, none⟩ (markTitle n t s)) := by
  simp [titleDispatch, fetchTitle_failing found whole fails, discard]

/-- A dispatch at two states, or on two days, whose touches leave the same state. -/
theorem titleDispatch_touchTitle {u : Title} {v : State} {day : Nat} (found : getTitle n s = some t)
    (whole : t.quarantined = false) (checks : t.checks = true) (found' : getTitle n v = some u)
    (whole' : u.quarantined = false) (checks' : u.checks = true)
    (same : (touchTitle E n t s).1 = (touchTitle day n u v).1) :
    titleDispatch d n E missing rule s = titleDispatch d n day missing rule v := by
  obtain ⟨y, hy⟩ := getTitle_touchTitle (E := day) found' checks'
  rw [titleDispatch_whole found whole checks, titleDispatch_whole found' whole' checks', same, hy]
  rfl

end Dispatches

end Touch

/-- Settles O20: a touch is the removal of the oldest expired entry and the touch of what it leaves, and with none
expired the writing of the day. -/
theorem touchRemovesExpiredHoldsFirst : Obligations.TouchRemovesExpiredHoldsFirst := by
  refine ⟨fun s o who E n t target create home room found whole checks stale => ?_,
    fun s e E n t i held row target found whole checks stale => ?_⟩
  · rw [OwnerOp.block, target] at home
    refine ⟨fun none => ?_, fun h expired => ⟨fun short => ?_, fun room5 room' => ?_⟩⟩
    · refine applyOp_touchTitle target create home room found whole checks (v := current E n t s) home room
        (getTitle_current checks) whole checks ?_
      rw [touchTitle_of_none found stale none, touchTitle_current (t := { t with currentTo := E }) rfl]
    · have stops := touchTitle_stops found stale expired short
      cases o <;> simp only [OwnerOp.target, Prod.mk.injEq, reduceCtorEq, false_and, true_and] at target <;>
        subst target
      case titleCreate b => exact absurd rfl (create b)
      case titleDelete =>
        simp only [applyOp]
        rw [opTitleDelete_whole home room found whole checks, stops]
        rfl
      all_goals exact (titleOp_whole home room found whole checks).trans (by rw [stops]; rfl)
    · refine applyOp_touchTitle target create home room found whole checks (v := afterRemoval n h t s)
        ((viewOf_afterRemoval _).trans home) room' (getTitle_afterRemoval checks) ?_ (Title.afterExpiry_checks checks)
        (touchTitle_removes found checks stale expired room5)
      exact Title.afterExpiry_alike.quarantined.trans whole
  · intro q out
    have found' : getTitle n q = some t := found
    have same : ∀ day u, applyDispatch e.disp E q = applyDispatch e.disp day u → out day u :=
      fun day u eq => exec_applied_eq held rfl row eq
    have touched := fun {day v u} => titleDispatch_touchTitle (E := E) (day := day) (v := v) (u := u) (d := e.disp)
      (missing := e.disp.withoutTitle) (rule := e.disp.titleRule) found' whole checks
    refine ⟨fun none => same _ _ ?_, fun h expired => ⟨fun short => same _ _ ?_, fun room => same _ _ ?_⟩⟩
    · rw [applyDispatch_title target, applyDispatch_title target]
      refine touched (v := current E n t q) (getTitle_current checks) whole checks ?_
      rw [touchTitle_of_none found' stale none, touchTitle_current (t := { t with currentTo := E }) rfl]
    · rw [applyDispatch_title target, applyDispatch_title target]
      refine touched found' whole checks ?_
      rw [touchTitle_stops found' stale expired short, touchTitle_current rfl]
    · rw [applyDispatch_title target, applyDispatch_title target]
      refine touched (v := afterRemoval n h t q) (getTitle_afterRemoval checks)
        (Title.afterExpiry_alike.quarantined.trans whole) (Title.afterExpiry_checks checks) ?_
      rw [touchTitle_removes found' checks stale expired room]

end Sys2Proof.Machine
end
section
/-! PROOFS. The operations on a title at their grant (2.4 to 2.6): O21, O22 and O23. -/

namespace Sys2Proof.Machine

/-! ## An operation on a title that needs no touch -/

section Current

variable {o : OwnerOp} {who : Requester} {E n : Nat} {s : State} {t u : Title} {read : Bool} {missing : Reason}
  {rule : State → Title → TitleResult} {ds : List Dispatch}

theorem titleOp_current (home : viewOf (blockOf .title n) s = .home) (room : 3 ≤ freePlaces s)
    (title : titleAt n t E s) : titleOp n who E read missing rule s = afterTouch n rule (s, false) t := by
  obtain ⟨found, whole, checks, day⟩ := title
  rw [titleOp_whole home room found whole checks, touchTitle_current day]

/-- The command of an operation on a current title that the title's rule answers DONE. -/
theorem exec_title_done {v : Values} (grant : granted o who E s) (target : o.target = (.title, n))
    (title : titleAt n t E s) (form : applyOp o who E s = titleOp n who E read missing rule s)
    (result : rule s t = (u, ds, .done v)) :
    exec o.row s = .next (afterAnswer (.done v) (enqueueAll ds (putTitle n u s))) := by
  obtain ⟨held, home, room⟩ := grant
  rw [OwnerOp.block, target] at home
  refine exec_row_eq held (form.trans ((titleOp_current home room title).trans ?_))
  simp [afterTouch, title.1, result]

/-- The command of an operation on a current title that the title's rule refuses. -/
theorem exec_title_refused {why : Reason} (grant : granted o who E s) (target : o.target = (.title, n))
    (title : titleAt n t E s) (form : applyOp o who E s = titleOp n who E read missing rule s)
    (result : rule s t = .refuse t why) :
    exec o.row s = .next (afterAnswer (.refused why .nothing) s) := by
  obtain ⟨held, home, room⟩ := grant
  rw [OwnerOp.block, target] at home
  refine exec_row_eq held (form.trans ((titleOp_current home room title).trans ?_))
  simp [afterTouch, title.1, result, TitleResult.refuse]

end Current

/-! ## TITLE_CREATE, TITLE_DELETE, TITLE_READ (R37, R38, R43) -/

section Lists

variable {t : Title} {p : Nat} {h : HoldEntry}

/-- A patron's entry stands in the queue at the position that R29 counts. -/
theorem Title.positionOf_eq (found : t.entryOf p = some h) :
    ∃ l r, t.holds = l ++ h :: r ∧ t.positionOf p = l.length + 1 := by
  obtain ⟨own, l, r, holds, others⟩ := List.find?_eq_some_iff_append.1 found
  refine ⟨l, r, holds, ?_⟩
  have before : ∀ a ∈ l, ¬ (a.patron == p) = true := fun a ha => by simpa using others a ha
  rw [Title.positionOf, holds, List.findIdx_append, List.findIdx_eq_length.2 (by simpa using before)]
  simp [List.findIdx_cons, own]

/-- An entry is allocated or waits. -/
theorem HoldEntry.item_isSome (h : HoldEntry) : h.item.isSome = true ↔ h.state ≠ .waiting := by
  cases k : h.state <;> simp [HoldEntry.item, k]

/-- The counts of a title's summary are the lengths of the lists they count (R43). -/
theorem titleSummaryOf_counts (asked : Option Nat) (t : Title) :
    let a := titleSummaryOf asked t
    a.waiting = (t.holds.filter fun h => h.state == .waiting).length ∧
      a.allocated = (t.holds.filter fun h => h.state != .waiting).length ∧
      a.shelf = (t.copies.filter fun c => c.view == .shelf).length ∧
      a.loan = (t.copies.filter fun c => match c.view with | .loan .. => true | _ => false).length ∧
      a.away = (t.copies.filter fun c => match c.view with | .away _ => true | _ => false).length ∧
      a.lost = (t.copies.filter fun c => c.view == .lost).length ∧
      a.trapped = (t.copies.filter fun c => match c.view with | .loan _ m => m | _ => false).length := by
  have allocated : t.holds.length - t.waiting = (t.holds.filter fun h => h.state != .waiting).length := by
    have split := List.length_eq_countP_add_countP (l := t.holds) HoldEntry.isWaiting
    have others : t.holds.countP (fun h => decide ¬ h.isWaiting = true) =
        (t.holds.filter fun h => h.state != .waiting).length := by
      rw [List.countP_eq_length_filter]
      congr
      funext h
      cases k : h.state <;> simp [HoldEntry.isWaiting, k, bne]
    rw [Title.waiting, ← others]
    omega
  exact ⟨List.countP_eq_length_filter, allocated, List.countP_eq_length_filter, List.countP_eq_length_filter,
    List.countP_eq_length_filter, List.countP_eq_length_filter, List.countP_eq_length_filter⟩

/-- The entry of a title's summary is the patron's, in its place (R43). -/
theorem titleSummaryOf_entry (found : t.entryOf p = some h) :
    ∃ x, (titleSummaryOf (some p) t).entry = some x ∧ x.pickup = h.pickup ∧ x.expiry = h.expiry ∧
      (x.allocated = true ↔ h.state ≠ .waiting) ∧ ∃ l r, t.holds = l ++ h :: r ∧ x.position = l.length + 1 :=
  ⟨⟨t.positionOf p, h.item.isSome, h.pickup, h.expiry⟩, by simp [titleSummaryOf, found], rfl, rfl, h.item_isSome,
    Title.positionOf_eq found⟩

end Lists

section Deletes

variable {who : Requester} {E n : Nat} {s : State} {t : Title}

/-- A current title is deleted when both its lists are empty, and otherwise refused (R38). -/
theorem opTitleDelete_current (home : viewOf (blockOf .title n) s = .home) (room : 3 ≤ freePlaces s)
    (title : titleAt n t E s) :
    opTitleDelete n who E s =
      if t.copies = [] ∧ t.holds = [] then deleteTitle n t s else (s, .refused .notEmpty .nothing) := by
  obtain ⟨found, whole, checks, day⟩ := title
  rw [opTitleDelete_whole home room found whole checks, touchTitle_current day]
  simp [found]

end Deletes

/-- Settles O21. -/
theorem titlesAreMadeReadAndRemoved : Obligations.TitlesAreMadeReadAndRemoved := by
  refine ⟨fun s who E n => ⟨fun h grant => ?_, fun t grant which => ?_, fun t grant title some_ => ?_⟩,
    fun s who E n asked t which => ?_⟩
  · obtain ⟨held, home, room⟩ := grant
    have gate : viewOf (blockOf .title n) s = .home := home
    have form : applyOp (.titleCreate n h) who E s =
        if (getTitle n s).isSome then (s, .refused .exists_ .nothing)
        else if freeTitles s = 0 then (s, .refused .poolFull .nothing)
        else (putTitle n ⟨h, [], [], E, false, .agrees⟩ s, .done (.titleCreated n)) := by
      simp [applyOp, opTitleCreate, gate, gateOf, roomForOp, room]
    split_ifs with exists_ full
    · exact exec_row_eq (o := .titleCreate n h) held (by rw [form, if_pos exists_])
    · exact exec_row_eq (o := .titleCreate n h) held (by rw [form, if_neg exists_, if_pos full])
    · exact exec_row_eq (o := .titleCreate n h) held (by rw [form, if_neg exists_, if_neg full])
  · obtain ⟨held, home, room⟩ := grant
    refine exec_row_eq held ?_
    change opTitleDelete n who E s = deleteTitle n t s
    rcases which with ⟨title, copies, holds⟩ | ⟨found, mark⟩
    · exact (opTitleDelete_current home room title).trans (if_pos ⟨copies, holds⟩)
    · exact opTitleDelete_damaged (gateOf_ne_answer (.inl home)) (fetchTitle_read found (.inl mark)) mark room
  · obtain ⟨held, home, room⟩ := grant
    refine exec_row_eq held ((opTitleDelete_current home room title).trans (if_neg fun k => ?_))
    exact some_.elim (· k.1) (· k.2)
  · have answers : ∃ u, exec .titleRead s = .next (afterAnswer (.done (.titleSummary (titleSummaryOf asked t))) u) ∧
        (u = s ∨ u = putTitle n t s) := by
      rcases which with ⟨grant, title⟩ | ⟨held, ⟨st, lending⟩, found, whole, checks⟩
      · exact ⟨_, exec_title_done (o := .titleRead n asked) (ds := []) grant rfl title rfl rfl, .inr rfl⟩
      · refine ⟨s, exec_row_eq (o := .titleRead n asked) held ?_, .inl rfl⟩
        simp [applyOp, opTitleRead, titleOp, lending, gateOf, fetchTitle_read found (.inr checks), whole]
    obtain ⟨u, answer, left⟩ := answers
    obtain ⟨waiting, allocated, shelf, loan, away, lost, trapped⟩ := titleSummaryOf_counts asked t
    refine ⟨u, titleSummaryOf asked t, answer, left, rfl, rfl, rfl, waiting, allocated, shelf, loan, away, lost,
      trapped, ?_, ?_, ?_⟩
    · rintro rfl; rfl
    · rintro p rfl none
      simp [titleSummaryOf, none]
    · rintro p h rfl found
      exact titleSummaryOf_entry found

/-! ## COPY_ADD, HOLD_ADD (R39 to R41) -/

/-- A list with a copy inserted has the copies of the list and that copy. -/
theorem mem_insertCopy {c d : CopyRef} {l : List CopyRef} : d ∈ insertCopy c l ↔ d = c ∨ d ∈ l := by
  induction l with
  | nil => simp [insertCopy]
  | cons e l ih =>
    unfold insertCopy
    split
    · simp
    · simp [ih, or_left_comm]

theorem insertCopy_length (c : CopyRef) (l : List CopyRef) : (insertCopy c l).length = l.length + 1 := by
  induction l with
  | nil => rfl
  | cons d l ih =>
    unfold insertCopy
    split <;> simp [ih]

/-- A copy joins in its place: in ascending order before, in ascending order after (R28). -/
theorem insertCopy_rising {c : CopyRef} {l : List CopyRef} (rising : (l.map CopyRef.item).Pairwise (· < ·))
    (fresh : ∀ d ∈ l, d.item ≠ c.item) : ((insertCopy c l).map CopyRef.item).Pairwise (· < ·) := by
  rw [List.pairwise_map] at *
  induction l with
  | nil => simp [insertCopy]
  | cons d l ih =>
    obtain ⟨least, rest⟩ := List.pairwise_cons.1 rising
    unfold insertCopy
    split
    · rename_i before
      refine List.pairwise_cons.2 ⟨List.forall_mem_cons.2 ⟨before, fun e he => before.trans (least e he)⟩, rising⟩
    · rename_i behind
      refine List.pairwise_cons.2 ⟨fun e he => ?_, ih rest fun e he => fresh e (List.mem_cons_of_mem _ he)⟩
      rcases mem_insertCopy.1 he with rfl | he
      · have := fresh d (List.mem_cons_self ..)
        omega
      · exact least e he

/-- No copy of an item, told by the list. -/
theorem Title.copyOf_none {t : Title} {item : Nat} (h : t.copyOf item = none) : ∀ d ∈ t.copies, d.item ≠ item :=
  fun d hd k => List.find?_eq_none.1 h d hd (by simp [k])

theorem settle_length (n : Nat) (t : Title) : (settle n t).1.copies.length = t.copies.length := by
  simpa using congrArg List.length (settle_items n t)

/-- The position of a patron depends on the patrons alone. -/
theorem Title.positionOf_patrons (t : Title) (p : Nat) :
    t.positionOf p = (t.holds.map HoldEntry.patron).findIdx (· == p) + 1 := by
  rw [Title.positionOf, List.findIdx_map]
  rfl

/-- A patron without an entry, added at the tail, has the last position (R41). -/
theorem Title.positionOf_tail {t u : Title} {p : Nat} (none : t.entryOf p = none)
    (patrons : u.holds.map HoldEntry.patron = t.holds.map HoldEntry.patron ++ [p]) :
    u.positionOf p = t.holds.length + 1 := by
  have others : ∀ x ∈ t.holds.map HoldEntry.patron, ¬ (x == p) = true := by
    intro x hx
    obtain ⟨h, hh, rfl⟩ := List.mem_map.1 hx
    exact List.find?_eq_none.1 none h hh
  rw [Title.positionOf_patrons, patrons, List.findIdx_append, List.findIdx_eq_length.2 (by simpa using others)]
  simp [List.findIdx_cons]

/-- Settles O22: the checks in their order, and past them the copy or the entry and the settle. -/
theorem copyAddAndHoldAdd : Obligations.CopyAddAndHoldAdd := by
  refine ⟨fun s who E n item grant => ⟨fun gone => ?_, fun t title => ?_⟩, fun s who E n p k t grant title => ?_⟩
  · refine exec_row_eq (o := .copyAdd n item) grant.1 (applyOp_missing ?_ rfl ?_)
    · exact gateOf_ne_answer (.inl grant.2.1)
    · simp [OwnerOp.mark, OwnerOp.target, gone]
  · intro added c
    have refused := fun why => exec_title_refused (o := .copyAdd n item) (why := why) grant rfl title rfl
    have done := fun v u ds => exec_title_done (o := .copyAdd n item) (v := v) (u := u) (ds := ds) grant rfl title rfl
    have count : c.1.copies.length = t.copies.length + 1 := (settle_length n added).trans (insertCopy_length _ _)
    refine ⟨?_, fun rising none => ?_⟩
    · split_ifs with exists_ full pool
      · exact refused _ (by simp [copyAddRule, exists_])
      · exact refused _ (by simp [copyAddRule, exists_, Config.copiesPerTitle, full])
      · exact refused _ (by simp [copyAddRule, exists_, Config.copiesPerTitle, full, pool])
      · refine done _ _ _ ?_
        rw [← count]
        simp only [copyAddRule, exists_, Config.copiesPerTitle, full, pool]
        rfl
    · rw [show c.1.copies.map CopyRef.item = added.copies.map CopyRef.item from settle_items n added]
      exact insertCopy_rising rising (Title.copyOf_none none)
  · intro c
    have refused := fun why => exec_title_refused (o := .holdAdd n p k) (why := why) grant rfl title rfl
    have done := fun v u ds => exec_title_done (o := .holdAdd n p k) (v := v) (u := u) (ds := ds) grant rfl title rfl
    have lost : t.copies.all CopyRef.isLost = true ↔ ∀ c ∈ t.copies, c.view = .lost := by
      simp [CopyRef.isLost]
    split_ifs with holdable copies entry full pool
    · exact refused _ (by simp [holdAddRule, holdable])
    · exact refused _ (by simp [holdAddRule, holdable, lost.2 copies])
    · exact refused _ (by simp [holdAddRule, holdable, lost, copies, entry])
    · exact refused _ (by simp [holdAddRule, holdable, lost, copies, entry, Config.holdsPerTitle, full])
    · exact refused _ (by simp [holdAddRule, holdable, lost, copies, entry, Config.holdsPerTitle, full, pool])
    · refine done _ _ _ ?_
      have position : c.1.positionOf p = t.holds.length + 1 :=
        Title.positionOf_tail (by simpa using entry) ((settle_alike n _).patrons.trans (by simp))
      rw [← position]
      rw [holdAddRule, if_neg (by simp [holdable]), if_neg (mt lost.1 copies), if_neg entry, if_neg (by exact full), if_neg pool]

/-! ## HOLD_DROP (R42, R36) -/

theorem reassign_some {t : Title} {h : HoldEntry} (item : Nat) (waits : t.oldestWaiting = some h) :
    reassign item t = ((t.setEntry h.patron (.allocated item)).setCopy item (.away (some h.patron)),
      [.redirect item h.patron h.pickup]) := by
  simp [reassign, waits]

theorem reassign_none {t : Title} (item : Nat) (idle : t.oldestWaiting = none) :
    reassign item t = (t.setCopy item (.away none), [.release item]) := by
  simp [reassign, idle]

/-- Settles O23: what becomes of the entry's copy, by the state of the entry and the queue it leaves. -/
theorem holdDropReassignsTheCopy : Obligations.HoldDropReassignsTheCopy := by
  intro s who E n p t grant title left ended
  have done := fun v u ds => exec_title_done (o := .holdDrop n p) (v := v) (u := u) (ds := ds) grant rfl title rfl
  refine ⟨fun none => ?_, fun h found waits => ?_, fun h i found allocated => ⟨fun idle => ?_, fun w waits => ?_⟩⟩
  · exact exec_title_refused (o := .holdDrop n p) grant rfl title rfl (by simp [holdDropRule, none])
  · refine done _ _ _ ?_
    simp only [holdDropRule, found, HoldEntry.item, waits]
    rfl
  · have own : reassign i (t.dropEntry p) = _ := reassign_none i idle
    refine done _ _ _ ?_
    simp only [holdDropRule, found, HoldEntry.item, allocated, own]
    rfl
  · have own : reassign i (t.dropEntry p) = _ := reassign_some i waits
    refine done _ _ _ ?_
    simp only [holdDropRule, found, HoldEntry.item, allocated, own]
    rfl

end Sys2Proof.Machine
end
section
/-! PROOFS. The dispatches for a title at their grant (2.7): O24, O25 and O26. -/

namespace Sys2Proof.Machine

section Dispatches

variable {s : State} {e : Entry} {E n item : Nat} {i : Instr} {d : Dispatch} {t t1 : Title} {c : CopyRef}
  {h : HoldEntry} {ds : List Dispatch}

/-- The command of a dispatch for a current title: the rule's change, the settle, and the dispatches of both (R32). -/
theorem exec_title_rule (held : applied e E s) (disp : e.disp = d) (row : (i, d.kind) ∈ dispatchRows)
    (target : d.target = some (.title, n)) (title : titleAt n t E s) (rule : d.titleRule t = (t1, ds)) :
    exec i s = .next (afterApplication e
      (enqueueAll (ds ++ (settle n t1).2) (putTitle n (settle n t1).1 (dropEntry e.id s)))) := by
  refine exec_applied_eq held disp row ((applyDispatch_title target E _).trans ?_)
  rw [titleDispatch_current (s := dropEntry e.id s) (t := t) title, rule]
  rfl

theorem exec_title_rule_nil (held : applied e E s) (disp : e.disp = d) (row : (i, d.kind) ∈ dispatchRows)
    (target : d.target = some (.title, n)) (title : titleAt n t E s) (rule : d.titleRule t = (t1, [])) :
    exec i s = .next (afterApplication e
      (enqueueAll (settle n t1).2 (putTitle n (settle n t1).1 (dropEntry e.id s)))) :=
  by simpa only [List.nil_append] using exec_title_rule held disp row target title rule

/-- The command of a dispatch for a title without a record (R44). -/
theorem exec_title_missing (held : applied e E s) (disp : e.disp = d) (row : (i, d.kind) ∈ dispatchRows)
    (target : d.target = some (.title, n)) (gone : getTitle n s = none) :
    exec i s = .next (afterApplication e (d.withoutTitle (dropEntry e.id s))) :=
  exec_applied_eq held disp row ((applyDispatch_title target E _).trans (titleDispatch_missing gone))

/-! ## What each rule changes -/

/-- A copy whose view is set twice has the later one. -/
theorem Title.setCopy_setCopy (t : Title) (item : Nat) (v v' : CopyView) :
    (t.setCopy item v).setCopy item v' = t.setCopy item v' := by
  simp only [Title.setCopy, List.map_map]
  congr 1
  refine List.map_congr_left fun c _ => ?_
  by_cases own : c.item = item <;> simp [own]

/-- The view of a copy to be reassigned does not matter. -/
theorem reassign_setCopy (t : Title) (item : Nat) (v : CopyView) : reassign item (t.setCopy item v) = reassign item t := by
  cases waits : t.oldestWaiting with
  | some w =>
    have waits' : (t.setCopy item v).oldestWaiting = some w := waits
    rw [reassign_some item waits, reassign_some item waits']
    exact congrArg (·, _) ((t.setEntry w.patron (.allocated item)).setCopy_setCopy item _ _)
  | none =>
    have waits' : (t.setCopy item v).oldestWaiting = none := waits
    rw [reassign_none item waits, reassign_none item waits', Title.setCopy_setCopy]

/-- A copy that comes free ends its allocation and is reassigned (R47, R35). -/
theorem copyFreeRule_found (found : t.copyOf item = some c) :
    copyFreeRule item t = reassign item (t.endAllocation c.allocatedTo) := by
  simp only [copyFreeRule, found, reassign_setCopy]

/-- A copy without an allocation that comes free goes to the oldest WAITING entry or is released (R47). -/
theorem copyFreeRule_some (found : t.copyOf item = some c) (idle : c.allocatedTo = none) :
    copyFreeRule item t = reassign item t := by
  rw [copyFreeRule_found found, idle]
  rfl

theorem HoldEntry.item_of_allocated {j : Nat} (k : h.state = .allocated j) : h.item = some j := by
  simp [HoldEntry.item, k]

theorem HoldEntry.item_of_waiting (k : h.state = .waiting) : h.item = none := by
  simp [HoldEntry.item, k]

theorem HoldEntry.allocated_of_item {j : Nat} (k : h.item = some j) : h.state = .allocated j := by
  cases st : h.state <;> simp_all [HoldEntry.item]

end Dispatches

/-- Settles O24: the title found or not, quarantined, failing or current; of a current one, the copy and the report. -/
theorem copyStateMovesTheView : Obligations.CopyStateMovesTheView := by
  refine ⟨fun s e E n i held row target => ?_, fun s e E n item rep refused t held title disp => ?_⟩
  · intro q discarded
    have applies := fun {u} (eq : titleDispatch e.disp n E e.disp.withoutTitle e.disp.titleRule q = u) =>
      exec_applied_eq held rfl row ((applyDispatch_title target E q).trans eq)
    refine ⟨fun kind gone => ?_, fun t found mark => ?_, fun t found whole fails => ?_⟩
    · refine applies ((titleDispatch_missing (s := q) gone).trans ?_)
      cases k : e.disp <;> simp_all [Dispatch.kind, Dispatch.withoutTitle]
    · exact applies (titleDispatch_quarantined (s := q) found mark)
    · refine applies (titleDispatch_failing (s := q) found whole ?_)
      rwa [Title.wordsAgree_iff, Bool.not_eq_true] at fails
  · intro out
    have done : ∀ t1, copyStateRule item rep refused t = (t1, []) → out t1 := fun t1 rule =>
      exec_title_rule_nil held disp (by simp [Dispatch.kind, dispatchRows]) rfl title rule
    refine ⟨fun none => done _ (by simp [copyStateRule, none]), fun c found => ?_⟩
    intro ended
    have ends : t.endAllocation c.allocatedTo = ended := rfl
    refine ⟨?_, ?_, ?_, ?_, ?_⟩
    · rintro rfl
      exact done _ (by simp [copyStateRule, found, reportEnds, reportedView, ends])
    · rintro rfl
      exact done _ (by simp [copyStateRule, found, reportEnds, reportedView, ends])
    · rintro d rfl
      exact done _ (by simp [copyStateRule, found, reportEnds, reportedView, ends])
    · rintro rfl rfl
      exact done _ (by simp [copyStateRule, found, reportEnds, reportedView, ends])
    · rintro rfl rfl
      exact done _ (by simp [copyStateRule, found, reportEnds, reportedView])

/-- Settles O25: the copy referenced or not, the entry there or not, and the copy it was allocated to. -/
theorem copyFreeAndHoldFilled : Obligations.CopyFreeAndHoldFilled := by
  refine ⟨fun s e E n item st held disp => ⟨fun gone => ?_, fun t title => ?_⟩,
    fun s e E n p item held disp gone => ?_, fun s e E n p item t held title disp => ?_⟩
  · exact exec_title_missing held disp (by simp [Dispatch.kind, dispatchRows]) rfl gone
  · intro out
    have done : ∀ ds t1, copyFreeRule item t = (t1, ds) → out ds t1 := fun ds t1 rule =>
      exec_title_rule held disp (by simp [Dispatch.kind, dispatchRows]) rfl title rule
    refine ⟨fun none => done _ _ (by simp [copyFreeRule, none]), fun c found idle => ?_⟩
    have freed := copyFreeRule_some found idle
    exact ⟨fun none => done _ _ (freed.trans (reassign_none item none)),
      fun w waits => done _ _ (freed.trans (reassign_some item waits))⟩
  · exact exec_title_missing held disp (by simp [Dispatch.kind, dispatchRows]) rfl gone
  · intro out ended left
    have done : ∀ ds t1, holdFilledRule n p item t = (t1, ds) → out ds t1 := fun ds t1 rule =>
      exec_title_rule held disp (by simp [Dispatch.kind, dispatchRows]) rfl title rule
    refine ⟨fun none => done _ _ (by simp [holdFilledRule, none]), fun h found => ⟨fun waits => ?_, fun own => ?_,
      fun i other differs => ?_⟩⟩
    · exact done _ _ (by simp [holdFilledRule, found, HoldEntry.item_of_waiting waits, ended, left])
    · exact done _ _ (by simp [holdFilledRule, found, HoldEntry.item_of_allocated own, ended, left])
    · have rule : holdFilledRule n p item t = ((reassign i left).1, ended :: (reassign i left).2) := by
        simp only [holdFilledRule, found, HoldEntry.item_of_allocated other, if_neg differs, ended, left]
      exact ⟨fun none => done _ _ (by rw [rule, reassign_none i none]),
        fun w waits => done _ _ (by rw [rule, reassign_some i waits])⟩

/-- Settles O26: the entry allocated to the carried copy or not, and the copy's own allocation. -/
theorem pickupLapsedAndCopyRemove : Obligations.PickupLapsedAndCopyRemove := by
  refine fun s e E n item held => ⟨fun p disp => ⟨fun gone => ?_, fun t title => ?_⟩,
    fun disp => ⟨fun gone => ?_, fun t title => ?_⟩⟩
  · exact exec_title_missing held disp (by simp [Dispatch.kind, dispatchRows]) rfl gone
  · intro out left
    have done : ∀ ds t1, pickupLapsedRule n p item t = (t1, ds) → out ds t1 := fun ds t1 rule =>
      exec_title_rule held disp (by simp [Dispatch.kind, dispatchRows]) rfl title rule
    refine ⟨fun h found own => ?_, fun others => ?_⟩
    · have rule : pickupLapsedRule n p item t =
          ((reassign item left).1, .holdEnded p n .lapsed :: (reassign item left).2) := by
        simp [pickupLapsedRule, found, HoldEntry.item_of_allocated own, left]
      exact ⟨fun none => done _ _ (by rw [rule, reassign_none item none]),
        fun w waits => done _ _ (by rw [rule, reassign_some item waits])⟩
    · have rule : pickupLapsedRule n p item t = pickupLapsedRule.lapsedCopy item t := by
        cases found : t.entryOf p with
        | none => simp only [pickupLapsedRule, found]
        | some h => simp only [pickupLapsedRule, found, if_neg (mt HoldEntry.allocated_of_item (others h found))]
      refine ⟨?_, fun idle => ?_⟩
      · rintro ⟨c, q, found, allocated⟩
        exact done _ _ (by simp [rule, pickupLapsedRule.lapsedCopy, found, allocated])
      · refine done _ _ (rule.trans ?_)
        cases found : t.copyOf item with
        | none => simp [pickupLapsedRule.lapsedCopy, found]
        | some c => simp [pickupLapsedRule.lapsedCopy, found, idle c found]
  · exact exec_title_missing held disp (by simp [Dispatch.kind, dispatchRows]) rfl gone
  · intro out
    have done : ∀ t1, copyRemoveRule item t = (t1, []) → out t1 := fun t1 rule =>
      exec_title_rule_nil held disp (by simp [Dispatch.kind, dispatchRows]) rfl title rule
    refine ⟨fun none => done _ (by simp [copyRemoveRule, none]), fun c found => ⟨fun idle => ?_, fun q own => ?_⟩⟩
    · exact done _ (by simp [copyRemoveRule, found, idle, Title.endAllocation])
    · exact done _ (by simp [copyRemoveRule, found, own, Title.endAllocation])

end Sys2Proof.Machine
end
section
/-! PROOFS. The units of a stream, written at their grant (R168): O59. -/

namespace Sys2Proof.Machine

/-! ## Stream work that asked waits or holds the grant -/

theorem Arbiter.stream_of_arbitrate {a : Arbiter} {w : StreamWork} {day : Nat} (free : a.held = none)
    (asked : w ∈ a.stream) :
    w ∈ (a.arbitrate day).stream ∨ (a.arbitrate day).held = some ⟨.stream w, day⟩ := by
  unfold Arbiter.arbitrate
  simp only [free]
  cases grant : a.last.cycleAfter.findSome? a.oldest with
  | none => exact .inl asked
  | some x =>
    obtain ⟨q, -, oldest⟩ := List.exists_of_findSome?_eq_some grant
    cases q with
    | kiosk =>
      obtain ⟨_, _, -, rfl⟩ : ∃ c rest, a.kiosk = c :: rest ∧ x = (.kiosk c, { a with kiosk := rest }) := by
        cases k : a.kiosk <;> simp_all [Arbiter.oldest]
      exact .inl asked
    | line =>
      obtain ⟨_, _, -, rfl⟩ : ∃ c rest, a.line = c :: rest ∧ x = (.line c, { a with line := rest }) := by
        cases k : a.line <;> simp_all [Arbiter.oldest]
      exact .inl asked
    | sweep =>
      obtain ⟨-, rfl⟩ : a.sweep = true ∧ x = (.sweep, { a with sweep := false }) := by
        cases k : a.sweep <;> simp_all [Arbiter.oldest]
      exact .inl asked
    | stream =>
      cases k : a.stream with
      | nil => simp [k] at asked
      | cons v rest =>
        simp only [Arbiter.oldest, k, Option.some.injEq] at oldest
        subst oldest
        rw [k] at asked
        rcases List.mem_cons.1 asked with rfl | later
        · exact .inr rfl
        · exact .inl later

/-- Stream work added as a grant ends waits, or has the next grant (R182, R183). -/
theorem streamAsked_endGrant {s : State} {w : StreamWork} (asked : w ∈ s.arb.stream) :
    streamAsked w (endGrant s) = true := by
  rcases Arbiter.stream_of_arbitrate (a := { s.arb with held := none }) (day := s.day.county) rfl asked with h | h <;>
    simp [streamAsked, h]

/-! ## What a unit writes -/

section Units

variable {s : State}

/-- A unit changes the store, and for a marker draws free values. -/
theorem writeUnitRecord_eq (o : Nat) (u : StreamUnit) (s : State) :
    ∃ st fr, writeUnitRecord o u s = { s with store := st, free := fr } := by
  cases u with
  | item | patron | titleHeader => exact ⟨_, _, rfl⟩
  | copyRef c | holdEntry h => unfold writeUnitRecord; dsimp only; split <;> exact ⟨_, _, rfl⟩
  | marker sp n => cases sp <;> exact ⟨_, _, rfl⟩

end Units

section Write

variable {s : State} {k age serial : Nat} {f : Frame} {p : Bool} {b : Block} {u : StreamUnit} {r : Receiving}

/-- The receiver a STREAM is for. -/
theorem streamMatch_some (body : f.body = .stream b serial none (some u)) (hand : s.hand = .receiving r)
    (phase : r.phase = .receiving) (block : r.b = b) (same : r.serial = serial) (giver : r.giver = f.src) :
    streamMatch f s = some r := by
  simp [streamMatch, hand, body, phase, block, same, giver]

theorem streamMatch_none (body : f.body = .stream b serial none (some u))
    (other : ∀ r, s.hand = .receiving r →
      ¬ (r.phase = .receiving ∧ r.b = b ∧ r.serial = serial ∧ r.giver = f.src)) : streamMatch f s = none := by
  cases hand : s.hand with
  | receiving r => simp only [streamMatch, hand, body, if_neg (other r hand)]
  | _ => simp [streamMatch, hand]

section Grant

variable (slot : getSlot k s = .processing age f p) (body : f.body = .stream b serial none (some u))
include slot body

theorem streamWrite_discards (none : streamMatch f s = none) : streamWrite k s = freeSlot k s := by
  simp [streamWrite, slot, body, none]

theorem streamWrite_waits (found : streamMatch f s = some r) (waits : s.arb.stream.contains (.free b) = true) :
    streamWrite k s = { s with arb := { s.arb with stream := s.arb.stream ++ [.write k] } } := by
  simp only [streamWrite, slot, body, found, waits, if_true]

theorem streamWrite_writes (found : streamMatch f s = some r) (idle : s.arb.stream.contains (.free b) = false) :
    streamWrite k s = freeSlot k (writeUnit r u s) := by
  simp only [streamWrite, slot, body, found, idle, Bool.false_eq_true, if_false]

/-- A unit's grant that writes changes nothing but what the unit writes, the receiver, the line and the arbiter. -/
theorem streamWrite_written (found : streamMatch f s = some r) (idle : s.arb.stream.contains (.free b) = false) :
    ∃ l a, streamWrite k s = { writeUnit r u s with line := l, arb := a } ∧
      (getSlot k (streamWrite k s) = .free ∨ getSlot k (streamWrite k s) = .reserved) := by
  have busy : getSlot k (writeUnit r u s) ≠ .free := by
    simp only [getSlot, writeUnit_line_eq]
    change getSlot k s ≠ .free
    simp [slot]
  obtain ⟨l, a, freed, -, -, released⟩ := freeSlot_eq busy
  rw [streamWrite_writes slot body found idle]
  exact ⟨l, a, freed, released⟩

end Grant

end Write

/-- Settles O59: the unit waits, is written, or is discarded; what a unit written leaves is told by its kind. -/
theorem streamWritesTheUnits : Obligations.StreamWritesTheUnits := by
  intro s k E age f p b serial u held slot body
  have run := exec_streamUnitWrite held (lastAt_eq slot body)
  refine ⟨fun r hand phase block same giver waits => ?_, fun r hand phase block same giver idle => ?_, fun other => ?_⟩
  · refine ⟨_, run, ?_⟩
    rw [streamWrite_waits slot body (streamMatch_some body hand phase block same giver) waits]
    exact ⟨rfl, rfl, rfl, streamAsked_endGrant (by simp)⟩
  · obtain ⟨l, a, written, released⟩ :=
      streamWrite_written slot body (streamMatch_some body hand phase block same giver) idle
    obtain ⟨st, fr, unit⟩ := writeUnitRecord_eq r.title u s
    let v := writeUnitRecord r.title u s
    let t := refreshAttention (endGrant (streamWrite k s))
    have item : ∀ m, getItem m t = getItem m v := fun m => by simp only [t, written]; rfl
    have title : ∀ m, getTitle m t = getTitle m v := fun m => by simp only [t, written]; rfl
    have patron : ∀ m, getPatron m t = getPatron m v := fun m => by simp only [t, written]; rfl
    refine ⟨t, run, ?_, ?_, ?_, released, ?_, ?_, ?_, ?_, ?_, ?_, ?_, ?_⟩
    · simp only [t, written, writeUnit, unit]; rfl
    · simp only [t, written, writeUnit, unit]; rfl
    · simp only [t, written]; cases u <;> rfl
    · rintro n x rfl
      exact ⟨(item n).trans (getItem_putItem_same ..), fun m h => (item m).trans (getItem_putItem_other _ _ h)⟩
    · rintro n x rfl
      exact (patron n).trans (getPatron_putPatron_same ..)
    · rintro n h d rfl
      exact (title n).trans (getTitle_putTitle_same ..)
    · rintro c x rfl found
      refine (title _).trans ?_
      simp only [v, writeUnitRecord, found]
      exact tblGet_tblSet_same ..
    · rintro h x rfl found
      refine (title _).trans ?_
      simp only [v, writeUnitRecord, found]
      exact tblGet_tblSet_same ..
    · rintro n rfl
      exact ⟨_, (item n).trans (tblGet_tblSet_same ..), rfl⟩
    · rintro n rfl
      exact ⟨_, (title n).trans (tblGet_tblSet_same ..), rfl⟩
    · rintro n rfl
      exact ⟨_, (patron n).trans (tblGet_tblSet_same ..), rfl⟩
  · obtain ⟨l, a, freed, -, -, released⟩ := freeSlot_eq (s := s) (k := k) (by simp [slot])
    refine ⟨_, run, ?_⟩
    rw [streamWrite_discards slot body (streamMatch_none body other)]
    refine ⟨?_, ?_, released⟩ <;> rw [freed] <;> rfl

end Sys2Proof.Machine
end
section
/-! PROOFS. What the part's internal operations keep of the dispatch queue, its capacity and the views (O5): `Accords`,
said once for each operation that does not change the records. -/

namespace Sys2Proof.Machine

/-! ## What a state needs of the views -/

/-- The views that the handover engine needs (R160, R161, R167, R169). -/
inductive Handover.Needs : Handover → Block → View → Prop
  | draining {g : Giving} {l : Bool} (phase : g.phase = .draining l) : Needs (.giving g) g.b .home
  | lent {g : Giving} (drained : ∀ l, g.phase ≠ .draining l) (phase : g.phase ≠ .freeing) :
    Needs (.giving g) g.b (.lending g.receiver)
  | receiving {r : Receiving} (phase : r.phase = .receiving) : Needs (.receiving r) r.b (.receiving r.giver)
  | taken {r : Receiving} (phase : r.phase ≠ .receiving) : Needs (.receiving r) r.b .home

/-- The blocks of the dispatches taken: those of the INBOUND entries and of the frame in acceptance (R127, R129). -/
inductive State.Takes (s : State) : Block → Prop
  | inbound {e : Entry} {b : Block} (mem : e ∈ s.queue.entries) (dir : e.dir = .inbound) (block : e.disp.block = some b) :
    s.Takes b
  | accepted {a : Acceptance} {d : Dispatch} {b : Block} (acc : s.line.acc = some a) (body : a.frame.body = .dispatch d)
    (block : d.block = some b) : s.Takes b

/-- The views that a state needs: those of the dispatches taken and of the handover engine. -/
inductive State.Needs (s : State) : Block → View → Prop
  | taken {b : Block} (takes : s.Takes b) : s.Needs b .home
  | engine {b : Block} {v : View} (need : s.hand.Needs b v) : s.Needs b v

/-- The views are as the dispatches taken and the handover engine need them. -/
def State.Agrees (s : State) : Prop := ∀ b v, s.Needs b v → viewOf b s = v

theorem State.HandoverKept.agrees {s : State} (h : s.HandoverKept) : s.Agrees := by
  rintro b v need
  cases need with
  | taken takes =>
    cases takes with
    | inbound mem dir block => exact h.inbound _ mem dir _ block
    | accepted acc body block => exact h.accepted _ _ _ acc body block
  | engine need =>
    generalize hand : s.hand = x at need
    cases need with
    | draining phase => exact (h.giving _ hand).1 _ phase
    | lent drained phase => exact (h.giving _ hand).2 drained phase
    | receiving phase => exact (h.receiving _ hand).1 phase
    | taken phase => exact (h.receiving _ hand).2 phase

/-- A station off the line is as a start reset leaves it (R120, R199). -/
def State.OffLineKept (s : State) : Prop :=
  s.station ≠ .joining → s.station ≠ .online →
    s.ctxs = Ctx.atReset ∧ s.line = LineEngine.atReset ∧ s.arb = Arbiter.atReset ∧ s.hand = .idle ∧
      s.day = (clearVolatile s).day ∧ s.map = (clearVolatile s).map ∧ s.queue = (clearVolatile s).queue

theorem State.Agrees.handoverKept {s : State} (h : s.Agrees) (off : s.OffLineKept) : s.HandoverKept where
  inbound _ mem dir _ block := h _ _ (.taken (.inbound mem dir block))
  accepted _ _ _ acc body block := h _ _ (.taken (.accepted acc body block))
  giving _ hand := ⟨fun _ phase => h _ _ (.engine (hand ▸ .draining phase)),
    fun drained phase => h _ _ (.engine (hand ▸ .lent drained phase))⟩
  receiving _ hand := ⟨fun phase => h _ _ (.engine (hand ▸ .receiving phase)),
    fun phase => h _ _ (.engine (hand ▸ .taken phase))⟩
  offLine := off

theorem viewOf_key {b b' : Block} (s : State) (key : b.key = b'.key) : viewOf b s = viewOf b' s := by
  simp only [viewOf, key]

/-- A view is needed HOME, LENDING or RECEIVING. -/
theorem Handover.Needs.view {x : Handover} {b : Block} {v : View} (h : x.Needs b v) :
    v = .home ∨ (∃ st, v = .lending st) ∨ ∃ st, v = .receiving st := by
  cases h with
  | draining | taken => exact .inl rfl
  | lent => exact .inr (.inl ⟨_, rfl⟩)
  | receiving => exact .inr (.inr ⟨_, rfl⟩)

theorem State.Needs.view {s : State} {b : Block} {v : View} (h : s.Needs b v) :
    v = .home ∨ (∃ st, v = .lending st) ∨ ∃ st, v = .receiving st := by
  cases h with
  | taken => exact .inl rfl
  | engine need => exact need.view

/-- A state takes no more than another, when its INBOUND entries and the frame in acceptance are of the other. -/
theorem State.Takes.sub {s t : State} {b : Block} (n : t.Takes b)
    (entries : ∀ e ∈ t.queue.entries, e.dir = .inbound → ∃ e' ∈ s.queue.entries, e'.dir = .inbound ∧ e'.disp = e.disp)
    (acc : ∀ a, t.line.acc = some a → ∃ a', s.line.acc = some a' ∧ a'.frame = a.frame) : s.Takes b := by
  cases n with
  | inbound mem dir block =>
    obtain ⟨e', mem', dir', disp⟩ := entries _ mem dir
    exact .inbound mem' dir' (disp ▸ block)
  | accepted is body block =>
    obtain ⟨a', is', frame⟩ := acc _ is
    exact .accepted is' (frame ▸ body) block

theorem State.Needs.sub {s t : State} {b : Block} {v : View} (n : t.Needs b v)
    (entries : ∀ e ∈ t.queue.entries, e.dir = .inbound → ∃ e' ∈ s.queue.entries, e'.dir = .inbound ∧ e'.disp = e.disp)
    (acc : ∀ a, t.line.acc = some a → ∃ a', s.line.acc = some a' ∧ a'.frame = a.frame) (hand : t.hand = s.hand) :
    s.Needs b v := by
  cases n with
  | taken takes => exact .taken (takes.sub entries acc)
  | engine need => exact .engine (hand ▸ need)

theorem State.Agrees.same {s t : State} (h : s.Agrees) (queue : t.queue = s.queue) (acc : t.line.acc = s.line.acc)
    (hand : t.hand = s.hand) (views : t.map.views = s.map.views) : t.Agrees := by
  intro b v n
  have := h b v (n.sub (fun e mem dir => ⟨e, queue ▸ mem, dir, rfl⟩) (fun a is => ⟨a, acc ▸ is, rfl⟩) hand)
  simpa only [viewOf, views] using this

/-- A view written agrees when it is what is needed of the block, told by its key (R153). -/
theorem State.Agrees.setView {s : State} {b : Block} {v : View} (h : s.Agrees)
    (need : ∀ b' v', s.Needs b' v' → b'.key = b.key → v' = v) : (setView b v s).Agrees := by
  intro b' v' n
  have n' : s.Needs b' v' := n.sub (fun e mem dir => ⟨e, mem, dir, rfl⟩) (fun a is => ⟨a, is, rfl⟩) rfl
  by_cases key : b'.key = b.key
  · rw [viewOf_key _ key, viewOf_setView_same, need b' v' n' key]
  · rw [viewOf_setView_other _ _ key, h b' v' n']

/-! ## The capacity of the dispatch queue -/

/-- The places reserved for the frame in acceptance (R127). -/
def Acceptance.places : Option Acceptance → Nat
  | some a => if a.room then 3 else 0
  | none => 0

/-- The places taken and reserved (R121). -/
def State.used (s : State) : Nat := s.queue.entries.length + reservations s

theorem freePlaces_eq (s : State) : freePlaces s = 96 - s.used := rfl

theorem State.used_eq (s : State) : s.used = s.queue.entries.length + ((s.queue.entries.map Entry.reservedPlaces).sum +
    Acceptance.places s.line.acc + s.ctxs.countP Ctx.holdsComp + s.hand.reservedEntries) := rfl

theorem State.RoomKept.used {s : State} (h : s.RoomKept) : s.used ≤ 96 := h.room

/-! ## Updates that leave the queue, the views and the engine alone -/

/-- From `s` to `t` the records, the queue, the views and the handover engine stand; no entry asks for the store anew, no
DISPATCH frame is queued, no frame is newly in acceptance and no context takes a compensation entry. -/
structure Quiet (s t : State) : Prop where
  store : t.store = s.store
  station : t.station = s.station
  queue : t.queue = s.queue
  hand : t.hand = s.hand
  views : t.map.views = s.map.views
  asks : ∀ id, t.asksStore id → s.asksStore id
  frames : ∀ i ∈ t.line.sendq, ∀ id, i.owner = .entry id → ∃ j ∈ s.line.sendq, j.owner = .entry id
  acc : ∀ a, t.line.acc = some a → ∃ a', s.line.acc = some a' ∧ a'.frame = a.frame ∧ a'.room = a.room
  comps : t.ctxs.countP Ctx.holdsComp ≤ s.ctxs.countP Ctx.holdsComp

namespace Quiet

variable {s t u : State}

@[refl] theorem refl (s : State) : Quiet s s :=
  ⟨rfl, rfl, rfl, rfl, rfl, fun _ h => h, fun i hi _ ho => ⟨i, hi, ho⟩, fun a h => ⟨a, h, rfl, rfl⟩, le_rfl⟩

theorem trans (h : Quiet s t) (k : Quiet t u) : Quiet s u where
  store := k.store.trans h.store
  station := k.station.trans h.station
  queue := k.queue.trans h.queue
  hand := k.hand.trans h.hand
  views := k.views.trans h.views
  asks id x := h.asks id (k.asks id x)
  frames i hi id ho := let ⟨j, hj, oj⟩ := k.frames i hi id ho; h.frames j hj id oj
  acc a x :=
    let ⟨a', x', f', r'⟩ := k.acc a x
    let ⟨a'', x'', f'', r''⟩ := h.acc a' x'
    ⟨a'', x'', f''.trans f', r''.trans r'⟩
  comps := k.comps.trans h.comps

/-- Quiet: everything that the relation speaks of is the same. -/
theorem of_eq (store : t.store = s.store) (station : t.station = s.station) (queue : t.queue = s.queue)
    (hand : t.hand = s.hand) (views : t.map.views = s.map.views) (arb : t.arb = s.arb)
    (sendq : t.line.sendq = s.line.sendq) (acc : t.line.acc = s.line.acc) (ctxs : t.ctxs = s.ctxs) : Quiet s t where
  store := store
  station := station
  queue := queue
  hand := hand
  views := views
  asks id x := by simpa only [State.asksStore, arb] using x
  frames i hi id ho := ⟨i, by rwa [← sendq], ho⟩
  acc a x := ⟨a, by rwa [← acc], rfl, rfl⟩
  comps := by rw [ctxs]

/-- Quiet but for the arbiter, whose entries that ask are among those before. -/
theorem of_arb {a : Arbiter} (asks : ∀ id, State.asksStore { s with arb := a } id → s.asksStore id) :
    Quiet s { s with arb := a } :=
  { refl s with asks := asks }

/-- Quiet but for the send queue, whose frames of entries are among those before. -/
theorem of_sendq {l : LineEngine} (acc : l.acc = s.line.acc)
    (frames : ∀ i ∈ l.sendq, ∀ id, i.owner = .entry id → ∃ j ∈ s.line.sendq, j.owner = .entry id) :
    Quiet s { s with line := l } :=
  { refl s with frames := frames, acc := fun a x => ⟨a, acc ▸ x, rfl, rfl⟩ }

/-- Quiet: the frame in acceptance leaves it. -/
theorem of_acc {l : LineEngine} (acc : l.acc = none) (sendq : l.sendq = s.line.sendq) : Quiet s { s with line := l } :=
  { refl s with
    frames := fun i hi _ ho => ⟨i, by rwa [← sendq], ho⟩
    acc := fun a x => by rw [acc] at x; cases x }

theorem needs (h : Quiet s t) {b : Block} {v : View} (n : t.Needs b v) : s.Needs b v :=
  n.sub (fun e mem dir => ⟨e, h.queue ▸ mem, dir, rfl⟩)
    (fun a is => let ⟨a', is', frame, _⟩ := h.acc a is; ⟨a', is', frame⟩) h.hand

theorem viewOf (h : Quiet s t) (b : Block) : viewOf b t = Machine.viewOf b s := by
  simp only [Machine.viewOf, h.views]

theorem used_le (h : Quiet s t) : t.used ≤ s.used := by
  have acc : Acceptance.places t.line.acc ≤ Acceptance.places s.line.acc := by
    cases k : t.line.acc with
    | none => exact Nat.zero_le _
    | some a =>
      obtain ⟨a', x, -, room⟩ := h.acc a k
      simp [Acceptance.places, x, room]
  have comps := h.comps
  simp only [State.used_eq, h.queue, h.hand]
  omega

end Quiet

/-! ## What an internal operation keeps -/

/-- From `a` to `s` the records stand, a station on the line stays there, and what the dispatch queue, its capacity and the
views are well kept by is kept. -/
structure Accords (a s : State) : Prop where
  store : s.store = a.store
  station : onLine a = true → onLine s = true
  ok : a.queue.ok → s.queue.ok
  entries : a.queue.ok → a.EntriesKept → s.EntriesKept
  room : a.queue.ok → a.RoomKept → s.RoomKept
  agrees : a.Agrees → s.Agrees

namespace Accords

variable {a s t : State}

@[refl] theorem refl (a : State) : Accords a a := ⟨rfl, id, id, fun _ => id, fun _ => id, id⟩

theorem trans (h : Accords a s) (k : Accords s t) : Accords a t where
  store := k.store.trans h.store
  station x := k.station (h.station x)
  ok x := k.ok (h.ok x)
  entries x y := k.entries (h.ok x) (h.entries x y)
  room x y := k.room (h.ok x) (h.room x y)
  agrees x := k.agrees (h.agrees x)

/-- What is quiet accords. -/
theorem of_quiet (q : Quiet s t) : Accords s t where
  store := q.store
  station x := by simpa only [onLine, q.station] using x
  ok x := q.queue ▸ x
  entries _ h :=
    { sent := fun i hi id ho => by
        obtain ⟨j, hj, oj⟩ := q.frames i hi id ho
        rw [q.queue]
        exact h.sent j hj id oj
      asked := fun e he dir x => h.asked e (q.queue ▸ he) dir (q.asks _ x) }
  room _ h :=
    { room := q.used_le.trans h.used
      held := fun x hx d => by
        obtain ⟨x', hx', frame, room⟩ := q.acc x hx
        rw [← room]
        exact h.held x' hx' (frame ▸ d) }
  agrees h b v n := (q.viewOf b).trans (h b v (q.needs n))

theorem quiet (h : Accords a s) (q : Quiet s t) : Accords a t := h.trans (of_quiet q)

end Accords

end Sys2Proof.Machine
end
section
/-! PROOFS. The updates of the queue, the frames, the arbiter and the contexts: what each keeps of the dispatch queue, its
capacity and the views (O5). -/

namespace Sys2Proof.Machine

/-! ## The arbiter -/

/-- A grant changes the arbiter by the work granted, or not at all. -/
theorem Arbiter.arbitrate_cases (a : Arbiter) (day : Nat) : a.arbitrate day = a ∨
    ∃ q w b, a.held = none ∧ a.oldest q = some (w, b) ∧
      a.arbitrate day = { b with held := some ⟨w, day⟩, last := w.requester } := by
  unfold Arbiter.arbitrate
  cases held : a.held with
  | some g => exact .inl rfl
  | none =>
    cases grant : a.last.cycleAfter.findSome? a.oldest with
    | none => exact .inl rfl
    | some x =>
      obtain ⟨q, -, oldest⟩ := List.exists_of_findSome?_eq_some grant
      exact .inr ⟨q, x.1, x.2, rfl, oldest, rfl⟩

/-- The oldest work of a requester was waiting, and what waits without it waited with it. -/
theorem Arbiter.line_of_oldest {a b : Arbiter} {q : Requester} {w : Work} (oldest : a.oldest q = some (w, b)) :
    (∀ v, w = .line v → v ∈ a.line) ∧ ∀ v ∈ b.line, v ∈ a.line := by
  cases q with
  | kiosk => cases k : a.kiosk <;> simp_all [Arbiter.oldest]; grind
  | line => cases k : a.line <;> simp_all [Arbiter.oldest]; grind
  | sweep => cases k : a.sweep <;> simp_all [Arbiter.oldest]; grind
  | stream => cases k : a.stream <;> simp_all [Arbiter.oldest]; grind

theorem asksStore_of_arbitrate {s : State} {id : Nat} (h : (arbitrate s).asksStore id) : s.asksStore id := by
  simp only [State.asksStore, arbitrate_arb] at h
  rcases Arbiter.arbitrate_cases s.arb s.day.county with same | ⟨q, w, b, -, oldest, granted⟩
  · rwa [same] at h
  · obtain ⟨work, rest⟩ := Arbiter.line_of_oldest oldest
    rw [granted] at h
    rcases h with waits | ⟨E, holds⟩
    · exact .inl (rest _ waits)
    · simp only [Option.some.injEq, Grant.mk.injEq] at holds
      exact .inl (work _ holds.1)

variable {a s : State}

theorem Quiet.arbitrate (s : State) : Quiet s (arbitrate s) := .of_arb fun _ => asksStore_of_arbitrate

/-- The arbiter with other work than entries asking grants next. -/
theorem Quiet.ask {x : Arbiter} (held : x.held = s.arb.held) (line : ∀ id, .entry id ∈ x.line → .entry id ∈ s.arb.line) :
    Quiet s (Machine.arbitrate { s with arb := x }) :=
  (Quiet.of_arb fun id h => h.imp (line id) fun ⟨E, hE⟩ => ⟨E, held ▸ hE⟩).trans (.arbitrate _)

theorem Quiet.endGrant (s : State) : Quiet s (endGrant s) := by
  refine Quiet.trans ?_ (.arbitrate _)
  exact .of_arb fun _ h => .inl (h.resolve_right (by simp))

theorem Accords.arbitrate (h : Accords a s) : Accords a (arbitrate s) := h.quiet (.arbitrate s)
theorem Accords.endGrant (h : Accords a s) : Accords a (endGrant s) := h.quiet (.endGrant s)
theorem Accords.askKiosk {c : Nat} (h : Accords a s) : Accords a (askKiosk c s) :=
  h.quiet (.ask rfl fun _ x => x)
theorem Accords.askReq {k : Nat} (h : Accords a s) : Accords a (askLine (.req k) s) :=
  h.quiet (.ask rfl fun _ x => by simpa using x)
theorem Accords.askStream {w : StreamWork} (h : Accords a s) : Accords a (askStream w s) :=
  h.quiet (.ask rfl fun _ x => x)
theorem Accords.askStreamOnce {w : StreamWork} (h : Accords a s) : Accords a (askStreamOnce w s) := by
  unfold Machine.askStreamOnce
  split
  · exact h
  · exact h.askStream

theorem Quiet.askSweep (s : State) : Quiet s (askSweep s) := by
  unfold Machine.askSweep
  split
  · rfl
  · exact .ask rfl fun _ x => x

theorem Accords.askSweep (h : Accords a s) : Accords a (askSweep s) := h.quiet (.askSweep s)

theorem Quiet.startSweep (s : State) : Quiet s (startSweep s) := by
  unfold Machine.startSweep
  repeat' split
  · exact .of_eq rfl rfl rfl rfl rfl rfl rfl rfl rfl
  · exact .of_eq rfl rfl rfl rfl rfl rfl rfl rfl rfl
  · refine Quiet.trans ?_ (.askSweep _)
    exact .of_eq rfl rfl rfl rfl rfl rfl rfl rfl rfl
  · rfl

theorem Accords.startSweep (h : Accords a s) : Accords a (startSweep s) := h.quiet (.startSweep s)

/-! ## Notices, frames and slots -/

theorem Quiet.postNotice (n : Notice) (s : State) : Quiet s (postNotice n s) := by
  unfold Machine.postNotice
  split <;> exact .of_eq rfl rfl rfl rfl rfl rfl rfl rfl rfl

theorem Quiet.pushFrame (f : Frame) {o : Owner} (other : ∀ id, o ≠ .entry id) (s : State) : Quiet s (pushFrame f o s) := by
  refine .of_sendq rfl fun i hi id ho => ?_
  rcases List.mem_append.1 hi with hi | hi
  · exact ⟨i, hi, ho⟩
  · cases List.mem_singleton.1 hi
    exact absurd ho (other id)

namespace Accords

variable {f : Frame} {o : Owner} {w : Waiter} {k id : Nat}

theorem postNotice {n : Notice} (h : Accords a s) : Accords a (postNotice n s) := h.quiet (.postNotice n s)

theorem refreshAttention (h : Accords a s) : Accords a (refreshAttention s) :=
  h.quiet (.of_eq rfl rfl rfl rfl rfl rfl rfl rfl rfl)

theorem pushFrame (h : Accords a s) (other : ∀ id, o ≠ .entry id) : Accords a (pushFrame f o s) :=
  h.quiet (.pushFrame f other s)

theorem dropSend (h : Accords a s) : Accords a (dropSend id s) :=
  h.quiet (.of_sendq rfl fun i hi _ ho => ⟨i, List.mem_of_mem_filter hi, ho⟩)

theorem withdrawClear (h : Accords a s) : Accords a (withdrawClear s) :=
  h.quiet (.of_sendq rfl fun i hi _ ho => ⟨i, List.mem_of_mem_filter hi, ho⟩)

theorem mapSend {g : SendItem → SendItem} (h : Accords a s) (owner : ∀ i, (g i).owner = i.owner) :
    Accords a (mapSend id g s) := by
  refine h.quiet (.of_sendq rfl fun i hi id' ho => ?_)
  obtain ⟨j, hj, rfl⟩ := List.mem_map.1 hi
  refine ⟨j, hj, ?_⟩
  split at ho
  · rwa [owner] at ho
  · exact ho

theorem waitForPlace (h : Accords a s) : Accords a (waitForPlace w s) := by
  unfold Machine.waitForPlace
  split
  · exact h
  · exact h.quiet (.of_eq rfl rfl rfl rfl rfl rfl rfl rfl rfl)

theorem stopWaiting (h : Accords a s) : Accords a (stopWaiting w s) :=
  h.quiet (.of_eq rfl rfl rfl rfl rfl rfl rfl rfl rfl)

theorem placeOrWait (h : Accords a s) (other : ∀ id, o ≠ .entry id) : Accords a (placeOrWait f o w s) := by
  unfold Machine.placeOrWait
  split
  · exact (h.pushFrame other).stopWaiting
  · exact h.waitForPlace

theorem setSlot {sl : Slot} (h : Accords a s) : Accords a (setSlot k sl s) :=
  h.quiet (.of_eq rfl rfl rfl rfl rfl rfl rfl rfl rfl)

theorem beginStream (h : Accords a s) : Accords a (beginStream s) := by
  unfold Machine.beginStream
  repeat' split
  · exact h.setSlot.askStream
  · exact h.stopWaiting.setSlot.askStream
  · exact h.waitForPlace
  · exact h
  · exact h

/-- A slot released may go to the frame in acceptance, which stays. -/
theorem releaseSlot (h : Accords a s) : Accords a (releaseSlot k s) := by
  unfold Machine.releaseSlot
  split
  case h_1 x acc =>
    split
    · exact h.quiet { Quiet.refl s with acc := fun y hy => ⟨x, acc, by cases hy; exact ⟨rfl, rfl⟩⟩ }
    · exact h.setSlot
  case h_2 => exact h.setSlot

theorem freeSlot (h : Accords a s) : Accords a (freeSlot k s) := h.releaseSlot.beginStream

theorem placeAns {dest : Nat} {x : Ans} (h : Accords a s) (other : ∀ id, o ≠ .entry id) :
    Accords a (placeAns k dest x o s) := (h.pushFrame other).freeSlot

end Accords

/-! ## Contexts -/

theorem countP_set_le {α : Type} {p : α → Bool} {l : List α} {c : Nat} {x : α}
    (h : p x = true → ∃ y, l[c]? = some y ∧ p y = true) : (l.set c x).countP p ≤ l.countP p := by
  induction l generalizing c with
  | nil => simp
  | cons y l ih =>
    cases c with
    | zero =>
      simp only [List.set_cons_zero, List.countP_cons]
      cases k : p x with
      | false => simp
      | true => obtain ⟨z, hz, pz⟩ := h k; simp_all
    | succ c => simpa only [List.set_cons_succ, List.countP_cons, Nat.add_le_add_iff_right] using ih h

/-- The context of a run. -/
theorem getCtx_of_getRun {c : Nat} {r : Run} (run : getRun c s = some r) : ∃ g, getCtx c s = some ⟨g, .running r⟩ := by
  unfold getRun at run
  split at run
  case h_1 g r' found => cases run; exact ⟨g, found⟩
  case h_2 => cases run

namespace Accords

variable {c : Nat} {r r' : Run}

theorem setCtx {x : Ctx} (h : Accords a s)
    (comp : x.holdsComp = true → ∃ y, getCtx c s = some y ∧ y.holdsComp = true) : Accords a (setCtx c x s) :=
  h.quiet { Quiet.refl s with comps := countP_set_le comp }

theorem setRun (h : Accords a s) (run : getRun c s = some r) (comp : r'.comp = true → r.comp = true) :
    Accords a (setRun c r' s) := by
  obtain ⟨g, found⟩ := getCtx_of_getRun run
  unfold Machine.setRun
  rw [found]
  exact h.setCtx fun k => ⟨_, found, comp k⟩

end Accords

end Sys2Proof.Machine
end
section
/-! PROOFS. The updates of the dispatch queue: entries that join, leave and change their phase (O5). -/

namespace Sys2Proof.Machine

variable {a s : State}

/-! ## The places of the queue, counted -/

/-- What an entry takes of the queue's capacity: its place and those reserved for its application (R121). -/
def Entry.places (e : Entry) : Nat := 1 + e.reservedPlaces

/-- The places taken and reserved, those of the entries counted by entry. -/
theorem State.used_places (s : State) : s.used = (s.queue.entries.map Entry.places).sum +
    (Acceptance.places s.line.acc + s.ctxs.countP Ctx.holdsComp + s.hand.reservedEntries) := by
  have each : ∀ l : List Entry, (l.map Entry.places).sum = l.length + (l.map Entry.reservedPlaces).sum := by
    intro l
    induction l with
    | nil => rfl
    | cons e l ih => simp only [List.map_cons, List.sum_cons, List.length_cons, ih, Entry.places]; omega
  rw [State.used_eq, each]
  omega

theorem Entry.reservedPlaces_le (e : Entry) : e.reservedPlaces ≤ 2 := by
  unfold Entry.reservedPlaces
  split <;> omega

theorem Entry.reservedPlaces_outbound {e : Entry} (h : e.dir = .outbound) : e.reservedPlaces = 0 := by
  simp [Entry.reservedPlaces, h]

theorem Entry.reservedPlaces_idle {e : Entry} (h : e.phase ≠ .applying) : e.reservedPlaces = 0 := by
  unfold Entry.reservedPlaces
  split
  · contradiction
  · rfl

theorem sum_filter_le {α : Type} (f : α → Nat) (p : α → Bool) (l : List α) :
    ((l.filter p).map f).sum ≤ (l.map f).sum := by
  induction l with
  | nil => rfl
  | cons x l ih =>
    rw [List.filter_cons]
    split <;> simp only [List.map_cons, List.sum_cons] <;> omega

theorem sum_filter_add_le {α : Type} {f : α → Nat} {p : α → Bool} {l : List α} {x : α}
    (mem : x ∈ l) (leaves : p x = false) :
    ((l.filter p).map f).sum + f x ≤ (l.map f).sum := by
  induction l with
  | nil => cases mem
  | cons y l ih =>
    have rest := sum_filter_le f p l
    rw [List.filter_cons]
    rcases List.mem_cons.1 mem with rfl | mem
    · simp only [leaves, Bool.false_eq_true, if_false, List.map_cons, List.sum_cons]
      omega
    · have := ih mem
      split <;> simp only [List.map_cons, List.sum_cons] <;> omega

/-- A change of the entries of one name adds no more than it adds to one of them. -/
theorem sum_map_replace_le {f : Entry → Nat} {g : Entry → Entry} {id n : Nat} {l : List Entry}
    (nodup : (l.map Entry.id).Nodup) (grow : ∀ e ∈ l, e.id = id → f (g e) ≤ f e + n) :
    ((l.map fun e => if e.id = id then g e else e).map f).sum ≤ (l.map f).sum + n := by
  induction l with
  | nil => simp
  | cons e l ih =>
    obtain ⟨first, rest⟩ := List.nodup_cons.1 nodup
    simp only [List.map_cons, List.sum_cons]
    by_cases own : e.id = id
    · have others : (l.map fun e => if e.id = id then g e else e) = l := by
        refine (List.map_congr_left fun e' he' => ?_).trans (List.map_id l)
        have : e'.id ≠ id := fun k => first (List.mem_map.2 ⟨e', he', k.trans own.symm⟩)
        simp [this]
      have := grow e (List.mem_cons_self ..) own
      rw [others, if_pos own]
      omega
    · have := ih rest fun e' he' => grow e' (List.mem_cons_of_mem _ he')
      rw [if_neg own]
      omega

/-! ## Entries that join -/

theorem used_enqueue (d : Dispatch) (s : State) : (enqueue d s).used = s.used + 1 := by
  simp only [State.used_places, enqueue, List.map_append, List.sum_append, List.map_cons, List.map_nil, List.sum_cons,
    List.sum_nil, Entry.places, Entry.reservedPlaces]
  omega

theorem State.EntriesKept.enqueue {d : Dispatch} (h : s.EntriesKept) : (enqueue d s).EntriesKept where
  sent i hi id ho := by
    obtain ⟨old, outbound⟩ := h.sent i hi id ho
    refine ⟨Nat.lt_succ_of_lt old, fun e he own => ?_⟩
    rcases List.mem_append.1 he with he | he
    · exact outbound e he own
    · cases List.mem_singleton.1 he
      rfl
  asked e he dir x := by
    rcases List.mem_append.1 he with he | he
    · exact h.asked e he dir x
    · cases List.mem_singleton.1 he
      cases dir

/-- An entry that joins the queue needs nothing of the views. -/
theorem State.Agrees.enqueue {d : Dispatch} (h : s.Agrees) : (enqueue d s).Agrees := fun b v n =>
  h b v (n.sub (fun e mem dir => by
    rcases List.mem_append.1 mem with mem | mem
    · exact ⟨e, mem, dir, rfl⟩
    · cases List.mem_singleton.1 mem
      cases dir) (fun x hx => ⟨x, hx, rfl⟩) rfl)

namespace Accords

variable {d : Dispatch} {id : Nat}

theorem enqueue (h : Accords a s) (room : a.queue.ok → a.RoomKept → s.used < 96) : Accords a (enqueue d s) where
  store := h.store
  station := h.station
  ok x := queue_ok_append rfl rfl (h.ok x)
  entries x y := (h.entries x y).enqueue
  room x y :=
    { room := (used_enqueue d s).trans_le (room x y)
      held := (h.room x y).held }
  agrees x := (h.agrees x).enqueue

end Accords

/-! ## Entries that leave -/

theorem used_dropEntry_le (id : Nat) (s : State) : (dropEntry id s).used ≤ s.used := by
  have := sum_filter_le Entry.places (fun e => e.id != id) s.queue.entries
  simp only [State.used_places, dropEntry]
  omega

/-- An entry that leaves gives its place back, with those reserved for it. -/
theorem used_dropEntry {e : Entry} (mem : e ∈ s.queue.entries) :
    (dropEntry e.id s).used + (1 + e.reservedPlaces) ≤ s.used := by
  have := sum_filter_add_le (f := Entry.places) (p := fun x => x.id != e.id) mem (by simp)
  simp only [State.used_places, dropEntry]
  simp only [Entry.places] at this ⊢
  omega

theorem State.EntriesKept.dropEntry {id : Nat} (h : s.EntriesKept) : (dropEntry id s).EntriesKept where
  sent i hi id' ho :=
    let ⟨old, outbound⟩ := h.sent i hi id' ho
    ⟨old, fun e he => outbound e (List.mem_of_mem_filter he)⟩
  asked e he := h.asked e (List.mem_of_mem_filter he)

theorem State.Agrees.dropEntry {id : Nat} (h : s.Agrees) : (dropEntry id s).Agrees := fun b v n =>
  h b v (n.sub (fun e mem dir => ⟨e, List.mem_of_mem_filter mem, dir, rfl⟩) (fun x hx => ⟨x, hx, rfl⟩) rfl)

theorem Accords.dropEntry {id : Nat} (h : Accords a s) : Accords a (dropEntry id s) where
  store := h.store
  station := h.station
  ok x := queue_ok_filter _ (h.ok x)
  entries x y := (h.entries x y).dropEntry
  room x y :=
    { room := (used_dropEntry_le id s).trans (h.room x y).used
      held := (h.room x y).held }
  agrees x := (h.agrees x).dropEntry

/-! ## Entries that change -/

/-- A change of an entry that leaves its name, direction and dispatch. -/
def Entry.Moves (g : Entry → Entry) : Prop := ∀ e, (g e).id = e.id ∧ (g e).dir = e.dir ∧ (g e).disp = e.disp

section Change

variable {g : Entry → Entry} {id n : Nat}

theorem mem_mapEntry {e : Entry} (mem : e ∈ (mapEntry id g s).queue.entries) :
    ∃ e' ∈ s.queue.entries, (e = g e' ∧ e'.id = id) ∨ (e = e' ∧ e'.id ≠ id) := by
  obtain ⟨e', mem', rfl⟩ := List.mem_map.1 mem
  refine ⟨e', mem', ?_⟩
  by_cases own : e'.id = id <;> simp [own]

theorem used_mapEntry_le (ok : s.queue.ok)
    (grow : ∀ e ∈ s.queue.entries, e.id = id → (g e).reservedPlaces ≤ e.reservedPlaces + n) :
    (mapEntry id g s).used ≤ s.used + n := by
  have := sum_map_replace_le (f := Entry.places) (g := g) (id := id) (n := n) ok.1 fun e he own => by
    have := grow e he own
    simp only [Entry.places]
    omega
  simp only [State.used_places, mapEntry]
  omega

theorem State.EntriesKept.mapEntry (h : s.EntriesKept) (moves : Entry.Moves g)
    (asked : ∀ e ∈ s.queue.entries, e.id = id → e.dir = .inbound → s.asksStore id → (g e).phase = .applying) :
    (mapEntry id g s).EntriesKept where
  sent i hi id' ho := by
    obtain ⟨old, outbound⟩ := h.sent i hi id' ho
    refine ⟨old, fun e he own => ?_⟩
    obtain ⟨e', mem, ⟨rfl, -⟩ | ⟨rfl, -⟩⟩ := mem_mapEntry he
    · obtain ⟨name, dir, -⟩ := moves e'
      rw [dir]
      exact outbound e' mem (name.symm.trans own)
    · exact outbound e mem own
  asked e he dir x := by
    obtain ⟨e', mem, ⟨rfl, own⟩ | ⟨rfl, -⟩⟩ := mem_mapEntry he
    · obtain ⟨name, dir', -⟩ := moves e'
      rw [name, own] at x
      exact asked e' mem own (dir'.symm.trans dir) x
    · exact h.asked e mem dir x

theorem State.Agrees.mapEntry (h : s.Agrees) (moves : Entry.Moves g) : (mapEntry id g s).Agrees := by
  refine fun b v n => h b v (n.sub (fun e mem dir => ?_) (fun x hx => ⟨x, hx, rfl⟩) rfl)
  obtain ⟨e', mem', ⟨rfl, -⟩ | ⟨rfl, -⟩⟩ := mem_mapEntry mem
  · obtain ⟨-, dir', disp⟩ := moves e'
    exact ⟨e', mem', dir'.symm.trans dir, disp.symm⟩
  · exact ⟨e, mem', dir, rfl⟩

/-- A change of entries that no longer ask for the store, or never did as INBOUND ones, and that reserve no more. -/
theorem Accords.mapEntry (h : Accords a s) (moves : Entry.Moves g)
    (flight : ∀ e, (g e).flight = none ∨ (g e).flight = e.flight)
    (asked : a.queue.ok → a.EntriesKept →
      ∀ e ∈ s.queue.entries, e.id = id → e.dir = .inbound → s.asksStore id → (g e).phase = .applying)
    (places : ∀ e, (g e).reservedPlaces ≤ e.reservedPlaces) : Accords a (mapEntry id g s) where
  store := h.store
  station := h.station
  ok x := by
    refine queue_ok_map _ (fun e => ?_) (h.ok x)
    split
    · exact ⟨(moves e).1, flight e⟩
    · exact ⟨rfl, .inr rfl⟩
  entries x y := (h.entries x y).mapEntry moves (asked x y)
  room x y :=
    { room := (used_mapEntry_le (h.ok x) (n := 0) fun e _ _ => places e).trans (h.room x y).used
      held := (h.room x y).held }
  agrees x := (h.agrees x).mapEntry moves

end Change

/-- The entries of a name are OUTBOUND. -/
def State.outbound (id : Nat) (s : State) : Prop := ∀ e ∈ s.queue.entries, e.id = id → e.dir = .outbound

theorem State.outbound_of_found {e : Entry} {id : Nat} (ok : s.queue.ok) (found : findEntry id s = some e)
    (dir : e.dir = .outbound) : s.outbound id := by
  intro e' mem own
  have is : e.id = id := by simpa using List.find?_some found
  rwa [eq_of_key_eq ok.1 mem (List.mem_of_find?_eq_some found) (own.trans is.symm)]

section Phase

variable {id : Nat} {p : EntryPhase}

theorem Entry.moves_phase (p : EntryPhase) : Entry.Moves fun e => { e with phase := p } := fun _ => ⟨rfl, rfl, rfl⟩

/-- An entry leaves its phase for one in which it neither asks for the store nor is in flight. -/
theorem Accords.setEntryPhase (h : Accords a s) (applying : p ≠ .applying) (flight : ∀ st, p ≠ .inFlight st)
    (out : a.queue.ok → a.EntriesKept → ∀ e ∈ s.queue.entries, e.id = id → e.dir = .inbound → ¬ s.asksStore id) :
    Accords a (setEntryPhase id p s) := by
  refine h.mapEntry (Entry.moves_phase p) (fun e => .inl ?_) (fun x y e mem own dir z => absurd z (out x y e mem own dir))
    fun e => ?_
  · unfold Entry.flight
    split
    · rename_i st is
      exact absurd is (flight st)
    · rfl
  · rw [Entry.reservedPlaces_idle (e := { e with phase := p }) applying]
    exact Nat.zero_le _

theorem State.outbound.notInbound (h : s.outbound id) :
    ∀ e ∈ s.queue.entries, e.id = id → e.dir = .inbound → ¬ s.asksStore id :=
  fun e mem own dir => by rw [h e mem own] at dir; cases dir

/-- The work of an entry asks for the store. -/
theorem asksStore_askLine {w : LineWork} {id' : Nat} (h : (askLine w s).asksStore id') : w = .entry id' ∨ s.asksStore id' := by
  rcases asksStore_of_arbitrate h with waits | holds
  · rcases List.mem_append.1 waits with waits | waits
    · exact .inr (.inl waits)
    · exact .inl (List.mem_singleton.1 waits).symm
  · exact .inr (.inr holds)

/-- An entry goes to its application and asks for the store (R124, R121). -/
theorem Accords.applying (h : Accords a s)
    (room : a.queue.ok → a.RoomKept → (Machine.setEntryPhase id .applying s).used ≤ 96) :
    Accords a (askLine (.entry id) (Machine.setEntryPhase id .applying s)) where
  store := h.store
  station := h.station
  ok x := by
    refine queue_ok_map _ (fun e => ?_) (h.ok x)
    split <;> simp [Entry.flight]
  entries x y :=
    { sent := (h.entries x y).mapEntry (Entry.moves_phase .applying) (fun _ _ _ _ _ => rfl) |>.sent
      asked := fun e mem dir z => by
        obtain ⟨e', mem', ⟨rfl, -⟩ | ⟨rfl, other⟩⟩ := mem_mapEntry mem
        · rfl
        · rcases asksStore_askLine z with own | old
          · exact absurd (by simpa using own.symm) other
          · exact (h.entries x y).asked e mem' dir old }
  room x y :=
    { room := room x y
      held := (h.room x y).held }
  agrees x := ((h.agrees x).mapEntry (id := id) (Entry.moves_phase .applying)).same rfl rfl rfl rfl

/-- An OUTBOUND entry of a HOME block goes to its application, which reserves nothing. -/
theorem Accords.applying_outbound (h : Accords a s) (out : a.queue.ok → s.outbound id) :
    Accords a (askLine (.entry id) (Machine.setEntryPhase id .applying s)) := by
  refine h.applying fun x y => (used_mapEntry_le (h.ok x) (n := 0) fun e mem own => ?_).trans (h.room x y).used
  rw [Entry.reservedPlaces_outbound (out x e mem own)]
  exact (Entry.reservedPlaces_outbound (e := { e with phase := .applying }) (out x e mem own)).le

/-- An OUTBOUND entry leaves for a station that no DISPATCH is in flight to (R124, R125). -/
theorem Accords.send {f : Frame} {st : Nat} (h : Accords a s) (free : flightTo st s = false) (out : a.queue.ok → s.outbound id)
    (old : a.queue.ok → id < s.queue.nextId) :
    Accords a (Machine.setEntryPhase id (.inFlight st) (Machine.pushFrame f (.entry id) s)) where
  store := h.store
  station := h.station
  ok x := queue_ok_send free (h.ok x)
  entries x y := by
    have moved : (Machine.setEntryPhase id (.inFlight st) s).EntriesKept :=
      (h.entries x y).mapEntry (Entry.moves_phase _) fun e mem own dir z => absurd z ((out x).notInbound e mem own dir)
    refine { sent := fun i hi id' ho => ?_, asked := moved.asked }
    rcases List.mem_append.1 hi with hi | hi
    · exact moved.sent i hi id' ho
    · cases List.mem_singleton.1 hi
      obtain rfl : id = id' := by simpa using ho
      refine ⟨old x, fun e mem own => ?_⟩
      obtain ⟨e', mem', ⟨rfl, own'⟩ | ⟨rfl, other⟩⟩ := mem_mapEntry mem
      · exact out x e' mem' own'
      · exact absurd own other
  room x y :=
    { room := (used_mapEntry_le (h.ok x) (n := 0) fun e _ _ =>
        (Entry.reservedPlaces_idle (by simp)).trans_le (Nat.zero_le _)).trans
        (h.room x y).used
      held := (h.room x y).held }
  agrees x := ((h.agrees x).mapEntry (id := id) (Entry.moves_phase (.inFlight st))).same rfl rfl rfl rfl

end Phase

end Sys2Proof.Machine
end
section
/-! PROOFS. Transactions, census requests, views and the handover engine: what each of their operations keeps of the
dispatch queue, its capacity and the views (O5). -/

namespace Sys2Proof.Machine

variable {a s : State}

/-! ## Transactions (chapter 5) -/

theorem countP_set_lt {α : Type} {p : α → Bool} {l : List α} {c : Nat} {x y : α} (old : l[c]? = some y)
    (counts : p y = true)
    (not : p x = false) : (l.set c x).countP p < l.countP p := by
  induction l generalizing c with
  | nil => simp at old
  | cons z l ih =>
    cases c with
    | zero => simp_all
    | succ c =>
      simp only [List.set_cons_succ, List.countP_cons]
      have := ih (c := c) (by simpa using old)
      omega

theorem countP_set_le_succ {α : Type} (p : α → Bool) (l : List α) (c : Nat) (x : α) :
    (l.set c x).countP p ≤ l.countP p + 1 := by
  induction l generalizing c with
  | nil => simp
  | cons z l ih =>
    cases c with
    | zero =>
      simp only [List.set_cons_zero, List.countP_cons]
      split <;> split <;> omega
    | succ c =>
      have := ih c
      simp only [List.set_cons_succ, List.countP_cons]
      omega

theorem endTransaction_hand (c : Nat) (o : OutcomeCode) (why : Option Reason) (v : Values) (s : State) :
    (endTransaction c o why v s).hand = s.hand := by
  unfold endTransaction
  split
  · dsimp only
    repeat' split
    all_goals rfl
  · rfl

namespace Accords

variable {b : Block} {c dest : Nat} {op : OwnerOp} {r r' : Run} {x : Asker} {o : OutcomeCode} {why : Option Reason} {v : Values}

theorem openCensus {askers : List Asker} (h : Accords a s) : Accords a (openCensus b askers s) := by
  refine placeOrWait ?_ (by simp)
  exact h.quiet (.of_eq rfl rfl rfl rfl rfl rfl rfl rfl rfl)

theorem askCensus (h : Accords a s) : Accords a (askCensus b x s) := by
  unfold Machine.askCensus
  split
  · exact h.quiet (.of_eq rfl rfl rfl rfl rfl rfl rfl rfl rfl)
  · split
    · exact h.openCensus
    · exact h.quiet (.of_eq rfl rfl rfl rfl rfl rfl rfl rfl rfl)

/-- The compensation of a transaction that ends takes the place that was reserved for it (R97, R113). -/
theorem endTransaction (h : Accords a s) : Accords a (endTransaction c o why v s) := by
  unfold Machine.endTransaction
  split
  case h_2 => exact h
  case h_1 g r found =>
    have released : ∀ ans port, Accords a { Machine.setCtx c ⟨g, .answered ans⟩ s with port := port } := fun ans port =>
      (h.setCtx (x := ⟨g, .answered ans⟩) nofun).quiet (.of_eq rfl rfl rfl rfl rfl rfl rfl rfl rfl)
    dsimp only
    split
    case isFalse => exact released _ _
    case isTrue ends =>
      split
      case h_2 => exact released _ _
      case h_1 d _ =>
        refine (released _ _).enqueue fun ok room => Nat.lt_of_lt_of_le ?_ (h.room ok room).used
        have fewer : ∀ ans, (s.ctxs.set c ⟨g, .answered ans⟩).countP Ctx.holdsComp < s.ctxs.countP Ctx.holdsComp :=
          fun ans => countP_set_lt found ends.2.2 rfl
        simp only [State.used_eq]
        exact Nat.add_lt_add_left (Nat.add_lt_add_right (Nat.add_lt_add_left (fewer _) _) _) _

theorem deferStep (h : Accords a s) : Accords a (deferStep c s) := by
  unfold Machine.deferStep
  split
  case h_2 => exact h
  case h_1 r run =>
    split
    · exact (h.setRun run (by exact id)).endTransaction
    · exact h.setRun run (by exact id)

theorem censusStep (h : Accords a s) : Accords a (censusStep c b s) := by
  unfold Machine.censusStep
  split
  case h_2 => exact h
  case h_1 r run =>
    split
    · exact (h.setRun run (by exact id)).endTransaction
    · exact (h.setRun run (by exact id)).askCensus

theorem sendStep (h : Accords a s) : Accords a (sendStep c dest op s) := by
  unfold Machine.sendStep
  split
  case h_2 => exact h
  case h_1 r run => exact (h.setRun run (by exact id)).placeOrWait (by simp)

theorem resolveStep (h : Accords a s) : Accords a (resolveStep c s) := by
  unfold Machine.resolveStep
  split
  case h_2 => exact h
  case h_1 r run =>
    split
    case h_2 => exact h
    case h_1 o _ =>
      split
      · exact (h.setRun run (by exact id)).askKiosk
      · exact (h.setRun run (by exact id)).askKiosk
      · exact h.sendStep
      · exact h.censusStep
      · exact h.deferStep
      · exact h.deferStep

/-- A context takes a free place for its compensation entry (R97). -/
theorem reserve (h : Accords a s) (run : getRun c s = some r) (free : 0 < freePlaces s) : Accords a (Machine.setRun c r' s) := by
  obtain ⟨g, found⟩ := getCtx_of_getRun run
  have set : Machine.setRun c r' s = Machine.setCtx c ⟨g, .running r'⟩ s := by simp only [Machine.setRun, found]
  rw [set]
  refine ⟨h.store, h.station, h.ok, fun ok kept => ?_, fun ok room => ?_, fun agrees => ?_⟩
  · exact ⟨(h.entries ok kept).sent, (h.entries ok kept).asked⟩
  · refine ⟨?_, (h.room ok room).held⟩
    have comps := countP_set_le_succ Ctx.holdsComp s.ctxs c ⟨g, .running r'⟩
    rw [freePlaces_eq, State.used_eq] at free
    change State.used _ ≤ 96
    simp only [State.used_eq, Machine.setCtx]
    omega
  · exact (h.agrees agrees).same rfl rfl rfl rfl

theorem proceed (h : Accords a s) : Accords a (proceed c v s) := by
  unfold Machine.proceed
  split
  case h_2 => exact h
  case h_1 r run =>
    dsimp only
    repeat' split
    · rename_i free
      exact (h.reserve run free).resolveStep
    · exact (h.setRun run (by simp)).deferStep
    · exact (h.setRun run (by simp)).resolveStep

theorem resumeStep (h : Accords a s) : Accords a (resumeStep c s) := by
  unfold Machine.resumeStep
  split
  case h_2 => exact h
  case h_1 r run =>
    repeat' split
    · rename_i free
      exact (h.reserve run free).resolveStep
    · exact h.deferStep
    · exact h.resolveStep

end Accords

/-! ## Views -/

/-- A view that neither a dispatch taken nor the handover engine needs. -/
def View.unneeded : View → Bool
  | .probing | .foreign _ | .unknown => true
  | .home | .lending _ | .receiving _ => false

theorem State.Needs.not_unneeded {b b' : Block} {v : View} (need : s.Needs b' v) (agrees : s.Agrees) (key : b'.key = b.key) :
    (viewOf b s).unneeded = false := by
  rw [← viewOf_key s key, agrees b' v need]
  rcases need.view with rfl | ⟨_, rfl⟩ | ⟨_, rfl⟩ <;> rfl

/-- No dispatch taken is of a block that is not viewed HOME. -/
theorem State.Takes.home {b b' : Block} (takes : s.Takes b') (agrees : s.Agrees) (key : b'.key = b.key) :
    viewOf b s = .home := by
  rw [← viewOf_key s key, agrees b' _ (.taken takes)]

namespace Accords

variable {b : Block} {v : View} {st : Nat} {x : Handover}

theorem setView (h : Accords a s) (need : s.Agrees → ∀ b' v', s.Needs b' v' → b'.key = b.key → v' = v) :
    Accords a (setView b v s) where
  store := h.store
  station := h.station
  ok := h.ok
  entries ok kept := ⟨(h.entries ok kept).sent, (h.entries ok kept).asked⟩
  room ok room := ⟨(h.room ok room).used, (h.room ok room).held⟩
  agrees agrees := (h.agrees agrees).setView (need (h.agrees agrees))

/-- A view that nothing needs may become any other. -/
theorem setView_free (h : Accords a s) (free : (viewOf b s).unneeded = true) : Accords a (Machine.setView b v s) :=
  h.setView fun agrees _ _ need key => by rw [need.not_unneeded agrees key] at free; cases free

theorem freeStranded (h : Accords a s) : Accords a (freeStranded b s) := by
  unfold Machine.freeStranded
  split
  · exact h
  · exact h.askStreamOnce

theorem becomeForeign (h : Accords a s) (free : (viewOf b s).unneeded = true) : Accords a (becomeForeign b st s) :=
  (h.setView_free free).freeStranded

theorem becomeHome (h : Accords a s) (free : (viewOf b s).unneeded = true) : Accords a (becomeHome b s) :=
  (h.setView_free free).startSweep

theorem noteOwner (h : Accords a s) : Accords a (noteOwner b st s) := by
  unfold Machine.noteOwner
  split
  · rename_i view
    exact h.becomeForeign (by rw [view]; rfl)
  · rename_i view
    exact h.becomeForeign (by rw [view]; rfl)
  · rename_i view
    exact h.becomeForeign (by rw [view]; rfl)
  · exact h
  · exact h
  · exact h

theorem takeAnswer {c : Nat} {ans : StepAnswer} (h : Accords a s) : Accords a (takeAnswer c ans s) := by
  unfold Machine.takeAnswer
  split
  case h_1 => exact h
  case h_2 r run =>
    split
    · split
      · exact h.proceed
      · exact h.endTransaction
    · exact h.endTransaction
    · exact h.deferStep
    · split
      · exact h
      · have redirected := h.setRun (r' := { r with redirects := r.redirects + 1 }) run id
        dsimp only
        repeat' split
        · exact redirected.censusStep
        · exact redirected.noteOwner.resolveStep
        · exact redirected.noteOwner.censusStep
    · split
      · exact h
      · exact h.censusStep
    · exact h
    · exact h

theorem takeCtx {c tag : Nat} {q : Request} (h : Accords a s) : Accords a (takeCtx c tag q s) :=
  h.setCtx (by simp [Ctx.holdsComp, newRun])

/-! ## The handover engine (8.4, 8.5) -/

theorem setHand (h : Accords a s) (need : s.Agrees → ∀ b v, x.Needs b v → viewOf b s = v)
    (places : x.reservedEntries ≤ s.hand.reservedEntries) : Accords a (setHand x s) where
  store := h.store
  station := h.station
  ok := h.ok
  entries ok kept := ⟨(h.entries ok kept).sent, (h.entries ok kept).asked⟩
  room ok room := by
    refine ⟨?_, (h.room ok room).held⟩
    have used := (h.room ok room).used
    change State.used _ ≤ 96
    simp only [State.used_eq, Machine.setHand] at *
    omega
  agrees agrees b v n := by
    cases n with
    | taken takes =>
      exact h.agrees agrees b _ (.taken (takes.sub (fun e mem dir => ⟨e, mem, dir, rfl⟩) fun y hy => ⟨y, hy, rfl⟩))
    | engine need' => exact need (h.agrees agrees) b v need'

/-- The engine and a view change together. -/
theorem setHandView (h : Accords a s) (taken : s.Agrees → v = .home ∨ ∀ b', s.Takes b' → b'.key ≠ b.key)
    (engine : s.Agrees → ∀ b' v', x.Needs b' v' → (b'.key = b.key → v' = v) ∧ (b'.key ≠ b.key → viewOf b' s = v'))
    (places : x.reservedEntries ≤ s.hand.reservedEntries) : Accords a (Machine.setView b v (Machine.setHand x s)) where
  store := h.store
  station := h.station
  ok := h.ok
  entries ok kept := ⟨(h.entries ok kept).sent, (h.entries ok kept).asked⟩
  room ok room := by
    refine ⟨?_, (h.room ok room).held⟩
    have used := (h.room ok room).used
    change State.used _ ≤ 96
    simp only [State.used_eq, Machine.setHand, Machine.setView] at *
    omega
  agrees agrees b' v' n := by
    have agrees := h.agrees agrees
    have out : b'.key ≠ b.key → viewOf b' (Machine.setView b v (Machine.setHand x s)) = viewOf b' s :=
      viewOf_setView_other v _
    have own : b'.key = b.key → viewOf b' (Machine.setView b v (Machine.setHand x s)) = v := fun key => by
      rw [viewOf_key _ key, viewOf_setView_same]
    by_cases key : b'.key = b.key
    · rw [own key]
      cases n with
      | taken takes =>
        have takes : s.Takes b' := takes.sub (fun e mem dir => ⟨e, mem, dir, rfl⟩) fun y hy => ⟨y, hy, rfl⟩
        exact (taken agrees).resolve_right fun none => none b' takes key
      | engine need => exact ((engine agrees b' v' need).1 key).symm
    · rw [out key]
      cases n with
      | taken takes =>
        exact agrees b' _ (.taken (takes.sub (fun e mem dir => ⟨e, mem, dir, rfl⟩) fun y hy => ⟨y, hy, rfl⟩))
      | engine need => exact (engine agrees b' v' need).2 key

theorem setHand_idle (h : Accords a s) : Accords a (Machine.setHand .idle s) :=
  h.setHand (fun _ _ _ need => nomatch need) (Nat.zero_le _)

end Accords

end Sys2Proof.Machine
end
section
/-! PROOFS. The handover engine at the giver and at the receiver: what each of its operations keeps of the dispatch queue,
its capacity and the views (O5). -/

namespace Sys2Proof.Machine

variable {a s : State}

/-! ## The giver's phases -/

/-- The giver lends its block, from the freeze to the decision (R161, R165, R166). -/
def GivePhase.lends : GivePhase → Bool
  | .draining _ | .freeing => false
  | .offering | .streaming | .deciding | .querying _ => true

theorem GivePhase.lends_of_waits {p : GivePhase} (h : p.waitsForDecision = true) : p.lends = true := by
  cases p <;> simp_all [GivePhase.waitsForDecision, GivePhase.lends]

section Giver

variable {g g' : Giving} {b : Block} {v : View}

theorem Handover.needs_of_lends (lends : g.phase.lends = true) (need : (Handover.giving g).Needs b v) :
    b = g.b ∧ v = .lending g.receiver := by
  cases need with
  | draining phase => rw [phase] at lends; cases lends
  | lent => exact ⟨rfl, rfl⟩

theorem Handover.needs_lent (lends : g.phase.lends = true) : (Handover.giving g).Needs g.b (.lending g.receiver) := by
  refine .lent (fun l phase => ?_) fun phase => ?_ <;> rw [phase] at lends <;> cases lends

theorem Handover.needs_of_freeing (phase : g.phase = .freeing) : ¬ (Handover.giving g).Needs b v := by
  intro need
  cases need with
  | draining other => rw [phase] at other; cases other
  | lent _ other => exact other phase

theorem Handover.needs_of_draining {l : Bool} (phase : g.phase = .draining l) (need : (Handover.giving g).Needs b v) :
    b = g.b ∧ v = .home := by
  cases need with
  | draining => exact ⟨rfl, rfl⟩
  | lent drained => exact absurd phase (drained l)

theorem Handover.needs_of_receiving {r : Receiving} (phase : r.phase = .receiving) (need : (Handover.receiving r).Needs b v) :
    b = r.b ∧ v = .receiving r.giver := by
  cases need with
  | receiving => exact ⟨rfl, rfl⟩
  | taken other => exact absurd phase other

theorem Handover.needs_of_taken {r : Receiving} (phase : r.phase ≠ .receiving) (need : (Handover.receiving r).Needs b v) :
    b = r.b ∧ v = .home := by
  cases need with
  | receiving other => exact absurd other phase
  | taken => exact ⟨rfl, rfl⟩

theorem reservedEntries_lends (lends : g.phase.lends = true) : (Handover.giving g).reservedEntries = 1 := by
  obtain ⟨phase, _⟩ := g
  cases phase with
  | draining | freeing => cases lends
  | offering | streaming | deciding | querying => rfl

theorem reservedEntries_le (h : Handover) : h.reservedEntries ≤ 1 := by
  unfold Handover.reservedEntries
  repeat' split
  all_goals omega

theorem viewOf_receiving {r : Receiving} (hand : s.hand = .receiving r) (phase : r.phase = .receiving) (agrees : s.Agrees) :
    viewOf r.b s = .receiving r.giver :=
  agrees _ _ (.engine (hand ▸ Handover.Needs.receiving phase))

theorem viewOf_lends (hand : s.hand = .giving g) (lends : g.phase.lends = true) (agrees : s.Agrees) :
    viewOf g.b s = .lending g.receiver :=
  agrees _ _ (.engine (hand ▸ Handover.needs_lent lends))

end Giver

namespace Accords

variable {b : Block} {st c : Nat} {g g' : Giving} {r : Receiving} {o : OutcomeCode} {why : Option Reason}

/-- A giver that lends its block goes on lending it. -/
theorem setGiving (h : Accords a s) (hand : s.hand = .giving g) (lends : g.phase.lends = true) (lends' : g'.phase.lends = true)
    (block : g'.b = g.b) (receiver : g'.receiver = g.receiver) : Accords a (Machine.setHand (.giving g') s) := by
  refine h.setHand (fun agrees b v need => ?_) ?_
  · obtain ⟨rfl, rfl⟩ := Handover.needs_of_lends lends' need
    rw [block, receiver, viewOf_lends hand lends agrees]
  · rw [hand, reservedEntries_lends lends]
    exact reservedEntries_le _

theorem askFreeze (h : Accords a s) : Accords a (askFreeze s) := by
  unfold Machine.askFreeze
  repeat' split
  · exact h
  · exact h.askStreamOnce
  · exact h
  · exact h

theorem withdrawFreeze (h : Accords a s) : Accords a (withdrawFreeze s) := by
  have filtered : Accords a { s with arb := { s.arb with stream := s.arb.stream.filter fun w => w != .freeze } } :=
    h.quiet (.of_arb fun _ x => x)
  unfold Machine.withdrawFreeze
  dsimp only
  split
  · exact filtered.endGrant
  · exact filtered

/-- A giver that begins to drain takes a free place for its ABANDON entry (R160). -/
theorem startHandover {t : Nat} (h : Accords a s) : Accords a (startHandover c b t s) := by
  unfold Machine.startHandover
  split
  case isTrue => exact h.endTransaction
  case isFalse home =>
    split
    case isTrue => exact h.endTransaction
    case isFalse idle =>
      split
      case isTrue => exact h.endTransaction
      case isFalse free =>
        simp only [not_not] at home idle
        refine askFreeze ⟨h.store, h.station, h.ok, fun ok kept => ?_, fun ok room => ?_, fun agrees => ?_⟩
        · exact ⟨(h.entries ok kept).sent, (h.entries ok kept).asked⟩
        · refine ⟨?_, (h.room ok room).held⟩
          rw [freePlaces_eq, State.used_eq] at free
          change State.used _ ≤ 96
          simp only [State.used_eq, Machine.setHand, Handover.reservedEntries]
          omega
        · intro b' v need
          cases need with
          | taken takes =>
            exact h.agrees agrees b' _ (.taken (takes.sub (fun e mem dir => ⟨e, mem, dir, rfl⟩) fun y hy => ⟨y, hy, rfl⟩))
          | engine need =>
            obtain ⟨rfl, rfl⟩ := Handover.needs_of_draining (l := true) rfl need
            exact home

theorem sendOffer (h : Accords a s) : Accords a (sendOffer g s) := by
  unfold Machine.sendOffer
  split
  case h_2 => exact h
  case h_1 run => exact (h.setRun run (by exact id)).placeOrWait (by simp)

/-- What a block has taken, told by the key of its block. -/
theorem takenFor_of_takes {b b' : Block} (takes : s.Takes b') (key : b'.key = b.key) : takenFor b s = true := by
  cases takes with
  | inbound mem dir block =>
    refine Bool.or_eq_true_iff.2 (.inl (List.any_eq_true.2 ⟨_, mem, ?_⟩))
    simp [dir, Dispatch.isFor, block, key]
  | accepted acc body block =>
    refine Bool.or_eq_true_iff.2 (.inr ?_)
    simp [acceptingFor, acc, body, Dispatch.isFor, block, key]

/-- The freeze lends a block of which no dispatch is taken (R161). -/
theorem freeze (h : Accords a s) : Accords a (freeze s) := by
  unfold Machine.freeze
  split
  case h_2 => exact h
  case h_1 g hand =>
    split
    case h_2 => exact h
    case h_1 l phase =>
      split
      case isTrue => exact h
      case isFalse quiet =>
        have serial : Accords a { s with map := { s.map with serial := (s.map.serial + 1) % 256 } } :=
          h.quiet (.of_eq rfl rfl rfl rfl rfl rfl rfl rfl rfl)
        refine sendOffer (serial.setHandView (x := .giving _) (b := g.b) (v := .lending g.receiver)
          (fun _ => .inr fun b' takes key => ?_)
          (fun _ b' v need => ?_) ?_)
        · exact quiet (takenFor_of_takes (s := s)
            (takes.sub (fun e mem dir => ⟨e, mem, dir, rfl⟩) fun y hy => ⟨y, hy, rfl⟩) key)
        · obtain ⟨rfl, rfl⟩ := Handover.needs_of_lends rfl need
          exact ⟨fun _ => rfl, fun other => absurd rfl other⟩
        · show _ ≤ s.hand.reservedEntries
          rw [hand]
          simp [Handover.reservedEntries, phase]

/-- A handover that ends with its block HOME: the engine idle, the view HOME (R161, R166). -/
theorem homeAgain (h : Accords a s) : Accords a (Machine.becomeHome b (Machine.setHand .idle s)) :=
  (h.setHandView (x := .idle) (fun _ => .inl rfl) (fun _ _ _ need => nomatch need) (Nat.zero_le _)).startSweep

theorem endOffer (h : Accords a s) : Accords a (endOffer o why s) := by
  unfold Machine.endOffer
  split
  · exact h.endTransaction.homeAgain
  · exact h

theorem streamOn (h : Accords a s) : Accords a (streamOn s) := by
  unfold Machine.streamOn
  repeat' split
  · exact h.askStreamOnce
  · exact h.placeOrWait (by simp)
  · exact h
  · exact h

theorem acceptedOffer (h : Accords a s) : Accords a (acceptedOffer s) := by
  unfold Machine.acceptedOffer
  split
  case h_2 => exact h
  case h_1 g hand =>
    split
    case isFalse => exact h
    case isTrue phase =>
      have lends : g.phase.lends = true := by rw [phase]; rfl
      exact streamOn (h.endTransaction.setGiving ((endTransaction_hand ..).trans hand) lends rfl rfl rfl)

theorem takeOfferAnswer {x : StepAnswer} (h : Accords a s) : Accords a (takeOfferAnswer x s) := by
  unfold Machine.takeOfferAnswer
  split
  · exact h.acceptedOffer
  · exact h.endOffer
  · exact h

/-- A handover that fails gives its reserved entry to the ABANDON (R166). -/
theorem failHandover {w : Reason} (h : Accords a s) (hand : s.hand = .giving g) (lends : g.phase.lends = true) :
    Accords a (failHandover g w s) := by
  unfold Machine.failHandover
  have home : Accords a (Machine.becomeHome g.b (Machine.setHand .idle s)) := h.homeAgain
  refine stopWaiting (postNotice ?_)
  split
  · exact home
  · refine home.enqueue fun ok room => ?_
    have used := (h.room ok room).used
    have quiet := (Quiet.startSweep (Machine.setView g.b .home (Machine.setHand .idle s))).used_le
    have reserved := reservedEntries_lends lends
    refine Nat.lt_of_le_of_lt quiet ?_
    simp only [State.used_eq, Machine.setView, Machine.setHand, hand, Handover.reservedEntries] at *
    omega

theorem announce (h : Accords a s) : Accords a (announce b st s) := by
  refine placeOrWait ?_ (by simp)
  exact h.quiet (.of_eq rfl rfl rfl rfl rfl rfl rfl rfl rfl)

theorem completeHandover (h : Accords a s) (hand : s.hand = .giving g) (lends : g.phase.lends = true) :
    Accords a (completeHandover g s) := by
  have lent := fun agrees => viewOf_lends hand lends agrees
  have given : Accords a (Machine.setView g.b (.foreign g.receiver)
      (Machine.setHand (.giving { g with phase := .freeing }) s)) := by
    refine h.setHandView (fun agrees => .inr fun b' takes key => ?_)
      (fun _ _ _ need => absurd need (Handover.needs_of_freeing rfl)) (Nat.zero_le _)
    have home := takes.home agrees key
    rw [lent agrees] at home
    cases home
  have posted := given.announce (b := g.b) (st := g.receiver) |>.postNotice (n := .handover g.b g.receiver .done none g.units)
    |>.stopWaiting (w := .handover)
  unfold Machine.completeHandover
  dsimp only
  split
  · exact posted.setHand_idle
  · exact posted.askStreamOnce

theorem streamDelivered {last : Option Nat} {u : Option StreamUnit} (h : Accords a s) : Accords a (streamDelivered last u s) := by
  unfold Machine.streamDelivered
  split
  case h_2 => exact h
  case h_1 g hand =>
    split
    case h_2 => exact h
    case h_1 phase =>
      have lends : g.phase.lends = true := by rw [phase]; rfl
      dsimp only
      split
      · exact h.setGiving hand lends rfl rfl rfl
      · exact streamOn (h.setGiving hand lends lends rfl rfl)

theorem streamReturned (h : Accords a s) : Accords a (streamReturned s) := by
  unfold Machine.streamReturned
  split
  case h_2 => exact h
  case h_1 g hand =>
    split
    case h_2 => exact h
    case h_1 phase => exact h.failHandover hand (by rw [phase]; rfl)

theorem sendQuery (h : Accords a s) (hand : s.hand = .giving g) (lends : g.phase.lends = true) : Accords a (sendQuery g s) := by
  unfold Machine.sendQuery
  exact placeOrWait (h.setGiving hand lends rfl rfl rfl) (by simp)

theorem takeDecision {serial : Nat} (h : Accords a s) : Accords a (takeDecision o b serial s) := by
  unfold Machine.takeDecision
  split
  case h_2 => exact h
  case h_1 g hand =>
    split
    case isFalse => exact h
    case isTrue waits =>
      have lends := GivePhase.lends_of_waits waits.1
      split
      · exact h.completeHandover hand lends
      · exact h.failHandover hand lends
      · exact h.failHandover hand lends
      · exact h

theorem queryEnded {serial : Nat} {q : QueryState} (h : Accords a s) : Accords a (queryEnded b serial q s) := by
  unfold Machine.queryEnded
  split
  case h_2 => exact h
  case h_1 g hand =>
    split
    case isFalse => exact h
    case isTrue waits => exact h.setGiving hand (by rw [waits.1]; rfl) rfl rfl rfl

/-! ## The receiver -/

theorem discardBlock (h : Accords a s) (hand : s.hand = .receiving r) (phase : r.phase = .receiving) :
    Accords a (discardBlock r s) := by
  refine postNotice (freeStranded (h.setHandView (x := .idle) (fun agrees => .inr fun b' takes key => ?_)
    (fun _ _ _ need => nomatch need) (Nat.zero_le _)))
  have home := takes.home agrees key
  rw [viewOf_receiving hand phase agrees] at home
  cases home

theorem takeAbandon {serial src : Nat} (h : Accords a s) : Accords a (takeAbandon b serial src s) := by
  unfold Machine.takeAbandon
  split
  case h_2 => exact h
  case h_1 r hand =>
    split
    case isFalse => exact h
    case isTrue same => exact h.discardBlock hand same.1

theorem acceptOffer {giver serial : Nat} {n : Counts} (h : Accords a s) (view : viewOf b s ≠ .home) :
    Accords a (acceptOffer giver b serial n s) := by
  refine freeStranded (h.setHandView (fun agrees => .inr fun b' takes key => view (takes.home agrees key))
    (fun _ b' v need => ?_) (Nat.zero_le _))
  obtain ⟨rfl, rfl⟩ := Handover.needs_of_receiving rfl need
  exact ⟨fun _ => rfl, fun other => absurd rfl other⟩

theorem takeBlock {k : Nat} (h : Accords a s) : Accords a (takeBlock k r s) := by
  have taken : Accords a (Machine.setView r.b .home
      (Machine.setHand (.receiving { r with phase := .confirming true, reserved := ⟨0, 0, 0⟩ }) s)) := by
    refine h.setHandView (fun _ => .inl rfl) (fun _ b' v need => ?_) (Nat.zero_le _)
    obtain ⟨rfl, rfl⟩ := Handover.needs_of_taken (by simp) need
    exact ⟨fun _ => rfl, fun other => absurd rfl other⟩
  exact taken.startSweep.postNotice.placeAns (by simp)

theorem rejectBlock {k : Nat} (h : Accords a s) (hand : s.hand = .receiving r) (phase : r.phase = .receiving) :
    Accords a (rejectBlock k r s) := (h.discardBlock hand phase).placeAns (by simp)

theorem endConfirming (h : Accords a s) : Accords a (endConfirming b s) := by
  unfold Machine.endConfirming
  repeat' split
  · exact h.setHand_idle
  · exact h
  · exact h
  · exact h

theorem homeDelivered {dest serial : Nat} (h : Accords a s) : Accords a (homeDelivered dest b serial s) := by
  unfold Machine.homeDelivered
  repeat' split
  · exact h.endConfirming
  · exact h
  · exact h

theorem endFreeing (h : Accords a s) : Accords a (endFreeing b s) := by
  unfold Machine.endFreeing
  repeat' split
  · exact h.setHand_idle
  · exact h
  · exact h

/-- The confirmation wait starts or ends (R170). -/
theorem setConfirming {timer timer' : Bool} (h : Accords a s) (hand : s.hand = .receiving r)
    (phase : r.phase = .confirming timer) :
    Accords a (Machine.setHand (.receiving { r with phase := .confirming timer' }) s) := by
  refine h.setHand (fun agrees b' v need => ?_) (Nat.zero_le _)
  obtain ⟨rfl, rfl⟩ := Handover.needs_of_taken (by simp) need
  exact agrees _ _ (.engine (hand ▸ .taken (by simp [phase])))

end Accords

end Sys2Proof.Machine
end
section
/-! PROOFS. The dispatch engine: the walk of the queue, the retry tick, the taking of a DISPATCH and the offering of freed
places, and what each keeps of the queue and its capacity (O5). -/

namespace Sys2Proof.Machine

variable {a s : State}

/-- An INBOUND entry of the name does not ask for the store. -/
def State.idle (id : Nat) (s : State) : Prop :=
  ∀ e ∈ s.queue.entries, e.id = id → e.dir = .inbound → ¬ s.asksStore id

theorem State.outbound.idle {id : Nat} (h : s.outbound id) : s.idle id := h.notInbound

theorem mem_of_findEntry {e : Entry} {id : Nat} (found : findEntry id s = some e) : e ∈ s.queue.entries ∧ e.id = id :=
  ⟨List.mem_of_find?_eq_some found, by simpa using List.find?_some found⟩

namespace Accords

variable {b : Block} {id : Nat} {e : Entry} {d : Dispatch}

theorem sendEntry {st : Nat} (h : Accords a s) (out : a.queue.ok → s.outbound e.id)
    (old : a.queue.ok → e.id < s.queue.nextId) :
    Accords a (sendEntry e st s).1 := by
  unfold Machine.sendEntry
  split
  case isTrue => exact h
  case isFalse free =>
    split
    · exact h.send (Bool.not_eq_true _ ▸ free) out old
    · exact h.waitForPlace

theorem censusEntry (h : Accords a s) (idle : a.queue.ok → a.EntriesKept → s.idle id) : Accords a (censusEntry id b s) :=
  (h.setEntryPhase (by simp) (by simp) idle).askCensus

theorem retireEntry (h : Accords a s) (idle : a.queue.ok → a.EntriesKept → s.idle e.id) : Accords a (retireEntry e s) := by
  unfold Machine.retireEntry
  split
  · exact h.censusEntry idle
  · exact h.dropEntry

theorem resolveEntry (h : Accords a s) (out : a.queue.ok → s.outbound e.id) (old : a.queue.ok → e.id < s.queue.nextId) :
    Accords a (resolveEntry e s).1 := by
  have idle : a.queue.ok → a.EntriesKept → s.idle e.id := fun ok _ => (out ok).idle
  unfold Machine.resolveEntry
  split
  · split
    · exact h.applying_outbound out
    · exact h.sendEntry out old
    · exact h.censusEntry idle
    · exact h.setEntryPhase (by simp) (by simp) idle
    · exact h.setEntryPhase (by simp) (by simp) idle
    · exact h.setEntryPhase (by simp) (by simp) idle
  · split
    · split
      · exact h.takeAbandon.dropEntry
      · exact h.sendEntry out old
    · exact h.sendEntry out old
    · exact h

theorem takeEligible (h : Accords a s) (out : a.queue.ok → s.outbound e.id) (old : a.queue.ok → e.id < s.queue.nextId) :
    Accords a (takeEligible e s).1 := by
  unfold Machine.takeEligible
  split
  · exact h.resolveEntry out old
  · exact h.retireEntry fun ok _ => (out ok).idle

theorem walkFrom {keys : List OrderKey} (ids : List Nat) (h : Accords a s) : Accords a (walkFrom ids keys s).1 := by
  induction ids generalizing keys s with
  | nil => exact h
  | cons id ids ih =>
    unfold Machine.walkFrom
    split
    case h_1 => exact ih h
    case h_2 e found =>
      obtain ⟨mem, rfl⟩ := mem_of_findEntry found
      split
      case isTrue => exact ih h
      case isFalse dir =>
        have outbound : e.dir = .outbound := by cases k : e.dir <;> simp_all
        split
        case isTrue => exact ih h
        case isFalse =>
          split
          case isFalse => exact ih h
          case isTrue =>
            have taken := h.takeEligible (e := e) (fun ok => State.outbound_of_found (h.ok ok) found outbound)
              (fun ok => (h.ok ok).2.1 e mem)
            split
            · rename_i result
              rwa [result] at taken
            · rename_i result
              rw [result] at taken
              split
              · exact ih taken
              · exact ih taken

theorem walk (h : Accords a s) : Accords a (walk s) := by
  have walked := h.walkFrom (keys := []) (s.queue.entries.map Entry.id)
  unfold Machine.walk
  split
  · split <;> rename_i result <;> rw [result] at walked
    · exact walked
    · exact walked.stopWaiting
  · exact h

/-! ## Failing and retrying (R125, R126) -/

theorem entryFailed (h : Accords a s) (out : a.queue.ok → a.EntriesKept → s.outbound id) : Accords a (entryFailed id s) := by
  refine h.mapEntry (fun _ => ⟨rfl, rfl, rfl⟩) (fun _ => .inl rfl) (fun ok kept e mem own dir asks => ?_) fun e => ?_
  · exact absurd asks ((out ok kept).idle e mem own dir)
  · rw [Entry.reservedPlaces_idle (by simp)]
    exact Nat.zero_le _

theorem entryCensusDone (h : Accords a s) : Accords a (entryCensusDone id s) := by
  refine h.mapEntry (fun e => ?_) (fun e => ?_) (fun ok kept e mem own dir asks => ?_) fun e => ?_
  · split <;> exact ⟨rfl, rfl, rfl⟩
  · split
    · exact .inl rfl
    · exact .inr rfl
  · have applying := (h.entries ok kept).asked e mem dir (own ▸ asks)
    simp [applying]
  · split
    · rw [Entry.reservedPlaces_idle (by simp)]
      exact Nat.zero_le _
    · exact le_rfl

end Accords

/-! ## The retry tick -/

/-- The entries of a list are those of the queue, as far as the queue still holds their names. -/
def State.current (l : List Entry) (s : State) : Prop := ∀ e ∈ l, ∀ x ∈ s.queue.entries, x.id = e.id → x = e

theorem State.current_of_ok (ok : s.queue.ok) : s.current s.queue.entries := fun _ he _ hx own => eq_of_key_eq ok.1 hx he own

section Tick

variable {l : List Entry} {e : Entry}

theorem entries_askCensus (b : Block) (x : Asker) (s : State) : (askCensus b x s).queue = s.queue := by
  unfold askCensus
  split
  · rfl
  · split
    · unfold openCensus placeOrWait waitForPlace
      repeat' split
      all_goals rfl
    · rfl

/-- A tick changes no entry of another name. -/
theorem mem_tickEntry {x : Entry} (mem : x ∈ (tickEntry e s).queue.entries) (other : x.id ≠ e.id) :
    x ∈ s.queue.entries := by
  have phase : ∀ p, x ∈ (setEntryPhase e.id p s).queue.entries → x ∈ s.queue.entries := fun p mem => by
    obtain ⟨y, hy, ⟨rfl, own⟩ | ⟨rfl, -⟩⟩ := mem_mapEntry mem
    · exact absurd own other
    · exact hy
  unfold tickEntry at mem
  split at mem
  · split at mem
    · exact phase _ mem
    · unfold retireEntry at mem
      split at mem
      · unfold censusEntry at mem
        rw [entries_askCensus] at mem
        exact phase _ mem
      · exact List.mem_of_mem_filter mem
  · exact mem

theorem State.current.tick (h : s.current (e :: l)) (nodup : ((e :: l).map Entry.id).Nodup) : (tickEntry e s).current l := by
  obtain ⟨first, -⟩ := List.nodup_cons.1 nodup
  intro e' he' x hx own
  refine h e' (List.mem_cons_of_mem _ he') x (mem_tickEntry hx fun same => first ?_) own
  exact List.mem_map.2 ⟨e', he', own.symm.trans same⟩

theorem Accords.tickEntry (h : Accords a s) (now : a.queue.ok → s.current [e]) : Accords a (tickEntry e s) := by
  unfold Machine.tickEntry
  split
  case isFalse => exact h
  case isTrue waits =>
    have idle : a.queue.ok → a.EntriesKept → s.idle e.id := fun ok kept x mem own dir asks => by
      obtain rfl := now ok e (List.mem_singleton_self e) x mem own
      have applying := (h.entries ok kept).asked x mem dir asks
      rw [waits] at applying
      cases applying
    split
    · exact h.setEntryPhase (by simp) (by simp) idle
    · exact h.retireEntry idle

theorem Accords.ticks (h : Accords a s) (nodup : a.queue.ok → (l.map Entry.id).Nodup) (now : a.queue.ok → s.current l) :
    Accords a (l.foldl (fun s e => Machine.tickEntry e s) s) := by
  induction l generalizing s with
  | nil => exact h
  | cons e l ih =>
    refine ih (h.tickEntry fun ok e' he' => now ok e' ?_) (fun ok => (List.nodup_cons.1 (nodup ok)).2)
      fun ok => (now ok).tick (nodup ok)
    cases List.mem_singleton.1 he'
    exact List.mem_cons_self ..

theorem Accords.retryTick (h : Accords a s) : Accords a (retryTick s) :=
  (h.ticks (fun ok => (h.ok ok).1) fun ok => State.current_of_ok (h.ok ok)).walk

end Tick

/-! ## Freed places (R121) -/

section Places

variable {room : Nat} {l : List Entry}

theorem freePlaces_applying (ok : s.queue.ok) (id : Nat) :
    freePlaces s ≤ freePlaces (askLine (.entry id) (setEntryPhase id .applying s)) + 2 := by
  have used := used_mapEntry_le (s := s) (id := id) (n := 2) ok fun e _ _ =>
    (Entry.reservedPlaces_le { e with phase := .applying }).trans (Nat.le_add_left 2 e.reservedPlaces)
  have same : (askLine (.entry id) (setEntryPhase id .applying s)).used = (setEntryPhase id .applying s).used := rfl
  rw [freePlaces_eq, freePlaces_eq, same, setEntryPhase]
  omega

theorem Accords.offerApplications (h : Accords a s) (fits : a.queue.ok → room ≤ freePlaces s) :
    Accords a (offerApplications l room s).1 ∧
      (a.queue.ok → (Machine.offerApplications l room s).2 ≤ freePlaces (Machine.offerApplications l room s).1) := by
  induction l generalizing room s with
  | nil => exact ⟨h, fits⟩
  | cons e l ih =>
    unfold Machine.offerApplications
    split
    case isFalse => exact ih h fits
    case isTrue offered =>
      refine ih (h.applying fun ok kept => ?_) fun ok => ?_
      · have used := used_mapEntry_le (s := s) (id := e.id) (n := 2) (h.ok ok) fun e _ _ =>
          (Entry.reservedPlaces_le { e with phase := .applying }).trans (Nat.le_add_left 2 e.reservedPlaces)
        have free := offered.2.trans (fits ok)
        rw [freePlaces_eq] at free
        rw [Machine.setEntryPhase]
        omega
      · have := freePlaces_applying (h.ok ok) e.id
        have := fits ok
        omega

theorem roomAfterApplications_le (l : List Entry) (room : Nat) : roomAfterApplications l room ≤ room := by
  induction l generalizing room with
  | nil => exact le_rfl
  | cons e l ih =>
    unfold roomAfterApplications
    split
    · exact (ih _).trans (Nat.sub_le ..)
    · exact ih _

theorem roomAfterSweep_le (room : Nat) (s : State) : roomAfterSweep room s ≤ room := by
  unfold roomAfterSweep
  split
  · exact Nat.sub_le ..
  · exact le_rfl

theorem lateRoom_le (s : State) : lateRoom s ≤ freePlaces s :=
  (roomAfterSweep_le _ _).trans (roomAfterApplications_le _ _)

theorem Accords.offerSweep (h : Accords a s) : Accords a (offerSweep room s) := by
  unfold Machine.offerSweep
  split
  · exact Accords.askSweep (h.quiet (.of_eq rfl rfl rfl rfl rfl rfl rfl rfl rfl))
  · exact h

theorem freePlaces_offerSweep (room : Nat) (s : State) : freePlaces s ≤ freePlaces (offerSweep room s) := by
  have quiet : Quiet s (offerSweep room s) := by
    unfold offerSweep
    split
    · refine Quiet.trans ?_ (.askSweep _)
      exact .of_eq rfl rfl rfl rfl rfl rfl rfl rfl rfl
    · rfl
  have := quiet.used_le
  rw [freePlaces_eq, freePlaces_eq]
  omega

/-- A late ANS queues its compensation where a place is free (R115). -/
theorem Accords.takeLate {k age : Nat} {f : Frame} {x : Ans} (h : Accords a s) (fits : a.queue.ok → room ≤ freePlaces s) :
    Accords a (takeLate room k age f x s) := by
  unfold Machine.takeLate
  split
  · exact h.postNotice.freeSlot
  · split
    case isTrue => exact h.setSlot
    case isFalse some_ =>
      refine (h.enqueue fun ok kept => ?_).postNotice.freeSlot
      have := fits ok
      rw [freePlaces_eq] at this
      omega

theorem Accords.retryLate (h : Accords a s) (fits : a.queue.ok → room ≤ freePlaces s) : Accords a (retryLate room s) := by
  unfold Machine.retryLate
  repeat' split
  · exact h.takeLate fits
  · exact h
  · exact h

theorem Accords.dispatchPlacesFreed (h : Accords a s) : Accords a (dispatchPlacesFreed s) := by
  obtain ⟨offered, fits⟩ := h.offerApplications (l := s.queue.entries) (fun _ => le_rfl)
  exact (offered.offerSweep.retryLate fun ok =>
    (roomAfterSweep_le _ _).trans ((fits ok).trans (freePlaces_offerSweep _ _))).walk

end Places

/-! ## Taking a DISPATCH (R127, R139) -/

section Take

variable {x : Acceptance} {k : Nat} {d : Dispatch}

/-- The frame in acceptance leaves it. -/
theorem Accords.dropAcc {l : LineEngine} (h : Accords a s) (acc : l.acc = none) (sendq : l.sendq = s.line.sendq) :
    Accords a { s with line := l } :=
  h.quiet (.of_acc acc sendq)

theorem used_enterInbound (d : Dispatch) (s : State) : (enterInbound d s).used = s.used + 3 := by
  have entries : ((enterInbound d s).queue.entries.map Entry.places).sum = (s.queue.entries.map Entry.places).sum + 3 := by
    simp [enterInbound, askLine, arbitrate, Entry.places, Entry.reservedPlaces]
  rw [State.used_places, State.used_places, entries]
  exact Nat.add_right_comm ..

/-- The frame that leaves acceptance gives its places back (R127). -/
theorem used_dropAcc (acc : s.line.acc = some x) (held : x.room = true) (k : Nat) :
    (setSlot k .free { s with line := { s.line with acc := none } }).used + 3 = s.used := by
  have places : Acceptance.places s.line.acc = 3 := by simp [Acceptance.places, acc, held]
  have none : Acceptance.places none = 0 := rfl
  simp only [State.used_places, places, setSlot, none]
  omega

/-- A DISPATCH taken becomes an INBOUND entry in the places kept for it, of a block viewed HOME. -/
theorem Accords.enterInbound (h : Accords a s) (acc : s.line.acc = some x) (body : x.frame.body = .dispatch d) :
    Accords a (enterInbound d (Machine.setSlot k .free { s with line := { s.line with acc := none } })) where
  store := h.store
  station := h.station
  ok ok := queue_ok_append rfl rfl (h.ok ok)
  entries ok kept := by
    have kept := h.entries ok kept
    refine ⟨fun i hi id ho => ?_, fun e mem dir asks => ?_⟩
    · obtain ⟨old, outbound⟩ := kept.sent i hi id ho
      refine ⟨Nat.lt_succ_of_lt old, fun e mem own => ?_⟩
      rcases List.mem_append.1 mem with mem | mem
      · exact outbound e mem own
      · cases List.mem_singleton.1 mem
        exact absurd own (Nat.ne_of_gt old)
    · rcases List.mem_append.1 mem with mem | mem
      · rcases asksStore_askLine asks with own | old
        · have := (h.ok ok).2.1 e mem
          simp only [LineWork.entry.injEq] at own
          exact absurd own (Nat.ne_of_gt this)
        · exact kept.asked e mem dir old
      · cases List.mem_singleton.1 mem
        rfl
  room ok room := by
    have room := h.room ok room
    have none : (Machine.enterInbound d (Machine.setSlot k .free { s with line := { s.line with acc := none } })).line.acc =
      Option.none := rfl
    refine ⟨?_, fun y is => by rw [none] at is; cases is⟩
    have used := room.used
    have held := room.held x acc (by simp [Frame.isDispatch, body])
    have freed := used_dropAcc acc held k
    exact ((used_enterInbound d _).trans freed).trans_le used
  agrees agrees b v need := by
    have agrees := h.agrees agrees
    cases need with
    | engine need => exact agrees b v (.engine need)
    | taken takes =>
      cases takes with
      | accepted acc => cases acc
      | inbound mem dir block =>
        rcases List.mem_append.1 mem with mem | mem
        · exact agrees b _ (.taken (.inbound mem dir block))
        · cases List.mem_singleton.1 mem
          exact agrees b _ (.taken (.accepted acc body block))

end Take

end Sys2Proof.Machine
end
section
/-! PROOFS. The day unit, the ownership map, the line engine and the receive slots: what each of their operations keeps of
the dispatch queue, its capacity and the views (O5). -/

namespace Sys2Proof.Machine

variable {a s : State}

namespace Accords

variable {b : Block} {st k c : Nat} {x : Asker} {f : Frame} {i : SendItem}

/-! ## The day unit -/

theorem setAgain {w : Bool} (h : Accords a s) : Accords a (setAgain w s) :=
  h.quiet (.of_eq rfl rfl rfl rfl rfl rfl rfl rfl rfl)

theorem setRequeueWait {w : Bool} (h : Accords a s) : Accords a (setRequeueWait w s) :=
  h.quiet (.of_eq rfl rfl rfl rfl rfl rfl rfl rfl rfl)

theorem queueDay (h : Accords a s) : Accords a (queueDay s) := by
  unfold Machine.queueDay
  split
  · split
    · exact h.setAgain
    · exact stopWaiting (h.mapSend fun _ => rfl)
  · exact h.placeOrWait (by simp)

theorem queueDayAgain (h : Accords a s) : Accords a (queueDayAgain s) := by
  unfold Machine.queueDayAgain
  split
  · exact h.setAgain.queueDay
  · exact h

theorem withdrawDay {d : Nat} (h : Accords a s) : Accords a (withdrawDay d s) := by
  unfold Machine.withdrawDay
  repeat' split
  · exact h.dropSend
  · exact h
  · exact h

theorem carryDay (h : Accords a s) : Accords a (carryDay s) := by
  unfold Machine.carryDay
  repeat' split
  · exact h
  · exact h.mapSend fun _ => rfl
  · exact h

theorem adoptDay {d : Nat} (h : Accords a s) : Accords a (adoptDay d s) :=
  startSweep (carryDay (h.quiet (.of_eq rfl rfl rfl rfl rfl rfl rfl rfl rfl)))

theorem takeDay {d : Nat} (h : Accords a s) : Accords a (takeDay d s) := by
  unfold Machine.takeDay
  repeat' split
  · exact h.adoptDay.postNotice
  · exact h.queueDay
  · exact h.withdrawDay

/-! ## Joining (R174, R175, R201) -/

theorem becomeOnline (h : Accords a s) : Accords a (becomeOnline s) := by
  refine walk (startSweep (queueDay ⟨h.store, fun _ => rfl, h.ok, fun ok kept => ?_, fun ok room => ?_, fun agrees => ?_⟩))
  · exact ⟨(h.entries ok kept).sent, (h.entries ok kept).asked⟩
  · exact ⟨(h.room ok room).used, (h.room ok room).held⟩
  · exact (h.agrees agrees).same rfl rfl rfl rfl

theorem probeOn (h : Accords a s) : Accords a (probeOn s) := by
  unfold Machine.probeOn
  split
  · exact askCensus (h.quiet (.of_eq rfl rfl rfl rfl rfl rfl rfl rfl rfl))
  · exact h.becomeOnline

theorem afterProbe (h : Accords a s) : Accords a (afterProbe b s) := by
  unfold Machine.afterProbe
  repeat' split
  · exact h.probeOn
  · exact h
  · exact h

theorem resolveProbe {others : List Claim} (h : Accords a s) (view : viewOf b s = .probing) :
    Accords a (resolveProbe b others s) := by
  have free : (viewOf b s).unneeded = true := by rw [view]; rfl
  unfold Machine.resolveProbe
  split
  · exact (h.becomeHome free).afterProbe
  · exact (h.becomeForeign free).announce.postNotice.afterProbe
  · exact (h.setView_free free).postNotice.afterProbe

theorem observeProbe {others : List Claim} (h : Accords a s) : Accords a (observeProbe b others s) := by
  unfold Machine.observeProbe
  split
  · exact h.resolveProbe (by assumption)
  · exact h

/-! ## The end of a census (R158, R159) -/

theorem applyCensus {res : Option (List Claim)} (h : Accords a s) : Accords a (applyCensus b res s) := by
  unfold Machine.applyCensus
  have result : (viewOf b s).unneeded = true → Accords a (match res with
      | some [] => Machine.setView b .unknown s
      | some [c] => if c.station = stationNo s then s else Machine.becomeForeign b c.station s
      | _ => s) := by
    intro free
    repeat' split
    · exact h.setView_free free
    · exact h
    · exact h.becomeForeign free
    · exact h
  split
  · rename_i view
    exact result (by rw [view]; rfl)
  · rename_i view
    exact result (by rw [view]; rfl)
  · exact h

theorem censusToContext {res : Option (List Claim)} (h : Accords a s) : Accords a (censusToContext c res s) := by
  unfold Machine.censusToContext
  split
  case h_2 => exact h
  case h_1 r run =>
    split
    case isFalse => exact h
    case isTrue =>
      split
      · exact h.endTransaction
      · exact h.resolveStep
      · exact h.setRun run (by exact id)

theorem censusToProbe {res : Option (List Claim)} (h : Accords a s) : Accords a (censusToProbe b res s) := by
  unfold Machine.censusToProbe
  repeat' split
  · exact h.quiet (.of_eq rfl rfl rfl rfl rfl rfl rfl rfl rfl)
  · exact h
  · exact h

theorem censusToConfirming (h : Accords a s) : Accords a (censusToConfirming b s) := by
  unfold Machine.censusToConfirming
  split
  case h_2 => exact h
  case h_1 r hand =>
    split
    case h_2 => exact h
    case h_1 timer phase =>
      split
      · exact h.setConfirming hand phase
      · exact h

theorem censusToAsker {res : Option (List Claim)} (h : Accords a s) : Accords a (censusToAsker b res x s) := by
  unfold Machine.censusToAsker
  split
  · exact h.censusToContext
  · exact h.entryCensusDone
  · exact h.censusToProbe
  · exact h.censusToConfirming

theorem setPlace {g : CensusPlace → CensusPlace} (h : Accords a s) : Accords a (setPlace b g s) :=
  h.quiet (.of_eq rfl rfl rfl rfl rfl rfl rfl rfl rfl)

theorem giveFreePlace (h : Accords a s) : Accords a (giveFreePlace s) := by
  unfold Machine.giveFreePlace
  split
  · exact h
  · exact openCensus (h.quiet (.of_eq rfl rfl rfl rfl rfl rfl rfl rfl rfl))

theorem endPlace (h : Accords a s) : Accords a (endPlace b s) := by
  unfold Machine.endPlace
  repeat' split
  · exact h.setPlace.placeOrWait (by simp)
  · exact giveFreePlace (h.quiet (.of_eq rfl rfl rfl rfl rfl rfl rfl rfl rfl))
  · exact h

/-- What each element of a list keeps, the list keeps. -/
theorem foldl {β : Type} {g : State → β → State} (each : ∀ (s : State) (y : β), Accords a s → Accords a (g s y))
    (l : List β)
    (h : Accords a s) : Accords a (l.foldl g s) := by
  induction l generalizing s with
  | nil => exact h
  | cons y l ih => exact ih (each s y h)

theorem censusEnded {res : Option (List Claim)} (h : Accords a s) : Accords a (censusEnded b res s) :=
  endPlace (foldl (fun _ _ h => h.censusToAsker) _ h.applyCensus)

theorem takeMovedOther (h : Accords a s) : Accords a (takeMovedOther b st s) := by
  unfold Machine.takeMovedOther
  split
  · exact h
  · exact h
  · exact h
  · rename_i view
    exact (h.becomeForeign (by rw [view]; rfl)).postNotice.afterProbe
  · rename_i view
    exact h.becomeForeign (by rw [view]; rfl)
  · rename_i view
    exact h.becomeForeign (by rw [view]; rfl)

theorem takeMoved {src : Nat} (h : Accords a s) : Accords a (takeMoved b st src s) := by
  unfold Machine.takeMoved
  repeat' split
  · exact h.endConfirming
  · exact h
  · exact h
  · exact h.takeMovedOther

theorem dropAnnouncement {id : Nat} (h : Accords a s) : Accords a (dropAnnouncement id s) :=
  h.quiet (.of_eq rfl rfl rfl rfl rfl rfl rfl rfl rfl)

theorem setAnnouncementWait {id : Nat} {w : Bool} (h : Accords a s) : Accords a (setAnnouncementWait id w s) :=
  h.quiet (.of_eq rfl rfl rfl rfl rfl rfl rfl rfl rfl)

theorem placeAnnouncement {id : Nat} (h : Accords a s) : Accords a (placeAnnouncement id b st s) :=
  h.placeOrWait (by simp)

theorem requeueMoved {m : Announcement} (h : Accords a s) : Accords a (requeueMoved m s) := by
  unfold Machine.requeueMoved
  split
  · exact h.setAnnouncementWait.placeAnnouncement
  · exact h.dropAnnouncement

/-! ## Contention, acceptance, commitment -/

theorem contendFor (h : Accords a s) : Accords a (contendFor i s) := by
  unfold Machine.contendFor
  split
  · exact h.setPlace
  · exact h

theorem dropAcceptance (h : Accords a s) : Accords a (dropAcceptance s) := by
  unfold Machine.dropAcceptance
  split
  case h_2 => exact h
  case h_1 =>
    have dropped : Accords a { s with line := { s.line with acc := none, refuse := false } } := h.dropAcc rfl rfl
    dsimp only
    split
    · exact dropped.setSlot.askFreeze
    · exact dropped.askFreeze

theorem winTurn (h : Accords a s) : Accords a (winTurn i s) := by
  have won : Accords a (Machine.mapSend i.id SendItem.won s) := h.mapSend fun _ => rfl
  unfold Machine.winTurn
  dsimp only
  split
  · exact dropAcceptance (won.quiet (.of_eq rfl rfl rfl rfl rfl rfl rfl rfl rfl))
  · exact won.quiet (.of_eq rfl rfl rfl rfl rfl rfl rfl rfl rfl)

theorem lost_owner (i : SendItem) : i.lost.owner = i.owner := by
  unfold SendItem.lost
  repeat' split
  all_goals rfl

theorem contend {rivals : List Nat} (h : Accords a s) : Accords a (contend i rivals s) := by
  unfold Machine.contend
  dsimp only
  split
  · exact h.contendFor.winTurn
  · have lost : Accords a (Machine.mapSend i.id SendItem.lost (Machine.contendFor i s)) := h.contendFor.mapSend lost_owner
    exact lost.quiet (.of_eq rfl rfl rfl rfl rfl rfl rfl rfl rfl)

theorem releaseRefuse (h : Accords a s) : Accords a (releaseRefuse s) :=
  h.quiet (.of_eq rfl rfl rfl rfl rfl rfl rfl rfl rfl)

theorem refuseFrame (h : Accords a s) : Accords a (refuseFrame s) :=
  h.quiet (.of_eq rfl rfl rfl rfl rfl rfl rfl rfl rfl)

/-- A frame whose checks pass is held: a DISPATCH is of a block viewed HOME, and 3 places are free for it (R127, R136). -/
theorem hold {l : LineEngine} {slot : Option Nat} (h : Accords a s) (checks : kindChecks f s = true)
    (acc : l.acc = some ⟨f, slot, f.isDispatch⟩) (sendq : l.sendq = s.line.sendq) : Accords a { s with line := l } where
  store := h.store
  station := h.station
  ok := h.ok
  entries ok kept := ⟨sendq ▸ (h.entries ok kept).sent, (h.entries ok kept).asked⟩
  room ok room := by
    have used := (h.room ok room).used
    refine ⟨?_, fun y is d => ?_⟩
    · change State.used _ ≤ 96
      cases dispatch : f.isDispatch with
      | false =>
        simp only [State.used_eq, acc, dispatch, Acceptance.places, Bool.false_eq_true, if_false] at *
        omega
      | true =>
        have free : 3 ≤ freePlaces s := by
          unfold Frame.isDispatch at dispatch
          unfold kindChecks at checks
          split at dispatch
          · rename_i d body
            rw [body] at checks
            simp only [dispatchTakeable, Bool.and_eq_true, decide_eq_true_eq] at checks
            exact checks.2
          · cases dispatch
        rw [freePlaces_eq] at free
        simp only [State.used_eq, acc, dispatch, Acceptance.places, if_true] at *
        omega
    · have is : l.acc = some y := is
      rw [acc] at is
      cases is
      exact d
  agrees agrees b v need := by
    have agrees := h.agrees agrees
    cases need with
    | engine need => exact agrees b v (.engine need)
    | taken takes =>
      cases takes with
      | inbound mem dir block => exact agrees b _ (.taken (.inbound mem dir block))
      | @accepted y d b is body block =>
        have is : l.acc = some y := is
        rw [acc] at is
        cases is
        have body : f.body = .dispatch d := body
        simp only [kindChecks, body, dispatchTakeable, block, Bool.and_eq_true, beq_iff_eq] at checks
        exact checks.1.2

theorem holdFrame (h : Accords a s) (checks : kindChecks f s = true) : Accords a (holdFrame f s) := by
  unfold Machine.holdFrame
  split
  · exact h.hold checks rfl rfl
  · exact h.hold checks rfl rfl

theorem acceptFrame {octets : List Nat} {other : Bool} (h : Accords a s) : Accords a (acceptFrame octets other s) := by
  unfold Machine.acceptFrame
  split
  · exact h.refuseFrame
  · split
    · exact h.releaseRefuse
    · split
      case isTrue => exact h.refuseFrame
      case isFalse checks =>
        split
        · exact h.releaseRefuse
        · exact h.holdFrame (by simpa using checks)

theorem commitFrame {y : Acceptance} (h : Accords a s) (acc : s.line.acc = some y) : Accords a (commitFrame y k s) := by
  have dropped : Accords a { s with line := { s.line with acc := none } } := h.dropAcc rfl rfl
  have slotted : ∀ sl, Accords a (Machine.setSlot k sl { s with line := { s.line with acc := none } }) :=
    fun _ => dropped.setSlot
  unfold Machine.commitFrame
  split
  case h_1 d body =>
    unfold Machine.takeDispatch
    split
    · exact dropped.setSlot.postNotice
    · exact dropped.setSlot.takeAbandon
    · exact h.enterInbound acc body
  case h_2 => exact (slotted (.processing s.line.nextAge y.frame false)).quiet (.of_eq rfl rfl rfl rfl rfl rfl rfl rfl rfl)
  case h_3 =>
    exact beginStream ((slotted (.full s.line.nextAge y.frame)).quiet (.of_eq rfl rfl rfl rfl rfl rfl rfl rfl rfl))

theorem pushClear {n : Nat} (h : Accords a s) : Accords a (pushClear n s) := Accords.pushFrame h (by simp)

theorem endTurn (h : Accords a s) : Accords a (endTurn s) := h.quiet (.of_eq rfl rfl rfl rfl rfl rfl rfl rfl rfl)

/-! ## Delivered and undelivered frames (R138, R143, R144) -/

theorem reqDelivered (h : Accords a s) : Accords a (reqDelivered c s) := by
  unfold Machine.reqDelivered
  split
  case h_2 => exact h
  case h_1 run =>
    split
    · exact h.setRun run (by exact id)
    · exact h

theorem handoverDelivered (h : Accords a s) : Accords a (handoverDelivered f s) := by
  unfold Machine.handoverDelivered
  repeat' split
  · exact h.streamDelivered
  · exact h.queryEnded
  · exact h.homeDelivered
  · exact h
  · exact h

theorem reportDelivered (h : Accords a s) : Accords a (reportDelivered i s) := by
  unfold Machine.reportDelivered
  split
  · exact h.reqDelivered
  · exact h.dropEntry
  · exact h.dropAnnouncement
  · exact h.handoverDelivered
  · exact h.queueDayAgain
  · exact h
  · exact h
  · exact h

theorem openWindow (h : Accords a s) : Accords a (openWindow b s) := h.quiet (.of_eq rfl rfl rfl rfl rfl rfl rfl rfl rfl)

theorem frameDelivered (h : Accords a s) : Accords a (frameDelivered i s) := by
  unfold Machine.frameDelivered
  split
  · exact h.openWindow
  · exact h.dropSend.endTurn.reportDelivered.walk

theorem reportAttempt (h : Accords a s) : Accords a (reportAttempt i s) := by
  unfold Machine.reportAttempt
  repeat' split
  · rename_i run
    exact h.setRun run (by exact id)
  · exact h
  · exact h

theorem reqReturned (h : Accords a s) : Accords a (reqReturned c s) := by
  unfold Machine.reqReturned
  repeat' split
  · exact h.endOffer
  · exact h.endTransaction
  · exact h

theorem handoverReturned (h : Accords a s) : Accords a (handoverReturned f s) := by
  unfold Machine.handoverReturned
  split
  · exact h.streamReturned
  · exact h.queryEnded
  · exact h

/-- A DISPATCH frame returned is that of an OUTBOUND entry (R125). -/
theorem returnFrame {res : SendResult} (h : Accords a s)
    (sent : a.queue.ok → a.EntriesKept → ∀ id, i.owner = .entry id → s.outbound id) :
    Accords a (returnFrame i res s) := by
  unfold Machine.returnFrame
  split
  · exact h.reqReturned
  · rename_i id owner
    exact h.entryFailed fun ok kept => sent ok kept id owner
  · split
    · exact h.queueDayAgain
    · exact h.setRequeueWait.queueDayAgain
  · exact h.censusEnded
  · split
    · exact h.dropAnnouncement
    · exact h.setAnnouncementWait
  · exact h.handoverReturned
  · exact h
  · exact h

theorem retryFrame (h : Accords a s) : Accords a (retryFrame i s) := by
  have again : Accords a (Machine.mapSend i.id SendItem.retried s) := h.mapSend fun _ => rfl
  unfold Machine.retryFrame
  dsimp only
  split
  · exact again.setAgain.carryDay
  · exact again

theorem reportAttempt_queue (i : SendItem) (s : State) : (Machine.reportAttempt i s).queue = s.queue := by
  unfold Machine.reportAttempt Machine.setRun
  repeat' split
  all_goals rfl

theorem attemptFailed {res : SendResult} (h : Accords a s) (mem : i ∈ s.line.sendq) : Accords a (attemptFailed i res s) := by
  have reported : Accords a (Machine.reportAttempt i (Machine.endTurn s)) := h.endTurn.reportAttempt
  have queue : (Machine.dropSend i.id (Machine.reportAttempt i (Machine.endTurn s))).queue = s.queue := reportAttempt_queue i _
  unfold Machine.attemptFailed
  dsimp only
  split
  · refine walk (reported.dropSend.returnFrame fun ok kept id owner e he own => ?_)
    rw [queue] at he
    exact ((h.entries ok kept).sent i mem id owner).2 e he own
  · exact reported.retryFrame.walk

end Accords

end Sys2Proof.Machine
end
section
/-! PROOFS. The commands of the part that change no record: what each keeps of the dispatch queue, its capacity and the
views (O5). -/

namespace Sys2Proof.Machine

variable {a s : State}

theorem mem_of_sending {i : SendItem} (h : sending s = some i) : i ∈ s.line.sendq := by
  unfold sending at h
  split at h
  · exact List.mem_of_find?_eq_some h
  · cases h

namespace Accords

variable {b : Block} {st k age c : Nat} {f : Frame} {i : SendItem}

theorem frameUndelivered {res : SendResult} (h : Accords a s) (mem : i ∈ s.line.sendq) (other : i.isClear = false) :
    Accords a (frameUndelivered i res s) := by
  have withdrawn : Accords a (if res = .cleared then Machine.withdrawClear s else s) ∧
      i ∈ (if res = .cleared then Machine.withdrawClear s else s).line.sendq := by
    split
    · exact ⟨h.withdrawClear, List.mem_filter.2 ⟨mem, by simp [other]⟩⟩
    · exact ⟨h, mem⟩
  unfold Machine.frameUndelivered
  dsimp only
  split
  · exact withdrawn.1.openWindow
  · exact withdrawn.1.attemptFailed withdrawn.2

/-! ## REQ and ANS in the slots (R146, R147, R111) -/

theorem processReq {q : Query} (h : Accords a s) : Accords a (processReq k age f q s) := by
  unfold Machine.processReq
  split
  · dsimp only
    split
    · exact h.stopWaiting.setSlot.askReq
    · exact h.stopWaiting.setSlot
    · exact h.stopWaiting.setSlot
  · exact h.waitForPlace

theorem takeMatched {r : Run} {x : Ans} (h : Accords a s) : Accords a (takeMatched r x s) := by
  unfold Machine.takeMatched
  split
  · exact h.takeOfferAnswer
  · exact h.takeAnswer

theorem processAns {x : Ans} (h : Accords a s) : Accords a (processAns k age f x s) := by
  unfold Machine.processAns
  split
  · exact h.takeMatched.freeSlot
  · exact h.takeLate fun _ => le_rfl

theorem takeExchange {x : Ans} (h : Accords a s) : Accords a (takeExchange x s) := by
  unfold Machine.takeExchange
  split
  · exact h.takeDecision
  · exact h

theorem answerOffer {src serial : Nat} {r : CtxRef} {n : Counts} (h : Accords a s) :
    Accords a (answerOffer k src r b serial n s) := by
  unfold Machine.answerOffer
  dsimp only
  split
  · exact h.placeAns (by simp)
  · rename_i passes
    refine (h.acceptOffer fun home => ?_).placeAns (by simp)
    unfold offerRefusal at passes
    split at passes
    · cases passes
    · simp at passes

theorem answerQuery {src serial : Nat} {r : CtxRef} (h : Accords a s) : Accords a (answerQuery k src r b serial s) :=
  h.placeAns (by simp)

theorem deliverAnswer {x : StepAnswer} (h : Accords a s) : Accords a (deliverAnswer x s) := by
  unfold Machine.deliverAnswer
  repeat' split
  · exact h.takeAnswer
  · exact h.placeAns (by simp)
  · exact h
  · exact h

/-! ## Freed send places (R133) -/

theorem offerPlace {w : Waiter} (h : Accords a s) : Accords a (offerPlace s w) := by
  unfold Machine.offerPlace
  split
  · split
    · split
      · split
        · exact h.sendOffer
        · exact h.stopWaiting
      · split
        · exact h.placeOrWait (by simp)
        · exact h.stopWaiting
    · exact h.stopWaiting
  · exact h.walk
  · exact h.queueDay
  · exact h.placeOrWait (by simp)
  · exact h.placeAnnouncement
  · split
    · split
      · split
        · exact h.processReq
        · exact h.beginStream
      · exact h.stopWaiting
    · exact h.stopWaiting
  · split
    · rename_i g hand
      split
      · exact h.streamOn
      · rename_i phase
        exact h.sendQuery hand (by rw [phase]; rfl)
      · exact h.stopWaiting
    · exact h.stopWaiting

theorem offerPlaces (h : Accords a s) : Accords a (offerPlaces s) := foldl (fun _ _ h => h.offerPlace) _ h

/-! ## The census window -/

theorem confirmAlone {own : Option ClaimKind} {others : List Claim} (h : Accords a s) :
    Accords a (confirmAlone b own others s) := by
  unfold Machine.confirmAlone
  split
  · exact h.endConfirming
  · exact h

theorem windowEnds {w : Window} {own : Option ClaimKind} {claims : List Claim} (h : Accords a s) :
    Accords a (windowEnds w own claims s) := by
  have closed : Accords a { s with line := { s.line with window := none } } :=
    h.quiet (.of_eq rfl rfl rfl rfl rfl rfl rfl rfl rfl)
  unfold Machine.windowEnds
  dsimp only
  split
  · split
    · exact closed.dropSend.endTurn.observeProbe.confirmAlone.censusEnded.walk
    · exact closed.observeProbe.confirmAlone.censusEnded.walk
  · split
    · exact closed.freeSlot.observeProbe.confirmAlone.walk
    · exact closed.observeProbe.confirmAlone.walk

/-! ## The drain limit (R160) -/

theorem drainEnds {g : Giving} {l : Bool} (h : Accords a s) (hand : s.hand = .giving g) (phase : g.phase = .draining l) :
    Accords a (drainEnds g s) := by
  unfold Machine.drainEnds
  split
  · exact h.endTransaction.setHand_idle.withdrawFreeze
  · refine h.setHand (fun agrees b v need => ?_) ?_
    · obtain ⟨rfl, rfl⟩ := Handover.needs_of_draining (l := false) rfl need
      exact agrees _ _ (.engine (hand ▸ Handover.Needs.draining phase))
    · rw [hand]
      simp [Handover.reservedEntries, phase]

/-! ## The kiosk port (chapter 10) -/

theorem replied {r : Reply} (h : Accords a s) : Accords a (replied r s) :=
  h.quiet (.of_eq rfl rfl rfl rfl rfl rfl rfl rfl rfl)

theorem portAnswer {tag kind : Nat} {o : OutcomeCode} {why : Option Reason} {v : PortValues} (h : Accords a s) :
    Accords a (portAnswer tag kind o why v s) := h.replied

theorem endExchange (h : Accords a s) : Accords a (endExchange s) :=
  h.quiet (.of_eq rfl rfl rfl rfl rfl rfl rfl rfl rfl)

theorem takeOutAnswer (h : Accords a s) : Accords a (takeOutAnswer c s) := by
  unfold Machine.takeOutAnswer
  split
  case h_2 => exact h
  case h_1 g x found =>
    have free : Accords a (Machine.setCtx c ⟨g, .free⟩ s) := h.setCtx nofun
    exact (free.replied (r := .transaction c g x)).quiet (.of_eq rfl rfl rfl rfl rfl rfl rfl rfl rfl)

theorem completeAnswer {held : Option Nat} (h : Accords a s) : Accords a (completeAnswer held s) := by
  unfold Machine.completeAnswer
  split
  · exact h.endExchange.takeOutAnswer
  · exact h.endExchange.replied

theorem completeNotice {held : Option Notice} (h : Accords a s) : Accords a (completeNotice held s) := by
  unfold Machine.completeNotice
  split
  · rename_i n
    exact (h.endExchange.replied (r := .notice n)).quiet (.of_eq rfl rfl rfl rfl rfl rfl rfl rfl rfl)
  · exact h.endExchange.replied

theorem takeConfiguration {x : Configuration} (h : Accords a s) : Accords a (takeConfiguration x s) where
  store := h.store
  station on := by
    have := h.station on
    unfold onLine at this ⊢
    unfold Machine.takeConfiguration
    dsimp only
    split
    · rename_i new
      rw [new.1] at this
      cases this
    · exact this
  ok := h.ok
  entries ok kept := ⟨(h.entries ok kept).sent, (h.entries ok kept).asked⟩
  room ok room := ⟨(h.room ok room).used, (h.room ok room).held⟩
  agrees agrees := (h.agrees agrees).same rfl rfl rfl rfl

theorem configure {tag : Nat} {p : Piece} (h : Accords a s) : Accords a (configure tag p s) := by
  unfold Machine.configure
  repeat' split
  · exact h.portAnswer
  · exact h.portAnswer
  · exact h.portAnswer
  · exact h.portAnswer
  · exact h.takeConfiguration.portAnswer

theorem advanceDay {tag d : Nat} (h : Accords a s) : Accords a (advanceDay tag d s) := by
  unfold Machine.advanceDay
  split
  · exact h.adoptDay.queueDay.portAnswer
  · exact h.portAnswer

theorem readStatus (h : Accords a s) : Accords a (readStatus s) :=
  h.quiet (.of_eq rfl rfl rfl rfl rfl rfl rfl rfl rfl)

theorem readFault {tag : Nat} (h : Accords a s) : Accords a (readFault tag s) :=
  h.quiet (.of_eq rfl rfl rfl rfl rfl rfl rfl rfl rfl)

end Accords

end Sys2Proof.Machine
end
section
/-! PROOFS. The commands that apply nothing to the records: what each keeps of the dispatch queue, its capacity and the
views (O5). -/

namespace Sys2Proof.Machine

/-- What holds of the state that an outcome leaves. -/
def leaves (p : State → Prop) (o : Outcome) : Prop := ∀ t, o = .next t → p t

/-- The state that a command leaves accords with its own. -/
abbrev accords (s : State) : Outcome → Prop := leaves (Accords s)

variable {s u : State}

theorem accords_turnedAway (s : State) : accords s (turnedAway s) := by
  rintro _ ⟨⟩
  rfl

theorem accords_finish (h : Accords s u) : accords s (finish u) := by
  rintro _ ⟨⟩
  exact h.refreshAttention

/-! ## The kiosk port -/

section Port

variable {tag kind c : Nat} {f : Framing} {q : Request}

theorem accords_submit {inRange : Bool} {start : Nat → State → State}
    (starts : ∀ c u, Accords s u → Accords s (start c u)) : accords s (submit tag kind f inRange q start s) := by
  unfold submit
  repeat' split
  · exact accords_turnedAway s
  · exact accords_finish (Accords.refl s).portAnswer
  · exact accords_finish (Accords.refl s).portAnswer
  · exact accords_finish (Accords.refl s).portAnswer
  · exact accords_finish (starts _ _ (Accords.refl s).takeCtx.replied)

theorem accords_request {inRange : Bool} : accords s (submit tag kind f inRange q resolveStep s) :=
  accords_submit fun _ _ h => h.resolveStep

theorem accords_handOver {inRange : Bool} {b : Block} {t : Nat} :
    accords s (submit tag kind f inRange q (fun c => startHandover c b t) s) :=
  accords_submit fun _ _ h => h.startHandover

theorem accords_submitLocal {online : Bool} {done : State → State} (h : Accords s (done s)) :
    accords s (submitLocal tag kind f online done s) := by
  unfold submitLocal
  repeat' split
  · exact accords_turnedAway s
  · exact accords_finish (Accords.refl s).portAnswer
  · exact accords_finish (Accords.refl s).portAnswer
  · exact accords_finish h

theorem accords_unknownCommand (u : UnknownOctet) : accords s (execUnknownCommand u s) := by
  unfold execUnknownCommand
  repeat' split
  · exact accords_turnedAway s
  · exact accords_finish (Accords.refl s).replied
  · exact accords_finish (Accords.refl s).portAnswer

theorem accords_exchangeCutShort (command : PortCommand) : accords s (execExchangeCutShort command s) := by
  unfold execExchangeCutShort
  split
  · exact accords_finish (.refl s)
  · exact accords_finish (Accords.refl s).endExchange
  · exact accords_finish (Accords.refl s).endExchange
  · exact accords_turnedAway s

theorem accords_readAnswer (part : ReadPart) : accords s (execReadAnswer part s) := by
  unfold execReadAnswer
  split
  · exact accords_finish ((Accords.refl s).quiet (.of_eq rfl rfl rfl rfl rfl rfl rfl rfl rfl))
  · exact accords_finish (Accords.refl s).completeAnswer
  · exact accords_finish (Accords.refl s).completeAnswer
  · exact accords_turnedAway s

theorem accords_readNotice (part : ReadPart) : accords s (execReadNotice part s) := by
  unfold execReadNotice
  split
  · exact accords_finish ((Accords.refl s).quiet (.of_eq rfl rfl rfl rfl rfl rfl rfl rfl rfl))
  · exact accords_finish (Accords.refl s).completeNotice
  · exact accords_finish (Accords.refl s).completeNotice
  · exact accords_turnedAway s

theorem accords_readStatus : accords s (execReadStatus s) := by
  unfold execReadStatus
  split
  · exact accords_turnedAway s
  · exact accords_finish (Accords.refl s).readStatus

theorem accords_setMasks (masks : BitVec 8) : accords s (execSetMasks masks s) := by
  unfold execSetMasks
  repeat' split
  · exact accords_turnedAway s
  · exact accords_finish (Accords.refl s).replied
  · exact accords_finish ((Accords.refl s).quiet (.of_eq rfl rfl rfl rfl rfl rfl rfl rfl rfl))

end Port

/-! ## The line -/

theorem accords_contention (rivals : List Nat) : accords s (execContention rivals s) := by
  unfold execContention
  repeat' split
  · exact accords_finish (Accords.refl s).contend
  · exact accords_turnedAway s
  · exact accords_turnedAway s

theorem accords_holdFell : accords s (holdFell s) := by
  unfold holdFell
  split
  · exact accords_finish (Accords.refl s).releaseRefuse
  · exact accords_turnedAway s

theorem accords_frameAcceptance (octets : List Octet) (other : Bool) : accords s (execFrameAcceptance octets other s) := by
  unfold execFrameAcceptance
  repeat' split
  · exact accords_turnedAway s
  · exact accords_finish (Accords.refl s).dropAcceptance.withdrawClear
  · exact accords_finish (Accords.refl s).acceptFrame
  · exact accords_holdFell

theorem accords_frameCommit : accords s (execFrameCommit s) := by
  unfold execFrameCommit
  repeat' split
  · exact accords_turnedAway s
  · rename_i acc _ _ _ _
    exact accords_finish ((Accords.refl s).commitFrame acc)
  · exact accords_turnedAway s
  · exact accords_holdFell

theorem accords_clear (st : Nat) : accords s (execClear st s) := by
  unfold execClear
  split
  · exact accords_finish (Accords.refl s).dropAcceptance.withdrawClear
  · exact accords_holdFell

theorem accords_holdLimit : accords s (execHoldLimit s) := by
  unfold execHoldLimit
  repeat' split
  · exact accords_turnedAway s
  · exact accords_finish ((Accords.refl s).pushClear.quiet (.of_eq rfl rfl rfl rfl rfl rfl rfl rfl rfl))
  · exact accords_turnedAway s

theorem accords_clearGuard : accords s (execClearGuard s) := by
  unfold execClearGuard
  repeat' split
  · exact accords_turnedAway s
  · exact accords_finish (Accords.refl s).pushClear
  · exact accords_turnedAway s

theorem accords_frameDelivered : accords s (execFrameDelivered s) := by
  unfold execFrameDelivered
  repeat' split
  · exact accords_turnedAway s
  · exact accords_finish (Accords.refl s).frameDelivered
  · exact accords_turnedAway s

theorem accords_frameUndelivered (result : SendResult) : accords s (execFrameUndelivered result s) := by
  unfold execFrameUndelivered
  repeat' split
  · exact accords_turnedAway s
  · rename_i i sent guard
    refine accords_finish ((Accords.refl s).frameUndelivered (mem_of_sending sent) ?_)
    cases own : i.isClear
    · rfl
    · simp [own] at guard
  · exact accords_turnedAway s

theorem accords_sendPlaceFreed : accords s (execSendPlaceFreed s) :=
  accords_finish (Accords.refl s).offerPlaces.beginStream.walk

theorem accords_censusLane : accords s (execCensusLane s) := by
  unfold execCensusLane
  repeat' split
  · exact accords_finish ((Accords.refl s).quiet (.of_eq rfl rfl rfl rfl rfl rfl rfl rfl rfl))
  · exact accords_turnedAway s
  · exact accords_turnedAway s

theorem accords_censusWindowEnd (claims : List Claim) : accords s (execCensusWindowEnd claims s) := by
  unfold execCensusWindowEnd
  repeat' split
  · exact accords_finish (Accords.refl s).windowEnds
  · exact accords_turnedAway s
  · exact accords_turnedAway s

theorem accords_dispatchPlacesFreed : accords s (execDispatchPlacesFreed s) :=
  accords_finish (Accords.refl s).dispatchPlacesFreed

/-! ## The frame at the head of the slots -/

theorem accords_dayFrame : accords s (execDayFrame s) := by
  unfold execDayFrame
  repeat' split
  · exact accords_finish (Accords.refl s).takeDay.freeSlot
  · exact accords_turnedAway s
  · exact accords_turnedAway s

theorem accords_reqProcessing : accords s (execReqProcessing s) := by
  unfold execReqProcessing
  repeat' split
  · exact accords_finish (Accords.refl s).processReq
  · exact accords_turnedAway s
  · exact accords_turnedAway s

theorem accords_ansProcessing : accords s (execAnsProcessing s) := by
  unfold execAnsProcessing
  repeat' split
  · exact accords_turnedAway s
  · exact accords_finish (Accords.refl s).processAns
  · exact accords_turnedAway s
  · exact accords_turnedAway s

theorem accords_lateAnsRetry : accords s (execLateAnsRetry s) := by
  unfold execLateAnsRetry
  split
  · exact accords_finish ((Accords.refl s).retryLate fun _ => lateRoom_le s)
  · exact accords_turnedAway s

theorem accords_movedFrame : accords s (execMovedFrame s) := by
  unfold execMovedFrame
  repeat' split
  · exact accords_finish (Accords.refl s).takeMoved.freeSlot
  · exact accords_turnedAway s
  · exact accords_turnedAway s

theorem accords_lastDecision : accords s (execLastDecision s) := by
  unfold execLastDecision
  repeat' split
  · exact accords_finish (Accords.refl s).takeExchange.freeSlot
  · exact accords_turnedAway s
  · exact accords_turnedAway s
  · exact accords_turnedAway s

theorem accords_offer : accords s (execOffer s) := by
  unfold execOffer
  repeat' split
  · exact accords_finish (Accords.refl s).answerOffer
  · exact accords_turnedAway s
  · exact accords_turnedAway s

theorem accords_blockQuery : accords s (execBlockQuery s) := by
  unfold execBlockQuery
  repeat' split
  · exact accords_finish (Accords.refl s).answerQuery
  · exact accords_turnedAway s
  · exact accords_turnedAway s

/-! ## Timers -/

theorem accords_dayRequeueWait : accords s (execDayRequeueWait s) := by
  unfold execDayRequeueWait
  split
  · exact accords_finish (Accords.refl s).setRequeueWait.queueDay
  · exact accords_turnedAway s

theorem accords_answerLimit (c : Nat) : accords s (execAnswerLimit c s) := by
  unfold execAnswerLimit
  repeat' split
  · exact accords_finish (Accords.refl s).endOffer
  · exact accords_finish (Accords.refl s).endTransaction
  · exact accords_turnedAway s
  · exact accords_turnedAway s

theorem accords_deferralWait (c : Nat) : accords s (execDeferralWait c s) := by
  unfold execDeferralWait
  repeat' split
  · exact accords_finish (Accords.refl s).resumeStep
  · exact accords_turnedAway s
  · exact accords_turnedAway s

theorem accords_movedRequeueWait (b : Block) : accords s (execMovedRequeueWait b s) := by
  unfold execMovedRequeueWait
  split
  · exact accords_finish (Accords.refl s).requeueMoved
  · exact accords_turnedAway s

theorem accords_probeRetryWait : accords s (execProbeRetryWait s) := by
  unfold execProbeRetryWait
  repeat' split
  · refine accords_finish (Accords.askCensus ?_)
    exact (Accords.refl s).quiet (.of_eq rfl rfl rfl rfl rfl rfl rfl rfl rfl)
  · exact accords_turnedAway s
  · exact accords_turnedAway s

theorem accords_retryTick : accords s (execRetryTick s) := by
  unfold execRetryTick
  split
  · exact accords_finish (Accords.refl s).retryTick
  · exact accords_turnedAway s

theorem accords_drainLimit : accords s (execDrainLimit s) := by
  unfold execDrainLimit
  repeat' split
  · rename_i hand phase
    exact accords_finish ((Accords.refl s).drainEnds hand phase)
  · exact accords_turnedAway s
  · exact accords_turnedAway s

theorem accords_decisionLimit : accords s (execDecisionLimit s) := by
  unfold execDecisionLimit
  split
  · rename_i g hand
    split
    · rename_i phase
      exact accords_finish ((Accords.refl s).sendQuery hand (by rw [phase]; rfl))
    · rename_i phase
      exact accords_finish ((Accords.refl s).sendQuery hand (by rw [phase]; rfl))
    · exact accords_turnedAway s
  · exact accords_turnedAway s

theorem accords_blockQueryRetry : accords s (execBlockQueryRetry s) := by
  unfold execBlockQueryRetry
  split
  · rename_i g hand
    split
    · rename_i phase
      exact accords_finish ((Accords.refl s).sendQuery hand (by rw [phase]; rfl))
    · exact accords_turnedAway s
  · exact accords_turnedAway s

theorem accords_idleLimit : accords s (execIdleLimit s) := by
  unfold execIdleLimit
  split
  · rename_i r hand
    split
    · rename_i phase
      exact accords_finish ((Accords.refl s).discardBlock hand phase)
    · exact accords_turnedAway s
  · exact accords_turnedAway s

theorem accords_confirmationCensusWait : accords s (execConfirmationCensusWait s) := by
  unfold execConfirmationCensusWait
  split
  · rename_i r hand
    split
    · rename_i phase
      exact accords_finish (((Accords.refl s).setConfirming hand phase).askCensus)
    · exact accords_turnedAway s
  · exact accords_turnedAway s

/-- HANDOVER_FREEZE changes no record (R161). -/
theorem accords_handoverFreeze : accords s (execHandoverFreeze s) := by
  unfold execHandoverFreeze
  split
  · exact accords_finish (Accords.refl s).freeze.endGrant
  · exact accords_turnedAway s

end Sys2Proof.Machine
end
section
/-! PROOFS. How many dispatches an operation or a dispatch on a settled title causes, with its settle: at most 3, and the
title is settled again (R32, R44; O5). -/

namespace Sys2Proof.Machine

/-- A title with no two copies of an item (R28) and no two entries of a patron (R29). -/
structure Title.Distinct (t : Title) : Prop where
  items : (t.copies.map CopyRef.item).Nodup
  patrons : (t.holds.map HoldEntry.patron).Nodup

/-- The number of copies in SHELF. -/
def Title.shelf (t : Title) : Nat := t.copies.countP CopyRef.onShelf

theorem Title.waiting_eq_zero {t : Title} : t.waiting = 0 ↔ t.oldestWaiting = none := by
  simp [Title.waiting, Title.oldestWaiting, List.countP_eq_zero]

/-- A settled title, told by its counts. -/
theorem Title.settled_iff {t : Title} :
    t.Settled ↔ t.Distinct ∧ (t.waiting = 0 ∨ t.shelf = 0) ∧ t.trapped = min t.waiting t.loans := by
  rw [Title.waiting_eq_zero, Title.shelf, ← Title.shelfCopy_eq_none]
  exact ⟨fun h => ⟨⟨h.items, h.patrons⟩, h.balanced⟩, fun ⟨d, b⟩ => ⟨b, d.items, d.patrons⟩⟩

/-- A settled title is settled as it is written. -/
theorem Title.Settled.sealed {t : Title} (h : t.Settled) : t.sealed.Settled := by
  obtain ⟨distinct, shelf, trapped⟩ := Title.settled_iff.1 h
  have copies : ∀ p : CopyRef → Bool, (∀ c, p { c with check := .agrees } = p c) →
      t.sealed.copies.countP p = t.copies.countP p := fun p same => by
    simp only [Title.sealed, List.countP_map, Function.comp_def, same]
  have waiting : t.sealed.waiting = t.waiting := by
    simp only [Title.waiting, Title.sealed, List.countP_map]
    rfl
  have loans : t.sealed.loans = t.loans := copies _ fun _ => rfl
  have traps : t.sealed.trapped = t.trapped := copies _ fun _ => rfl
  have shelves : t.sealed.shelf = t.shelf := copies _ fun _ => rfl
  refine Title.settled_iff.2 ⟨⟨?_, ?_⟩, by rwa [waiting, shelves], by rwa [waiting, loans, traps]⟩
  · have : t.sealed.copies.map CopyRef.item = t.copies.map CopyRef.item := by simp [Title.sealed, Function.comp_def]
    exact this ▸ distinct.items
  · have : t.sealed.holds.map HoldEntry.patron = t.holds.map HoldEntry.patron := by
      simp [Title.sealed, Function.comp_def]
    exact this ▸ distinct.patrons

/-! ## The dispatches of a settle, counted (R33, R34) -/

section Settle

variable {t : Title}

/-- A settle sends an ALLOCATE to each pair, and a TRAP or UNTRAP to each loan that the trapped count is off. -/
theorem settle_count (n : Nat) (h : t.Distinct) :
    (settle n t).2.length = min t.waiting t.shelf + ((min (t.waiting - min t.waiting t.shelf) t.loans - t.trapped) +
      (t.trapped - min (t.waiting - min t.waiting t.shelf) t.loans)) := by
  have pairs : t.pairs.length = min t.waiting t.shelf := by
    rw [Title.pairs, List.length_zip, Title.waiting_eq, Title.shelf, List.countP_eq_length_filter]
    rfl
  have waiting := Title.waiting_shelved h.items h.patrons
  have loans : t.shelved.loans = t.loans := by
    simp only [Title.loans, List.countP_eq_length_filter, Title.loans_shelved CopyRef.onLoan (fun _ k => k) h.items]
  have trapped : t.shelved.trapped = t.trapped := by
    simp only [Title.trapped, List.countP_eq_length_filter,
      Title.loans_shelved CopyRef.isTrapped (fun _ k => CopyRef.onLoan_of_isTrapped k) h.items]
  have target : t.shelved.trapTarget = min (t.waiting - min t.waiting t.shelf) t.loans := by
    rw [Title.trapTarget, waiting, loans, pairs]
  obtain ⟨mark, k, gap, enough, off⟩ := t.shelved.gap_exists
  obtain ⟨cs, marks⟩ := settleTraps_marks (t := t.shelved) (Title.shelved_items h.items) gap enough
  rw [settle_steps n h.items h.patrons, marks.dispatches]
  simp only [List.length_append, List.length_map, pairs, marks.length, off]
  rw [← target, ← trapped]
  unfold Title.gap at gap
  cases mark <;> simp only [Bool.false_eq_true, if_true, if_false] at gap ⊢ <;> omega

/-- A title with distinct items and patrons is settled by the settle. -/
theorem Title.Distinct.settled (n : Nat) (h : t.Distinct) : (settle n t).1.Settled := by
  obtain ⟨balanced, items, patrons⟩ := settle_balanced n h.items
  exact ⟨balanced, items ▸ h.items, patrons ▸ h.patrons⟩

/-- A change of a title that is settled after it: its dispatches and those of the settle are at most 3. -/
structure TitleChange.Fits (c : TitleChange) : Prop where
  distinct : c.1.Distinct
  few : ∀ n, c.2.length + (settle n c.1).2.length ≤ 3

theorem TitleChange.Fits.settled {c : TitleChange} (h : c.Fits) (n : Nat) :
    (TitleChange.settled n c).1.Settled ∧ (TitleChange.settled n c).2.length ≤ 3 :=
  ⟨h.distinct.settled n, by simpa [TitleChange.settled] using h.few n⟩

/-- A change fits, told by the counts it leaves. -/
theorem TitleChange.Fits.of_counts {c : TitleChange} (distinct : c.1.Distinct)
    (few : c.2.length + (min c.1.waiting c.1.shelf +
      ((min (c.1.waiting - min c.1.waiting c.1.shelf) c.1.loans - c.1.trapped) +
        (c.1.trapped - min (c.1.waiting - min c.1.waiting c.1.shelf) c.1.loans))) ≤ 3) : c.Fits :=
  ⟨distinct, fun n => by rw [settle_count n distinct]; exact few⟩

end Settle

/-! ## What each change of a title does to the counts -/

section Changes

variable {t : Title} {p item : Nat}

theorem Title.Distinct.setEntry (h : t.Distinct) (p : Nat) (st : HoldState) : (t.setEntry p st).Distinct :=
  ⟨h.items, by simpa using h.patrons⟩

theorem Title.Distinct.setCopy (h : t.Distinct) (item : Nat) (v : CopyView) : (t.setCopy item v).Distinct :=
  ⟨by simpa using h.items, h.patrons⟩

theorem Title.Distinct.dropEntry (h : t.Distinct) (p : Nat) : (t.dropEntry p).Distinct :=
  ⟨h.items, h.patrons.sublist (List.filter_sublist.map _)⟩

theorem Title.Distinct.dropCopy (h : t.Distinct) (item : Nat) : (t.dropCopy item).Distinct :=
  ⟨h.items.sublist (List.filter_sublist.map _), h.patrons⟩

theorem Title.mem_of_entryOf {h : HoldEntry} (found : t.entryOf p = some h) : h ∈ t.holds ∧ h.patron = p :=
  ⟨List.mem_of_find?_eq_some found, by simpa using List.find?_some found⟩

theorem Title.mem_of_copyOf {c : CopyRef} (found : t.copyOf item = some c) : c ∈ t.copies ∧ c.item = item :=
  ⟨List.mem_of_find?_eq_some found, by simpa using List.find?_some found⟩

/-- A count of a list without the one element of a key. -/
theorem countP_filter_ne {α β : Type} [DecidableEq β] {f : α → β} {l : List α} (nodup : (l.map f).Nodup) {x : α}
    (hx : x ∈ l) (q : α → Bool) : (l.filter fun y => f y != f x).countP q + (q x).toNat = l.countP q := by
  induction l with
  | nil => cases hx
  | cons y l ih =>
    obtain ⟨fresh, rest⟩ := List.nodup_cons.1 nodup
    rcases List.mem_cons.1 hx with rfl | hx
    · have all : ∀ y ∈ l, (f y != f x) = true := fun y hy => by
        simpa using fun e => fresh (List.mem_map.2 ⟨y, hy, e⟩)
      simp only [List.filter_cons, bne_self_eq_false, Bool.false_eq_true, if_false, List.filter_eq_self.2 all,
        List.countP_cons]
      cases q x <;> rfl
    · have other : (f y != f x) = true := by simpa using fun e : f y = f x => fresh (e ▸ List.mem_map_of_mem hx)
      have := ih rest hx
      simp only [List.filter_cons, other, if_true, List.countP_cons]
      omega

/-- An entry that leaves the queue no longer waits. -/
theorem Title.waiting_dropEntry {h : HoldEntry} (distinct : t.Distinct) (found : t.entryOf p = some h) :
    (t.dropEntry p).waiting + h.isWaiting.toNat = t.waiting := by
  obtain ⟨mem, rfl⟩ := Title.mem_of_entryOf found
  exact countP_filter_ne distinct.patrons mem _

/-- An allocation that ends adds one WAITING entry at most. -/
theorem Title.waiting_endAllocation (distinct : t.Distinct) (q : Option Nat) :
    t.waiting ≤ (t.endAllocation q).waiting ∧ (t.endAllocation q).waiting ≤ t.waiting + 1 := by
  cases q with
  | none => exact ⟨le_rfl, Nat.le_succ _⟩
  | some p =>
    cases found : t.entryOf p with
    | none =>
      have same : (t.setEntry p .waiting).holds = t.holds := by
        refine (List.map_congr_left fun g hg => ?_).trans (List.map_id _)
        have := List.find?_eq_none.1 found g hg
        simp_all
      simp [Title.endAllocation, Title.waiting, same]
    | some h =>
      obtain ⟨mem, rfl⟩ := Title.mem_of_entryOf found
      have count := Title.countP_setEntry HoldEntry.isWaiting distinct.patrons mem .waiting
      have waits : HoldEntry.isWaiting { h with state := .waiting } = true := rfl
      have le := Bool.toNat_le h.isWaiting
      simp only [waits, Bool.toNat_true] at count
      simp only [Title.endAllocation, Title.waiting]
      omega

theorem Title.endAllocation_copies (t : Title) (q : Option Nat) : (t.endAllocation q).copies = t.copies := by
  cases q <;> rfl

theorem Title.Distinct.endAllocation (h : t.Distinct) (q : Option Nat) : (t.endAllocation q).Distinct := by
  cases q with
  | none => exact h
  | some p => exact h.setEntry p _

/-- From `t` to `u` at most one copy has left LOAN or the shelf; the entries are counted apart. -/
structure Title.TakesOff (t u : Title) : Prop where
  copies : ∃ l sh d, l + sh ≤ 1 ∧ d ≤ l ∧ u.loans + l = t.loans ∧ u.shelf + sh = t.shelf ∧ u.trapped + d = t.trapped

theorem CopyRef.loan_or_shelf (c : CopyRef) :
    c.onLoan.toNat + c.onShelf.toNat ≤ 1 ∧ c.isTrapped.toNat ≤ c.onLoan.toNat := by
  cases loan : c.onLoan with
  | true =>
    rw [CopyRef.onShelf_of_onLoan loan]
    exact ⟨le_rfl, Bool.toNat_le _⟩
  | false =>
    have untrapped : c.isTrapped = false := by
      by_contra k
      rw [CopyRef.onLoan_of_isTrapped (by simpa using k)] at loan
      cases loan
    rw [untrapped]
    exact ⟨by simpa using Bool.toNat_le c.onShelf, le_rfl⟩

/-- A copy that goes AWAY leaves LOAN or the shelf. -/
theorem Title.takesOff_away (distinct : t.Distinct) (item : Nat) (q : Option Nat) : t.TakesOff (t.setCopy item (.away q)) := by
  cases found : t.copyOf item with
  | none =>
    have same : (t.setCopy item (.away q)).copies = t.copies := by
      refine (List.map_congr_left fun c hc => ?_).trans (List.map_id _)
      have := Title.copyOf_none found c hc
      simp [this]
    exact ⟨0, 0, 0, by omega, by omega, by simp [Title.loans, same], by simp [Title.shelf, same],
      by simp [Title.trapped, same]⟩
  | some c =>
    obtain ⟨mem, rfl⟩ := Title.mem_of_copyOf found
    have count := fun f => Title.countP_setCopy f distinct.items mem (.away q)
    obtain ⟨one, trapped⟩ := c.loan_or_shelf
    exact ⟨_, _, _, one, trapped, count CopyRef.onLoan, count CopyRef.onShelf, count CopyRef.isTrapped⟩

/-- What a reassignment leaves: the oldest WAITING entry waits no more, and the copy goes AWAY with one dispatch (R36). -/
theorem reassign_counts (distinct : t.Distinct) (item : Nat) :
    (reassign item t).1.Distinct ∧ (reassign item t).2.length = 1 ∧ (reassign item t).1.waiting = t.waiting - 1 ∧
      t.TakesOff (reassign item t).1 := by
  cases waits : t.oldestWaiting with
  | none =>
    rw [reassign_none item waits]
    have none : t.waiting = 0 := Title.waiting_eq_zero.2 waits
    exact ⟨distinct.setCopy _ _, rfl, none.trans (by rw [none]), Title.takesOff_away distinct _ _⟩
  | some h =>
    rw [reassign_some item waits]
    have waiting := Title.countP_setEntry HoldEntry.isWaiting distinct.patrons (List.mem_of_find?_eq_some waits)
      (.allocated item)
    rw [show h.isWaiting = true from List.find?_some waits] at waiting
    have allocated := distinct.setEntry h.patron (.allocated item)
    obtain ⟨off⟩ := Title.takesOff_away allocated item (some h.patron)
    exact ⟨allocated.setCopy _ _, rfl, Nat.eq_sub_of_add_eq waiting, ⟨off⟩⟩

end Changes

/-! ## The rules of chapter 2 -/

section Rules

variable {t : Title} {n p item : Nat}

/-- A settled title without a change of its own. -/
theorem Title.Settled.fits (h : t.Settled) {ds : List Dispatch} (few : ds.length ≤ 3) : TitleChange.Fits (t, ds) := by
  obtain ⟨distinct, shelf, trapped⟩ := Title.settled_iff.1 h
  refine .of_counts distinct ?_
  simp only
  omega

/-- An entry leaves a settled title with HOLD_ENDED, and a copy of it is reassigned or goes AWAY (R36, R42, R48, R49). -/
theorem fits_of_dropEntry {h : HoldEntry} {u : Title} {ds : List Dispatch} {d : Dispatch} (settled : t.Settled)
    (found : t.entryOf p = some h) (distinct : u.Distinct) (few : ds.length ≤ 1)
    (waiting : u.waiting = (t.dropEntry p).waiting ∨ (h.isWaiting = false ∧ u.waiting = (t.dropEntry p).waiting - 1))
    (off : (t.dropEntry p).TakesOff u) (one : h.isWaiting = false ∨ u = t.dropEntry p) : TitleChange.Fits (u, d :: ds) := by
  obtain ⟨old, shelf, trapped⟩ := Title.settled_iff.1 settled
  have dropped := Title.waiting_dropEntry old found
  obtain ⟨l, sh, k, lsh, kl, loans, shelf', trapped'⟩ := off
  have copies : (t.dropEntry p).loans = t.loans ∧ (t.dropEntry p).shelf = t.shelf ∧ (t.dropEntry p).trapped = t.trapped :=
    ⟨rfl, rfl, rfl⟩
  refine .of_counts distinct ?_
  simp only [List.length_cons]
  rcases one with allocated | rfl
  · simp only [allocated, Bool.toNat_false] at dropped
    omega
  · have le := Bool.toNat_le h.isWaiting
    omega

theorem Title.TakesOff.refl (t : Title) : t.TakesOff t := ⟨0, 0, 0, by omega, by omega, rfl, rfl, rfl⟩

theorem HoldEntry.isWaiting_of_item {h : HoldEntry} {i : Nat} (item : h.item = some i) : h.isWaiting = false := by
  simp [HoldEntry.isWaiting, HoldEntry.allocated_of_item item]

/-- The entry dropped, its copy reassigned. -/
theorem fits_of_reassign {h : HoldEntry} {i : Nat} {d : Dispatch} (settled : t.Settled) (found : t.entryOf p = some h)
    (allocated : h.isWaiting = false) :
    TitleChange.Fits ((reassign i (t.dropEntry p)).1, d :: (reassign i (t.dropEntry p)).2) := by
  obtain ⟨distinct, one, waiting, off⟩ := reassign_counts ((Title.settled_iff.1 settled).1.dropEntry p) i
  exact fits_of_dropEntry settled found distinct one.le (.inr ⟨allocated, waiting⟩) off (.inl allocated)

/-- The entry dropped, no copy reassigned. -/
theorem fits_of_dropped {h : HoldEntry} {d : Dispatch} (settled : t.Settled) (found : t.entryOf p = some h) :
    TitleChange.Fits (t.dropEntry p, [d]) :=
  fits_of_dropEntry settled found ((Title.settled_iff.1 settled).1.dropEntry p) (Nat.zero_le _) (.inl rfl)
    (Title.TakesOff.refl _) (.inr rfl)

/-- The removal of an expired entry of a settled title sends HOLD_ENDED and one dispatch more at most (R31). -/
theorem Title.Settled.expiry {h : HoldEntry} {E : Nat} (settled : t.Settled) (expired : t.expired E = some h) :
    (t.afterExpiry n h).Settled ∧ (t.expiryDispatches n h).length ≤ 2 := by
  obtain ⟨distinct, shelf, trapped⟩ := Title.settled_iff.1 settled
  have dropped : (t.dropEntry h.patron).waiting + h.isWaiting.toNat = t.waiting :=
    countP_filter_ne distinct.patrons (Title.mem_of_expired expired) _
  have le := Bool.toNat_le h.isWaiting
  have copies : (t.dropEntry h.patron).loans = t.loans ∧ (t.dropEntry h.patron).shelf = t.shelf ∧
    (t.dropEntry h.patron).trapped = t.trapped := ⟨rfl, rfl, rfl⟩
  refine ⟨(distinct.dropEntry _).settled n, ?_⟩
  simp only [Title.expiryDispatches, List.length_cons, settle_count n (distinct.dropEntry h.patron)]
  omega

/-- A reported view is of a trapped loan only where the loan was trapped (R45). -/
theorem CopyRef.isTrapped_reported (c : CopyRef) (report : CopyReport) (refused : Bool) :
    (CopyRef.isTrapped { c with view := reportedView c report refused }).toNat ≤ c.isTrapped.toNat := by
  cases report <;> simp [CopyRef.isTrapped, reportedView]

theorem copyStateRule_fits (settled : t.Settled) (report : CopyReport) (refused : Bool) :
    (copyStateRule item report refused t).Fits := by
  obtain ⟨distinct, shelf, trapped⟩ := Title.settled_iff.1 settled
  unfold copyStateRule
  cases found : t.copyOf item with
  | none => exact settled.fits (Nat.zero_le _)
  | some c =>
    obtain ⟨mem, rfl⟩ := Title.mem_of_copyOf found
    have ended : ∃ q, (if reportEnds report refused then t.endAllocation c.allocatedTo else t) = t.endAllocation q := by
      split
      · exact ⟨_, rfl⟩
      · exact ⟨none, rfl⟩
    obtain ⟨q, ended⟩ := ended
    simp only [ended]
    have udistinct := distinct.endAllocation q
    have waiting := Title.waiting_endAllocation distinct q
    have count := fun f => Title.countP_setCopy f udistinct.items (t.endAllocation_copies q ▸ mem)
      (reportedView c report refused)
    rw [t.endAllocation_copies] at count
    have loans := count CopyRef.onLoan
    have shelves := count CopyRef.onShelf
    have traps := count CopyRef.isTrapped
    have fewer := c.isTrapped_reported report refused
    have old := c.loan_or_shelf
    have new := CopyRef.loan_or_shelf { c with view := reportedView c report refused }
    have same : ((t.endAllocation q).setCopy c.item (reportedView c report refused)).waiting =
      (t.endAllocation q).waiting := rfl
    refine .of_counts (udistinct.setCopy _ _) ?_
    simp only [same, List.length_nil]
    simp only [Title.loans, Title.shelf, Title.trapped] at shelf trapped ⊢
    omega

theorem copyFreeRule_fits (settled : t.Settled) : (copyFreeRule item t).Fits := by
  obtain ⟨distinct, shelf, trapped⟩ := Title.settled_iff.1 settled
  cases found : t.copyOf item with
  | none =>
    rw [show copyFreeRule item t = (t, [.release item]) by simp [copyFreeRule, found]]
    exact settled.fits (by simp)
  | some c =>
    rw [copyFreeRule_found found]
    have waiting := Title.waiting_endAllocation distinct c.allocatedTo
    obtain ⟨distinct', one, waiting', l, sh, d, few, dl, loans, shelves, traps⟩ :=
      reassign_counts (distinct.endAllocation c.allocatedTo) item
    simp only [Title.loans, Title.shelf, Title.trapped, t.endAllocation_copies] at loans shelves traps shelf trapped
    refine .of_counts distinct' ?_
    rw [one]
    simp only [Title.loans, Title.shelf, Title.trapped]
    omega

theorem holdFilledRule_fits (settled : t.Settled) : (holdFilledRule n p item t).Fits := by
  have distinct := (Title.settled_iff.1 settled).1.dropEntry p
  unfold holdFilledRule
  cases found : t.entryOf p with
  | none => exact settled.fits (Nat.zero_le _)
  | some h =>
    dsimp only
    cases own : h.item with
    | none => exact fits_of_dropped settled found
    | some i =>
      have allocated := HoldEntry.isWaiting_of_item own
      dsimp only
      split
      · exact fits_of_dropEntry settled found (distinct.setCopy _ _) (Nat.zero_le _) (.inl rfl)
          (Title.takesOff_away distinct i none) (.inl allocated)
      · exact fits_of_reassign settled found allocated

theorem lapsedCopy_fits (settled : t.Settled) : (pickupLapsedRule.lapsedCopy item t).Fits := by
  unfold pickupLapsedRule.lapsedCopy
  split
  · exact settled.fits (Nat.zero_le _)
  · exact settled.fits (by simp)

theorem pickupLapsedRule_fits (settled : t.Settled) : (pickupLapsedRule n p item t).Fits := by
  unfold pickupLapsedRule
  split
  · rename_i h found
    split
    · rename_i own
      exact fits_of_reassign settled found (HoldEntry.isWaiting_of_item own)
    · exact lapsedCopy_fits settled
  · exact lapsedCopy_fits settled

theorem copyRemoveRule_fits (settled : t.Settled) : (copyRemoveRule item t).Fits := by
  obtain ⟨distinct, shelf, trapped⟩ := Title.settled_iff.1 settled
  unfold copyRemoveRule
  cases found : t.copyOf item with
  | none => exact settled.fits (Nat.zero_le _)
  | some c =>
    obtain ⟨mem, rfl⟩ := Title.mem_of_copyOf found
    have waiting := Title.waiting_endAllocation distinct c.allocatedTo
    have count := fun f => countP_filter_ne (f := CopyRef.item) distinct.items mem f
    have loans := count CopyRef.onLoan
    have shelves := count CopyRef.onShelf
    have traps := count CopyRef.isTrapped
    have old := c.loan_or_shelf
    have same : ((t.endAllocation c.allocatedTo).dropCopy c.item).waiting = (t.endAllocation c.allocatedTo).waiting := rfl
    refine .of_counts ((distinct.endAllocation _).dropCopy _) ?_
    simp only [same, List.length_nil]
    simp only [Title.loans, Title.shelf, Title.trapped, Title.dropCopy, t.endAllocation_copies] at shelf trapped ⊢
    omega

end Rules

/-! ## The operations of chapter 2 -/

section Operations

variable {t : Title} {n p item free : Nat}

/-- An operation that is done leaves its title settled, with at most 3 dispatches. -/
def TitleResult.Fits (r : TitleResult) : Prop := ∀ v, r.2.2 = .done v → r.1.Settled ∧ r.2.1.length ≤ 3

theorem TitleResult.Fits.refuse (t : Title) (why : Reason) : (TitleResult.refuse t why).Fits := nofun

theorem insertCopy_perm (c : CopyRef) (l : List CopyRef) : (insertCopy c l).Perm (c :: l) := by
  induction l with
  | nil => rfl
  | cons d l ih =>
    unfold insertCopy
    split
    · rfl
    · exact (ih.cons d).trans (.swap c d l)

theorem copyAddRule_fits (settled : t.Settled) : (copyAddRule n item free t).Fits := by
  obtain ⟨distinct, shelf, trapped⟩ := Title.settled_iff.1 settled
  unfold copyAddRule
  split
  · exact .refuse t _
  split
  · exact .refuse t _
  split
  · exact .refuse t _
  rename_i absent _ _
  have perm := insertCopy_perm ⟨item, .shelf, .agrees⟩ t.copies
  have fresh : ∀ c ∈ t.copies, c.item ≠ item := Title.copyOf_none (by simpa using absent)
  have added : Title.Distinct { t with copies := insertCopy ⟨item, .shelf, .agrees⟩ t.copies } :=
    ⟨(perm.map _).nodup_iff.2 (List.nodup_cons.2 ⟨by simpa using fresh, distinct.items⟩), distinct.patrons⟩
  generalize joined : ({ t with copies := insertCopy ⟨item, .shelf, .agrees⟩ t.copies } : Title) = u at added
  have count : ∀ f : CopyRef → Bool, u.copies.countP f = t.copies.countP f + (f ⟨item, .shelf, .agrees⟩).toNat := by
    intro f
    rw [← joined, perm.countP_eq, List.countP_cons]
    cases f ⟨item, .shelf, .agrees⟩ <;> rfl
  have waiting : u.waiting = t.waiting := by rw [← joined]; rfl
  have loans : u.loans = t.loans := count _
  have traps : u.trapped = t.trapped := count _
  have shelves : u.shelf = t.shelf + 1 := count _
  refine fun _ _ => ⟨added.settled n, ?_⟩
  simp only [settle_count n added]
  omega

theorem holdAddRule_fits {pickup life E : Nat} (settled : t.Settled) : (holdAddRule n p pickup life E free t).Fits := by
  obtain ⟨distinct, shelf, trapped⟩ := Title.settled_iff.1 settled
  unfold holdAddRule
  split
  · exact .refuse t _
  split
  · exact .refuse t _
  split
  · exact .refuse t _
  split
  · exact .refuse t _
  split
  · exact .refuse t _
  rename_i absent _ _
  have fresh : ∀ h ∈ t.holds, h.patron ≠ p := by
    have := List.find?_eq_none.1 (show t.entryOf p = none by simpa using absent)
    simpa using this
  generalize entry : (⟨p, pickup, E, capDay (E + life), .waiting, .agrees⟩ : HoldEntry) = h
  have patron : h.patron = p := by rw [← entry]
  have waits : h.isWaiting = true := by rw [← entry]; rfl
  have added : Title.Distinct { t with holds := t.holds ++ [h] } := by
    refine ⟨distinct.items, ?_⟩
    rw [List.map_append, List.nodup_append]
    refine ⟨distinct.patrons, List.nodup_singleton _, ?_⟩
    intro x hx y hy
    obtain ⟨g, hg, rfl⟩ := List.mem_map.1 hx
    rw [List.mem_singleton.1 hy, patron]
    exact fresh g hg
  have more : Title.waiting { t with holds := t.holds ++ [h] } = t.waiting + 1 := by
    simp [Title.waiting, waits]
  have copies : Title.loans { t with holds := t.holds ++ [h] } = t.loans ∧
    Title.shelf { t with holds := t.holds ++ [h] } = t.shelf ∧
    Title.trapped { t with holds := t.holds ++ [h] } = t.trapped := ⟨rfl, rfl, rfl⟩
  refine fun _ _ => ⟨added.settled n, ?_⟩
  simp only [settle_count n added, more]
  omega

theorem holdDropRule_fits (settled : t.Settled) : (holdDropRule n p t).Fits := by
  unfold holdDropRule
  split
  · exact .refuse t _
  · rename_i h found
    cases own : h.item with
    | none => exact fun _ _ => (fits_of_dropped settled found).settled n
    | some i => exact fun _ _ => (fits_of_reassign settled found (HoldEntry.isWaiting_of_item own)).settled n

theorem titleRead_fits {v : Values} (settled : t.Settled) : TitleResult.Fits (t, [], .done v) :=
  fun _ _ => ⟨settled, Nat.zero_le _⟩

end Operations

end Sys2Proof.Machine
end
section
/-! PROOFS. What the owner engine's work keeps: the dispatches it queues fit the free places, and the titles of HOME blocks
stay settled (R32, R44; O5). -/

namespace Sys2Proof.Machine

/-- From `s` to `u` the owner engine writes records, faults and notices and queues dispatches; the titles of HOME blocks
stay settled, and where they are settled and `g` holds at most `q` places are taken afterwards if at most `p` were
before. -/
structure Serves (g : Prop) (p q : Nat) (s u : State) : Prop where
  station : u.station = s.station
  hand : u.hand = s.hand
  views : u.map.views = s.map.views
  arb : u.arb = s.arb
  line : u.line = s.line
  ctxs : u.ctxs = s.ctxs
  joins : ∃ ds, u.queue = (enqueueAll ds s).queue
  titles : s.homeSettled → u.homeSettled
  room : g → s.homeSettled → s.used ≤ p → u.used ≤ q

variable {g : Prop} {s t u : State} {p q r n E : Nat}

theorem used_congr (queue : t.queue = s.queue) (line : t.line = s.line) (ctxs : t.ctxs = s.ctxs) (hand : t.hand = s.hand) :
    t.used = s.used := by
  simp only [State.used_eq, queue, line, ctxs, hand]

theorem used_enqueueAll (ds : List Dispatch) (s : State) : (enqueueAll ds s).used = s.used + ds.length := by
  induction ds generalizing s with
  | nil => rfl
  | cons d ds ih =>
    rw [enqueueAll_cons, ih, used_enqueue, List.length_cons]
    omega

namespace Serves

theorem viewOf (h : Serves g p q s u) (b : Block) : viewOf b u = Machine.viewOf b s := by
  simp only [Machine.viewOf, h.views]

theorem trans (h : Serves g p q s t) (k : Serves g q r t u) : Serves g p r s u where
  station := k.station.trans h.station
  hand := k.hand.trans h.hand
  views := k.views.trans h.views
  arb := k.arb.trans h.arb
  line := k.line.trans h.line
  ctxs := k.ctxs.trans h.ctxs
  joins := by
    obtain ⟨ds, first⟩ := h.joins
    obtain ⟨es, second⟩ := k.joins
    refine ⟨ds ++ es, ?_⟩
    rw [enqueueAll_append, second]
    exact enqueueAll_queue_congr es first
  titles x := k.titles (h.titles x)
  room y x le := k.room y (h.titles x) (h.room y x le)

/-- With fewer places taken before, or more allowed after. -/
theorem mono {p' q' : Nat} (h : Serves g p q s u) (before : s.used ≤ p' → s.used ≤ p) (after : q ≤ q') :
    Serves g p' q' s u :=
  { h with room := fun y x le => (h.room y x (before le)).trans after }

/-- Records marked or removed, faults and notices: no dispatch, and no title but as it was. -/
theorem of_titles (station : u.station = s.station) (hand : u.hand = s.hand) (views : u.map.views = s.map.views)
    (arb : u.arb = s.arb) (line : u.line = s.line) (ctxs : u.ctxs = s.ctxs) (queue : u.queue = s.queue)
    (titles : ∀ n x, getTitle n u = some x → getTitle n s = some x ∨ x.quarantined = true) : Serves g p p s u where
  station := station
  hand := hand
  views := views
  arb := arb
  line := line
  ctxs := ctxs
  joins := ⟨[], queue⟩
  titles settled n x found whole home := by
    rcases titles n x found with same | mark
    · exact settled n x same whole (by simpa only [Machine.viewOf, views] using home)
    · rw [whole] at mark
      cases mark
  room _ _ le := (used_congr queue line ctxs hand).trans_le le

/-- As `of_titles`, the titles as they were. -/
theorem of_records (station : u.station = s.station) (hand : u.hand = s.hand) (views : u.map.views = s.map.views)
    (arb : u.arb = s.arb) (line : u.line = s.line) (ctxs : u.ctxs = s.ctxs) (queue : u.queue = s.queue)
    (titles : u.store.titles = s.store.titles) : Serves g p p s u :=
  of_titles station hand views arb line ctxs queue fun n x found => .inl (by rwa [getTitle, ← titles])

@[refl] theorem refl (s : State) : Serves g p p s s := of_records rfl rfl rfl rfl rfl rfl rfl rfl

theorem postNotice (x : Notice) (s : State) : Serves g p p s (postNotice x s) := by
  unfold Machine.postNotice
  split <;> exact of_records rfl rfl rfl rfl rfl rfl rfl rfl

theorem recordFault (f : CapturedFault) (s : State) : Serves g p p s (recordFault f s) := by
  obtain ⟨c, o, same⟩ := recordFault_eq f s
  rw [same]
  exact of_records rfl rfl rfl rfl rfl rfl rfl rfl

theorem enqueue (d : Dispatch) (s : State) : Serves g p (p + 1) s (enqueue d s) where
  station := rfl
  hand := rfl
  views := rfl
  arb := rfl
  line := rfl
  ctxs := rfl
  joins := ⟨[d], rfl⟩
  titles := id
  room _ _ le := (used_enqueue d s).trans_le (Nat.succ_le_succ le)

/-- Each effect queues a dispatch at most. -/
theorem emitAll (es : List Effect) (s : State) : Serves g p (p + es.length) s (emitAll es s) := by
  induction es generalizing s p with
  | nil => rfl
  | cons e es ih =>
    have one : Serves g p (p + 1) s (emit e s) := by
      cases e with
      | send d => exact enqueue d s
      | notice st item route patron =>
        simp only [emit]
        split
        · exact (postNotice _ s).mono id (Nat.le_succ p)
        · exact enqueue _ s
    exact (one.trans (ih _)).mono id (by simp only [List.length_cons]; omega)

theorem putItem (n : Nat) (x : Item) (s : State) : Serves g p p s (putItem n x s) := of_records rfl rfl rfl rfl rfl rfl rfl rfl

theorem putPatron (n : Nat) (x : Patron) (s : State) : Serves g p p s (putPatron n x s) :=
  of_records rfl rfl rfl rfl rfl rfl rfl rfl

theorem dropTitle (n : Nat) (s : State) : Serves g p p s (dropTitle n s) := by
  refine of_titles rfl rfl rfl rfl rfl rfl rfl fun m x found => .inl ?_
  by_cases own : m = n
  · subst own
    rw [getTitle, Machine.dropTitle, tblGet_tblDel_same] at found
    cases found
  · rwa [getTitle, Machine.dropTitle, tblGet_tblDel_other _ own] at found

theorem markTitle (n : Nat) (x : Title) (s : State) : Serves g p p s (markTitle n x s) := by
  refine of_titles rfl rfl rfl rfl rfl rfl rfl fun m y found => ?_
  by_cases own : m = n
  · subst own
    rw [getTitle_markTitle] at found
    cases found
    exact .inr rfl
  · rw [getTitle, Machine.markTitle, tblGet_tblSet_other _ _ own] at found
    exact .inl found

/-- A record read, its mark set where its check fails (R181). -/
theorem marked {sp : Space} (mark : s.MarkedAt sp n u) : Serves g p p s u := by
  cases sp with
  | item =>
    obtain ⟨_, -, -, -, rfl⟩ := mark
    exact of_records rfl rfl rfl rfl rfl rfl rfl rfl
  | title =>
    obtain ⟨x, -, -, -, rfl⟩ := mark
    exact markTitle n x s
  | patron =>
    obtain ⟨_, -, -, -, rfl⟩ := mark
    exact of_records rfl rfl rfl rfl rfl rfl rfl rfl

theorem fetched {sp : Space} (read : u = s ∨ ∃ v f, s.MarkedAt sp n v ∧ u = Machine.recordFault f v) :
    Serves g p p s u := by
  rcases read with rfl | ⟨v, f, mark, rfl⟩
  · rfl
  · exact (marked mark).trans (recordFault f v)

theorem fetchItem (n : Nat) (who : Requester) (E : Nat) (s : State) : Serves g p p s (fetchItem n who E s).1 :=
  fetched (fetchItem_fst n who E s)

theorem fetchTitle (n : Nat) (who : Requester) (E : Nat) (s : State) : Serves g p p s (fetchTitle n who E s).1 :=
  fetched (fetchTitle_fst n who E s)

theorem fetchPatron (n : Nat) (who : Requester) (E : Nat) (s : State) : Serves g p p s (fetchPatron n who E s).1 :=
  fetched (fetchPatron_fst n who E s)

/-- A title is written with its dispatches, settled where the titles of HOME blocks are. -/
theorem writeTitle {x : Title} {ds : List Dispatch}
    (fits : s.homeSettled → Machine.viewOf (blockOf .title n) s = .home → x.quarantined = false → x.Settled)
    (few : g → s.homeSettled → s.used ≤ p → s.used + ds.length ≤ q) :
    Serves g p q s (enqueueAll ds (putTitle n x s)) := by
  obtain ⟨queue, same⟩ := enqueueAll_eq ds (putTitle n x s)
  have store : (enqueueAll ds (putTitle n x s)).store = (putTitle n x s).store := by rw [same]
  refine { station := by rw [same]; rfl, hand := by rw [same]; rfl, views := by rw [same]; rfl, arb := by rw [same]; rfl,
           line := by rw [same]; rfl, ctxs := by rw [same]; rfl,
           joins := ⟨ds, enqueueAll_queue_congr ds rfl⟩, titles := fun settled m y found whole home => ?_, room := ?_ }
  · have home' : Machine.viewOf (blockOf .title m) s = .home := by
      rw [same] at home
      exact home
    rw [getTitle_enqueueAll] at found
    by_cases own : m = n
    · subst own
      rw [getTitle_putTitle_same] at found
      cases found
      exact (fits settled home' whole).sealed
    · rw [getTitle_putTitle_other _ _ own] at found
      exact settled m y found whole home'
  · intro y settled le
    rw [used_enqueueAll]
    exact few y settled le

/-- A title is written alone. -/
theorem putTitle {x : Title}
    (fits : s.homeSettled → Machine.viewOf (blockOf .title n) s = .home → x.quarantined = false → x.Settled) :
    Serves g p p s (putTitle n x s) :=
  writeTitle (ds := []) fits fun _ _ le => le

end Serves

/-! ## Expired entries (R31, R63) -/

theorem Title.Settled.current {x : Title} (h : x.Settled) : ({ x with currentTo := E } : Title).Settled :=
  ⟨h.balanced, h.items, h.patrons⟩

/-- The removals of a title's expired entries: each takes 2 places at most, where `room` are free. -/
theorem Serves.expireTitle {room dayRoom fuel : Nat} (enough : 98 ≤ p + room) (some_ : 0 < room)
    (home : g → Machine.viewOf (blockOf .title n) s = .home) (whole : ∀ x, getTitle n s = some x → x.quarantined = false) :
    Serves g p p s (expireTitle E n room dayRoom fuel s).1 := by
  induction fuel generalizing s with
  | zero => rfl
  | succ fuel ih =>
    cases found : getTitle n s with
    | none =>
      simp only [Machine.expireTitle, found]
      rfl
    | some x =>
      have settled : s.homeSettled → Machine.viewOf (blockOf .title n) s = .home → x.Settled := fun h =>
        h n x found (whole x found)
      rw [expireTitle_succ found]
      cases expired : x.expired E with
      | none =>
        dsimp only
        split
        · rfl
        · exact putTitle fun h home _ => (settled h home).current
      | some h =>
        dsimp only
        split
        · rfl
        · rename_i free
          have removal : Serves g p p s (afterRemoval n h x s) := by
            refine writeTitle (fun all home _ => ((settled all home).expiry expired).1) fun y all le => ?_
            have := ((settled all (home y)).expiry (n := n) expired).2
            rw [freePlaces_eq] at free
            omega
          refine removal.trans (ih ?_ fun y hy => ?_)
          · rw [viewOf_afterRemoval]
            exact home
          · rw [afterRemoval, getTitle_enqueueAll, getTitle_putTitle_same] at hy
            cases hy
            exact (Title.afterExpiry_alike (n := n) (t := x) (h := h)).quarantined.trans (whole x found)

/-- The touch of a title leaves 3 places where 3 were free (R31). -/
theorem Serves.touchTitle {x : Title} (found : getTitle n s = some x) (whole : x.quarantined = false)
    (home : g → Machine.viewOf (blockOf .title n) s = .home) : Serves g 93 93 s (touchTitle E n x s).1 := by
  unfold Machine.touchTitle
  split
  · rfl
  · refine expireTitle (by omega) (by omega) home fun y hy => ?_
    rw [found] at hy
    cases hy
    exact whole

end Sys2Proof.Machine
end
section
/-! PROOFS. Every owner operation and every dispatch application fits the free places of the dispatch queue and leaves the
titles of HOME blocks settled (R3, R23, R30, R44, R69; O5). -/

namespace Sys2Proof.Machine

variable {g : Prop} {s u : State} {n E : Nat} {who : Requester}

/-- The view of a block lets an operation be applied only where it is HOME. -/
theorem gateOf_apply {v : View} {read : Bool} (h : gateOf v read = .apply) : v = .home := by
  cases v with
  | home => rfl
  | lending st => cases read <;> cases h
  | receiving | probing | foreign | unknown => cases h

theorem Serves.withRoom (h : Serves g 93 96 s u) (room : roomForOp s = true) : Serves g 96 96 s u := by
  refine h.mono (fun _ => ?_) le_rfl
  have : 3 ≤ freePlaces s := by simpa [roomForOp] using room
  rw [freePlaces_eq] at this
  omega

/-- A title read whole stands and passes its check. -/
theorem fetchTitle_whole {t : Title} (fetch : fetchTitle n who E s = (u, some t)) (whole : t.quarantined = false) :
    u = s ∧ getTitle n s = some t ∧ t.checks = true := by
  unfold fetchTitle at fetch
  split at fetch
  · cases fetch
  · rename_i x found
    split at fetch
    · cases fetch
      simp_all
    · split at fetch
      · cases fetch
        exact ⟨rfl, found, ‹_›⟩
      · cases fetch
        cases whole

/-- The title as a touch leaves it is still without the quarantine mark. -/
theorem whole_of_touchTitle {t : Title} (found : getTitle n s = some t) (checks : t.checks = true)
    (whole : t.quarantined = false) : ∃ y, getTitle n (touchTitle E n t s).1 = some y ∧ y.quarantined = false := by
  unfold touchTitle
  split
  · exact ⟨t, found, whole⟩
  · obtain ⟨ds, y, h⟩ := expireTitle_expires (E := E) (room := 5) (dayRoom := 0) (fuel := t.holds.length + 1) found checks
    exact ⟨y, h.found, h.quarantined.trans whole⟩

/-! ## Items -/

/-- Whether an item is LOST. -/
def Item.isLost (r : Item) : Bool := r.state.code == .lost

/-- A day transition sends 2 dispatches where the item falls LOST, and one at most otherwise (R61, R62). -/
theorem bringUp_few (row : ClassRow) (cal : Calendar) (r : Item) :
    (bringUp row cal E n r).2.length ≤ if (bringUp row cal E n r).1.isLost then 2 else 1 := by
  unfold bringUp
  split
  · split
    · dsimp only
      split <;> simp [Item.isLost, ItemState.code]
    · simp
  · split <;> simp [Item.isLost, ItemState.code]
  · simp

theorem Serves.touchItem {r : Item} : Serves g 93 95 s (touchItem E n r s).1 := by
  unfold Machine.touchItem
  split
  · exact (refl s).mono id (by omega)
  · refine ((putItem n _ s).trans (emitAll _ _)).mono id ?_
    have := bringUp_few (E := E) (n := n) (classRow s r.cls) (calendarOf s) r
    split at this <;> omega

/-- The dispatches that a rule for an item causes. -/
def ItemRuleFits (rule : Item → ItemResult) : Prop := ∀ r, (rule r).2.1.length ≤ 3

theorem Serves.itemOp {read : Bool} {rule : Item → ItemResult} (few : ItemRuleFits rule) :
    Serves g 96 96 s (itemOp n who E read rule s).1 := by
  unfold Machine.itemOp
  split
  · rfl
  · have fetched := Serves.fetchItem (g := g) (p := 96) n who E s
    split
    · rename_i fetch
      rwa [fetch] at fetched
    · rename_i s1 r fetch
      rw [fetch] at fetched
      split
      · exact fetched
      split
      · exact fetched
      split
      · exact fetched
      · rename_i room
        have touch : Serves g 96 96 s1 (Machine.touchItem E n r s1).1 :=
          (touchItem.mono id (by omega)).withRoom (by simpa using room)
        dsimp only
        split
        · exact fetched.trans touch
        · rename_i room'
          refine (fetched.trans touch).trans ?_
          split
          · refine withRoom (((putItem n _ _).trans (emitAll _ _)).mono id ?_) (by simpa using room')
            exact Nat.add_le_add_left (few _) 93
          · rfl

theorem lendItemRule_fits {row : ClassRow} {cal : Calendar} {patron card lending : Nat} :
    ItemRuleFits (lendItemRule row cal E n patron card lending) := by
  intro r
  unfold lendItemRule
  repeat' split
  all_goals simp [lend, ItemResult.refuse]

theorem overdueCharge_few (b fine n : Nat) : (overdueCharge b fine n).length ≤ 1 := by
  unfold overdueCharge
  split <;> simp

theorem extendRule_fits {row : ClassRow} {cal : Calendar} {patron card : Nat} :
    ItemRuleFits (extendRule row cal E n patron card) := by
  intro r
  unfold extendRule
  split
  case h_2 => simp [ItemResult.refuse]
  case h_1 b due ren trapped _ =>
    have charge := overdueCharge_few b (overdueFine row cal due E) n
    split
    · exact Nat.zero_le _
    split
    · exact Nat.zero_le _
    split
    · exact Nat.zero_le _
    dsimp only
    split
    · exact Nat.zero_le _
    · simp only [List.length_append, List.length_singleton]
      omega

theorem takeReturnRule_fits {row : ClassRow} {cal : Calendar} {window scanning : Nat} :
    ItemRuleFits (takeReturnRule row cal window E n scanning) := by
  intro r
  unfold takeReturnRule
  split
  case h_1 b due _ trapped _ =>
    have charge := overdueCharge_few b (overdueFine row cal due E) n
    dsimp only
    split <;> simp only [List.length_append, List.length_singleton] <;> omega
  case h_2 => dsimp only; split <;> simp
  all_goals repeat' split
  all_goals simp

/-- The dispatches that a rule for an item's dispatch causes: fewer where the item is LOST. -/
def ItemDispatchFits (rule : Item → Item × List Effect) : Prop :=
  ∀ r, (rule r).2.length ≤ if r.isLost then 1 else 2

theorem Serves.itemDispatch {d : Dispatch} {missing : State → State} {rule : State → Item → Item × List Effect}
    (few : ∀ v, ItemDispatchFits (rule v)) (without : ∀ v, Serves g 93 96 v (missing v)) :
    Serves g 93 96 s (itemDispatch d n E missing rule s) := by
  unfold Machine.itemDispatch
  have fetched := Serves.fetchItem (g := g) (p := 93) n .line E s
  split
  · rename_i fetch
    rw [fetch] at fetched
    exact fetched.trans (without _)
  · rename_i s1 r fetch
    rw [fetch] at fetched
    split
    · exact fetched.trans ((recordFault _ _).mono id (by omega))
    · refine fetched.trans ?_
      unfold Machine.touchItem
      split
      · refine ((putItem n _ _).trans (emitAll _ _)).mono id ?_
        have own := few s1 r
        dsimp only
        split at own <;> omega
      · dsimp only
        refine ((((putItem n _ s1).trans (emitAll _ _)).trans (putItem n _ _)).trans (emitAll _ _)).mono id ?_
        have up := bringUp_few (E := E) (n := n) (classRow s1 r.cls) (calendarOf s1) r
        have own := few (Machine.emitAll (bringUp (classRow s1 r.cls) (calendarOf s1) E n r).2
          (Machine.putItem n (bringUp (classRow s1 r.cls) (calendarOf s1) E n r).1 s1))
          (bringUp (classRow s1 r.cls) (calendarOf s1) E n r).1
        split at own <;> simp_all <;> omega

theorem trapRule_fits : ItemDispatchFits (trapRule n) := by
  intro r
  unfold trapRule
  split <;> split <;> simp

theorem allocateRule_fits {title patron pickup : Nat} : ItemDispatchFits (allocateRule n title patron pickup) := by
  intro r
  unfold allocateRule
  split
  · simp; split <;> omega
  · split
    · rename_i state
      simp [Item.isLost, state, ItemState.code]
    · simp; split <;> omega

theorem redirectRule_fits {window patron pickup : Nat} : ItemDispatchFits (redirectRule window E n patron pickup) := by
  intro r
  unfold redirectRule
  repeat' split
  all_goals simp

theorem releaseRule_fits : ItemDispatchFits (releaseRule n) := by
  intro r
  unfold releaseRule
  split
  all_goals rename_i state
  all_goals simp [Item.isLost, state, ItemState.code]

/-! ## Titles -/

theorem Serves.titleOp {read : Bool} {missing : Reason} {rule : State → Title → TitleResult}
    (fits : ∀ v x, x.Settled → TitleResult.Fits (rule v x)) : Serves g 96 96 s (titleOp n who E read missing rule s).1 := by
  unfold Machine.titleOp
  split
  · rfl
  · rename_i gate answers
    have fetched := Serves.fetchTitle (g := g) (p := 96) n who E s
    split
    · rename_i fetch
      rwa [fetch] at fetched
    · rename_i s1 t fetch
      rw [fetch] at fetched
      split
      · exact fetched
      split
      · exact fetched
      split
      · exact fetched
      · rename_i mark stored room
        have home : Machine.viewOf (blockOf .title n) s = .home := by
          cases is : gateOf (Machine.viewOf (blockOf .title n) s) read with
          | apply => exact gateOf_apply is
          | serveStored => exact absurd is stored
          | answer a => exact absurd is (answers a)
        have whole : t.quarantined = false := by simpa using mark
        obtain ⟨rfl, found, checks⟩ := fetchTitle_whole fetch whole
        obtain ⟨y, left, whole'⟩ := whole_of_touchTitle (E := E) found checks whole
        have touch := Serves.touchTitle (g := g) (E := E) found whole fun _ => home
        generalize Machine.touchTitle E n t s1 = x at *
        obtain ⟨s2, stops⟩ := x
        refine withRoom ?_ (by simpa using room)
        cases stops with
        | true => exact touch.mono id (by omega)
        | false =>
          dsimp only at left touch ⊢
          rw [left, Option.getD_some]
          split
          · rename_i v done
            have settled : s2.homeSettled → y.Settled := fun all => all n y left whole' ((touch.viewOf _).trans home)
            refine touch.trans (writeTitle (fun all _ _ => (fits s2 y (settled all) v done).1) fun _ all le => ?_)
            have := (fits s2 y (settled all) v done).2
            omega
          · exact touch.mono id (by omega)

theorem TitleChange.fits_of_titleRule (d : Dispatch) {t : Title} (settled : t.Settled) : (d.titleRule t).Fits := by
  cases d with
  | copyState _ _ r f => exact copyStateRule_fits settled r f
  | copyFree => exact copyFreeRule_fits settled
  | holdFilled => exact holdFilledRule_fits settled
  | pickupLapsed => exact pickupLapsedRule_fits settled
  | copyRemove => exact copyRemoveRule_fits settled
  | _ => exact settled.fits (Nat.zero_le _)

theorem Serves.titleDispatch {d : Dispatch} (home : g → Machine.viewOf (blockOf .title n) s = .home) :
    Serves g 93 96 s (titleDispatch d n E d.withoutTitle d.titleRule s) := by
  cases found : getTitle n s with
  | none =>
    rw [titleDispatch_missing found]
    unfold Dispatch.withoutTitle
    split
    · exact (enqueue _ s).mono id (by omega)
    · exact (enqueue _ s).mono id (by omega)
    · exact (refl s).mono id (by omega)
  | some t =>
    cases whole : t.quarantined with
    | true =>
      rw [titleDispatch_quarantined found whole]
      exact (recordFault _ s).mono id (by omega)
    | false =>
      cases checks : t.checks with
      | false =>
        rw [titleDispatch_failing found whole checks]
        exact (((markTitle n t s).trans (recordFault _ _)).trans (recordFault _ _)).mono id (by omega)
      | true =>
        rw [titleDispatch_whole found whole checks]
        obtain ⟨y, left, whole'⟩ := whole_of_touchTitle (E := E) found checks whole
        have touch := Serves.touchTitle (E := E) found whole home
        rw [left, Option.getD_some]
        generalize (Machine.touchTitle E n t s).1 = s2 at *
        have fits : s2.homeSettled → Machine.viewOf (blockOf .title n) s2 = .home →
            (TitleChange.settled n (d.titleRule y)).1.Settled ∧ (TitleChange.settled n (d.titleRule y)).2.length ≤ 3 :=
          fun all home' => (TitleChange.fits_of_titleRule d (all n y left whole' home')).settled n
        refine touch.trans (writeTitle (fun all home' _ => (fits all home').1) fun x all le => ?_)
        have few := (fits all ((touch.viewOf _).trans (home x))).2
        simp only [TitleChange.settled] at few
        omega

/-! ## Patrons -/

theorem Serves.patronOp {read : Bool} {rule : Patron → PatronResult} : Serves g 96 96 s (patronOp n who E read rule s).1 := by
  unfold Machine.patronOp
  split
  · rfl
  · have fetched := Serves.fetchPatron (g := g) (p := 96) n who E s
    split
    · rename_i fetch
      rwa [fetch] at fetched
    · rename_i s1 r fetch
      rw [fetch] at fetched
      repeat' split
      · exact fetched
      · exact fetched
      · exact fetched
      · exact fetched.trans (putPatron n _ _)
      · exact fetched

theorem Serves.patronDispatch {d : Dispatch} {rule : Patron → Patron} :
    Serves g 93 96 s (patronDispatch d n E rule s) := by
  refine mono (p := 93) (q := 93) ?_ id (by omega)
  unfold Machine.patronDispatch
  have fetched := Serves.fetchPatron (g := g) (p := 93) n .line E s
  split
  · rename_i fetch
    rwa [fetch] at fetched
  · rename_i s1 r fetch
    rw [fetch] at fetched
    split
    · exact fetched.trans (recordFault _ _)
    · exact fetched.trans (putPatron n _ _)

end Sys2Proof.Machine
end
section
/-! PROOFS. The work of the owner engine and of the sweep at its grant, whole: what it keeps (O5). -/

namespace Sys2Proof.Machine

variable {g : Prop} {s t u : State} {n E : Nat}

/-! ## Owner operations -/

theorem Title.settled_empty (holdable : Bool) (day : Nat) :
    Title.Settled ⟨holdable, [], [], day, false, .agrees⟩ := ⟨⟨.inl rfl, rfl⟩, .nil, .nil⟩

namespace Serves

variable {who : Requester}

theorem deleteItem (r : Item) (s : State) : Serves g 93 96 s (deleteItem n r s).1 := by
  have dropped : Serves g 93 93 s (dropItem n s) := of_records rfl rfl rfl rfl rfl rfl rfl rfl
  exact (dropped.trans (enqueue _ _)).mono id (by omega)

theorem opItemDelete : Serves g 96 96 s (opItemDelete n who E s).1 := by
  unfold Machine.opItemDelete
  split
  · rfl
  · have fetched := Serves.fetchItem (g := g) (p := 96) n who E s
    split
    · rename_i fetch
      rwa [fetch] at fetched
    · rename_i s1 r fetch
      rw [fetch] at fetched
      split
      · exact fetched
      · rename_i room
        have room : roomForOp s1 = true := by simpa using room
        split
        · exact fetched.trans ((deleteItem r s1).withRoom room)
        · have touch : Serves g 96 96 s1 (Machine.touchItem E n r s1).1 := (touchItem.mono id (by omega)).withRoom room
          dsimp only
          split
          · exact fetched.trans touch
          · rename_i room'
            split
            · exact (fetched.trans touch).trans ((deleteItem _ _).withRoom (by simpa using room'))
            · exact fetched.trans touch

theorem opItemCreate {title cls shelf : Nat} : Serves g 96 96 s (opItemCreate n title cls shelf E s).1 := by
  unfold Machine.opItemCreate
  repeat' split
  · rfl
  · rfl
  · rfl
  · rfl
  · exact putItem n _ s

theorem opTitleCreate {holdable : Bool} : Serves g 96 96 s (opTitleCreate n holdable E s).1 := by
  unfold Machine.opTitleCreate
  repeat' split
  · rfl
  · rfl
  · rfl
  · rfl
  · exact putTitle fun _ _ _ => Title.settled_empty holdable E

theorem opPatronCreate {category card : Nat} : Serves g 96 96 s (opPatronCreate n category card s).1 := by
  unfold Machine.opPatronCreate
  repeat' split
  · rfl
  · rfl
  · rfl
  · rfl
  · exact putPatron n _ s

theorem dropPatron (n : Nat) (s : State) : Serves g 96 96 s (dropPatron n s) := of_records rfl rfl rfl rfl rfl rfl rfl rfl

theorem opPatronDelete : Serves g 96 96 s (opPatronDelete n who E s).1 := by
  unfold Machine.opPatronDelete
  split
  · rfl
  · have fetched := Serves.fetchPatron (g := g) (p := 96) n who E s
    split
    · rename_i fetch
      rwa [fetch] at fetched
    · rename_i s1 r fetch
      rw [fetch] at fetched
      repeat' split
      · exact fetched
      · exact fetched.trans (dropPatron n s1)
      · exact fetched

theorem opTitleDelete : Serves g 96 96 s (opTitleDelete n who E s).1 := by
  unfold Machine.opTitleDelete
  split
  · rfl
  · rename_i gate answers
    have fetched := Serves.fetchTitle (g := g) (p := 96) n who E s
    split
    · rename_i fetch
      rwa [fetch] at fetched
    · rename_i s1 t fetch
      rw [fetch] at fetched
      split
      · exact fetched
      · rename_i room
        split
        · exact fetched.trans (dropTitle n s1)
        · rename_i mark
          have home : Machine.viewOf (blockOf .title n) s = .home := by
            cases is : gateOf (Machine.viewOf (blockOf .title n) s) false with
            | apply => exact gateOf_apply is
            | serveStored => cases v : Machine.viewOf (blockOf .title n) s <;> simp [gateOf, v] at is
            | answer a => exact absurd is (answers a)
          have whole : t.quarantined = false := by simpa using mark
          obtain ⟨rfl, found, -⟩ := fetchTitle_whole fetch whole
          have touch : Serves g 96 96 s1 (Machine.touchTitle E n t s1).1 :=
            ((touchTitle found whole fun _ => home).mono id (by omega)).withRoom (by simpa using room)
          generalize Machine.touchTitle E n t s1 = x at *
          obtain ⟨s2, stops⟩ := x
          cases stops with
          | true => exact touch
          | false =>
            dsimp only at touch ⊢
            split
            · exact touch.trans (dropTitle n s2)
            · exact touch

end Serves

/-- Every owner operation at its grant. -/
theorem serves_applyOp (o : OwnerOp) (who : Requester) (E : Nat) (s : State) : Serves True 96 96 s (applyOp o who E s).1 := by
  cases o with
  | itemCreate => exact .opItemCreate
  | itemDelete => exact .opItemDelete
  | lendItem => exact .itemOp fun r => lendItemRule_fits r
  | extend => exact .itemOp fun r => extendRule_fits r
  | takeReturn => exact .itemOp fun r => takeReturnRule_fits r
  | itemRead => exact .itemOp fun _ => Nat.zero_le _
  | titleCreate => exact .opTitleCreate
  | titleDelete => exact .opTitleDelete
  | copyAdd => exact .titleOp fun _ _ settled => copyAddRule_fits settled
  | holdAdd => exact .titleOp fun _ _ settled => holdAddRule_fits settled
  | holdDrop => exact .titleOp fun _ _ settled => holdDropRule_fits settled
  | titleRead => exact .titleOp fun _ _ settled => titleRead_fits settled
  | patronCreate => exact .opPatronCreate
  | patronDelete => exact .opPatronDelete
  | patronSet | standing | loanOpen | holdOpen | pay | accountRead => exact .patronOp

/-! ## Dispatch applications -/

theorem Dispatch.serves_withoutItem (d : Dispatch) (s : State) : Serves g 93 96 s (d.withoutItem s) := by
  unfold Dispatch.withoutItem
  split
  · exact (Serves.enqueue _ s).mono id (by omega)
  · exact (Serves.refl s).mono id (by omega)

/-- Every dispatch at its application, where its own place and 2 more are free (R128). -/
theorem serves_applyDispatch (d : Dispatch) (E : Nat) (s : State)
    (home : g → ∀ b, d.block = some b → viewOf b s = .home) : Serves g 93 96 s (applyDispatch d E s) := by
  cases d with
  | charge | credit | loanClose | holdEnded => exact .patronDispatch
  | copyState n i r f =>
    rw [applyDispatch_title (n := n) rfl]
    exact .titleDispatch fun y => home y _ rfl
  | copyFree n i a =>
    rw [applyDispatch_title (n := n) rfl]
    exact .titleDispatch fun y => home y _ rfl
  | holdFilled n p i =>
    rw [applyDispatch_title (n := n) rfl]
    exact .titleDispatch fun y => home y _ rfl
  | pickupLapsed n p i =>
    rw [applyDispatch_title (n := n) rfl]
    exact .titleDispatch fun y => home y _ rfl
  | copyRemove n i =>
    rw [applyDispatch_title (n := n) rfl]
    exact .titleDispatch fun y => home y _ rfl
  | trap i => exact .itemDispatch (fun _ => trapRule_fits) (Dispatch.serves_withoutItem (.trap i))
  | untrap i =>
    exact .itemDispatch (rule := fun _ r => (untrapRule r, [])) (fun _ _ => Nat.zero_le _)
      (Dispatch.serves_withoutItem (.untrap i))
  | allocate i t p k => exact .itemDispatch (fun _ => allocateRule_fits) (Dispatch.serves_withoutItem (.allocate i t p k))
  | redirect i p k => exact .itemDispatch (fun _ => redirectRule_fits) (Dispatch.serves_withoutItem (.redirect i p k))
  | release i => exact .itemDispatch (fun _ => releaseRule_fits) (Dispatch.serves_withoutItem (.release i))
  | kioskNote | abandon => exact (Serves.refl s).mono id (by omega)

/-! ## The sweep (R59, R60) -/

theorem Serves.examineItem {units : Option Nat} : Serves g 96 96 s (examineItem E n units s).1 := by
  unfold Machine.examineItem
  split
  · rfl
  · have fetched := Serves.fetchItem (g := g) (p := 96) n .sweep E s
    split
    · rename_i fetch
      rwa [fetch] at fetched
    · rename_i s1 r fetch
      rw [fetch] at fetched
      split
      · exact fetched
      split
      · exact fetched
      split
      · exact fetched
      · rename_i stale room
        have touch := Serves.touchItem (g := g) (E := E) (n := n) (s := s1) (r := r)
        rw [touchItem_stale stale] at touch
        exact fetched.trans ((touch.mono (p' := 93) id (by omega)).withRoom (by simpa [roomForOp] using room))

theorem Serves.examineTitle {units : Option Nat} : Serves g 96 96 s (examineTitle E n units s).1 := by
  unfold Machine.examineTitle
  split
  · rfl
  · rename_i home
    have fetched := Serves.fetchTitle (g := g) (p := 96) n .sweep E s
    split
    · rename_i fetch
      rwa [fetch] at fetched
    · rename_i s1 t fetch
      rw [fetch] at fetched
      split
      · exact fetched
      split
      · exact fetched
      split
      · exact fetched
      · rename_i mark _ _
        have whole : t.quarantined = false := by simpa using mark
        obtain ⟨rfl, found, -⟩ := fetchTitle_whole fetch whole
        refine expireTitle (p := 96) (room := 3) (by omega) (by omega) (fun _ => by simpa using home) fun y hy => ?_
        rw [found] at hy
        cases hy
        exact whole

theorem Serves.examine {r : Space × Nat} {units : Option Nat} : Serves g 96 96 s (examine E r units s).1 := by
  unfold Machine.examine
  repeat' split
  · rfl
  · exact examineTitle
  · exact examineItem

theorem Serves.burst {fuel : Nat} {units : Option Nat} {pos : SweepPos} : Serves g 96 96 s (burst E fuel units pos s).1 := by
  induction fuel generalizing s units pos with
  | zero => rw [burst_out]
  | succ fuel ih =>
    unfold Machine.burst
    split
    · rfl
    · rename_i r _
      have one := Serves.examine (g := g) (E := E) (s := s) (r := r) (units := units)
      split
      · rename_i stops
        rwa [stops] at one
      · rename_i goes
        rw [goes] at one
        exact one.trans ih

/-! ## The stream's reads and the freeing of records (R162, R155) -/

theorem Serves.readUnits {sp : Space} : Serves g 96 96 s (readUnits sp n E s).1 := by
  unfold Machine.readUnits
  cases sp with
  | item =>
    have fetched := Serves.fetchItem (g := g) (p := 96) n .stream E s
    dsimp only
    split <;> rename_i fetch <;> rwa [fetch] at fetched
  | title =>
    have fetched := Serves.fetchTitle (g := g) (p := 96) n .stream E s
    dsimp only
    split <;> rename_i fetch <;> rwa [fetch] at fetched
  | patron =>
    have fetched := Serves.fetchPatron (g := g) (p := 96) n .stream E s
    dsimp only
    split <;> rename_i fetch <;> rwa [fetch] at fetched

theorem Serves.dropRecord (sp : Space) (n : Nat) (s : State) : Serves g 96 96 s (dropRecord sp n s) := by
  cases sp with
  | item => exact of_records rfl rfl rfl rfl rfl rfl rfl rfl
  | title => exact dropTitle n s
  | patron => exact dropPatron n s

theorem Serves.freeRecords {b : Block} {n : Nat} : Serves g 96 96 s (freeRecords b n s) := by
  unfold Machine.freeRecords
  generalize (recordsOf b s).take n = l
  induction l generalizing s with
  | nil => rfl
  | cons k l ih => exact (dropRecord b.space k s).trans ih

end Sys2Proof.Machine
end
section
/-! PROOFS. What every grant of the store keeps of the dispatch queue, its capacity, the views and the titles (O5). -/

namespace Sys2Proof.Machine

variable {s t u : State}

/-- Every title of `t` without the quarantine mark, of a block viewed HOME in `s`, is settled. -/
def State.SettledIn (s t : State) : Prop :=
  ∀ n x, getTitle n t = some x → viewOf (blockOf .title n) s = .home → x.quarantined = false → x.Settled

/-- From `s` to `t` a station on the line stays there, and the dispatch queue, its capacity, the views and the titles are
kept. -/
structure Kept (s t : State) : Prop where
  station : onLine s = true → onLine t = true
  ok : s.queue.ok → t.queue.ok
  entries : s.queue.ok → s.EntriesKept → t.EntriesKept
  room : s.queue.ok → s.EntriesKept → s.RoomKept → s.Agrees → s.homeSettled → t.RoomKept
  agrees : s.Agrees → t.Agrees
  titles : (∀ k E, s.arb.held ≠ some ⟨.stream (.write k), E⟩) → s.homeSettled → s.SettledIn t

namespace Kept

theorem of_accords (h : Accords s t) : Kept s t where
  station := h.station
  ok := h.ok
  entries := h.entries
  room ok _ room _ _ := h.room ok room
  agrees := h.agrees
  titles _ settled n x found home whole := settled n x (by rwa [getTitle, ← h.store]) whole home

@[refl] theorem refl (s : State) : Kept s s := of_accords (.refl s)

/-- What changes no record after what is kept. -/
theorem accords (h : Kept s t) (k : Accords t u) : Kept s u where
  station on := k.station (h.station on)
  ok x := k.ok (h.ok x)
  entries x y := k.entries (h.ok x) (h.entries x y)
  room ok entries room agrees settled := k.room (h.ok ok) (h.room ok entries room agrees settled)
  agrees x := k.agrees (h.agrees x)
  titles other settled n x found home whole :=
    h.titles other settled n x (by rwa [getTitle, ← k.store]) home whole

/-- Records written where the titles are not spoken of: a unit of a stream (R168). -/
theorem of_store {k E : Nat} (st : Store) (fr : Nat) (held : s.arb.held = some ⟨.stream (.write k), E⟩) :
    Kept s { s with store := st, free := fr } where
  station := id
  ok := id
  entries _ h := ⟨h.sent, h.asked⟩
  room _ _ h _ _ := ⟨h.room, h.held⟩
  agrees h := h.same rfl rfl rfl rfl
  titles other := absurd held (other k E)

/-- The owner engine's work, after what leaves records and views. -/
theorem of_serves {s0 : State} {g : Prop} {p q : Nat} (before : Accords s s0) (views : s0.map.views = s.map.views)
    (h : Serves g p q s0 u) (few : q ≤ 96) (places : s.queue.ok → s.EntriesKept → s.RoomKept → s0.used ≤ p)
    (goes : s.Agrees → g) : Kept s u := by
  obtain ⟨ds, joins⟩ := h.joins
  have settled0 : s.homeSettled → s0.homeSettled := fun all n x found whole home =>
    all n x (by rwa [getTitle, ← before.store]) whole (by simpa only [viewOf, views] using home)
  have ok : ∀ (ds : List Dispatch) (v : State), v.queue.ok → (enqueueAll ds v).queue.ok := by
    intro ds
    induction ds with
    | nil => exact fun _ => id
    | cons d ds ih => exact fun v old => ih _ (queue_ok_append rfl rfl old)
  have entries : ∀ (ds : List Dispatch) (v : State), v.EntriesKept → (enqueueAll ds v).EntriesKept := by
    intro ds
    induction ds with
    | nil => exact fun _ => id
    | cons d ds ih => exact fun v old => ih _ old.enqueue
  have agrees : ∀ (ds : List Dispatch) (v : State), v.Agrees → (enqueueAll ds v).Agrees := by
    intro ds
    induction ds with
    | nil => exact fun _ => id
    | cons d ds ih => exact fun v old => ih _ old.enqueue
  obtain ⟨queue, same⟩ := enqueueAll_eq ds s0
  have line : (enqueueAll ds s0).line = u.line := by rw [same]; exact h.line.symm
  have arb : (enqueueAll ds s0).arb = u.arb := by rw [same]; exact h.arb.symm
  refine { station := fun on => ?_, ok := fun old => ?_, entries := fun old kept => ?_, room := ?_, agrees := fun old => ?_,
           titles := fun _ all n x found home whole => ?_ }
  · have := before.station on
    simpa only [onLine, h.station] using this
  · rw [joins]
    exact ok ds s0 (before.ok old)
  · have kept := entries ds s0 (before.entries old kept)
    exact { sent := by rw [← line, joins]; exact kept.sent
            asked := by
              intro e mem dir asks
              rw [joins] at mem
              exact kept.asked e mem dir (by rwa [State.asksStore, arb]) }
  · intro old kept room agrees all
    refine ⟨(h.room (goes agrees) (settled0 all) (places old kept room)).trans few, ?_⟩
    rw [h.line]
    exact (before.room old room).held
  · refine (agrees ds s0 (before.agrees old)).same joins ?_ ?_ ?_
    · rw [line]
    · rw [same]
      exact h.hand
    · rw [same]
      exact h.views
  · refine h.titles (settled0 all) n x found whole ?_
    rw [h.viewOf]
    simpa only [viewOf, views] using home

/-- The owner engine's work from the grant's own state. -/
theorem of_work (h : Serves True 96 96 s u) : Kept s u :=
  of_serves (.refl s) rfl h le_rfl (fun _ _ room => room.used) fun _ => trivial

theorem of_mark {sp : Space} {n : Nat} (mark : s.MarkedAt sp n u) : Kept s u := of_work (.marked mark)

end Kept

/-! ## Owner operations and applications -/

theorem kept_applyOp (o : OwnerOp) (who : Requester) (E : Nat) (s : State) : Kept s (applyOp o who E s).1 :=
  .of_work (serves_applyOp o who E s)

theorem kept_ownerGrant (h : HeldOp) (s : State) : Kept s (ownerGrant h s) :=
  (kept_applyOp h.op h.who h.day s).accords (Accords.refl _).deliverAnswer.endGrant

/-- The application of the entry that holds the grant (R128): an INBOUND one has its 2 places, an OUTBOUND one finds
them free. -/
theorem kept_applyEntry {e : Entry} {E : Nat} (held : heldEntry s = some (e, E)) : Kept s (applyEntry e.id E s) := by
  obtain ⟨grant, found⟩ := findEntry_of_heldEntry held
  have mem := (mem_of_findEntry found).1
  have freed := used_dropEntry mem
  have dropped : Accords s (dropEntry e.id s) := (Accords.refl s).dropEntry
  unfold applyEntry
  rw [found]
  dsimp only
  split
  · rename_i dir
    refine Kept.accords (t := applyDispatch e.disp E (dropEntry e.id s)) ?_ (Accords.refl _).askFreeze
    refine .of_serves (g := s.Agrees) dropped rfl (serves_applyDispatch _ _ _ fun agrees b block => ?_) le_rfl
      (fun ok entries room => ?_) id
    · exact agrees b .home (.taken (.inbound mem dir block))
    · have reserved : e.reservedPlaces = 2 := by
        simp [Entry.reservedPlaces, dir, entries.asked e mem dir (.inr ⟨E, grant⟩)]
      have := room.used
      omega
  · rename_i dir
    have out : s.queue.ok → s.outbound e.id := fun ok => State.outbound_of_found ok found dir
    split
    · rfl
    · rename_i b block
      split
      · refine .of_accords (Accords.walk ((Accords.refl s).setEntryPhase (by simp) (by simp) fun ok _ => ?_))
        exact (out ok).notInbound
      · rename_i home
        split
        · exact .of_accords ((Accords.refl s).setEntryPhase (by simp) (by simp) fun ok _ => (out ok).notInbound)
        · rename_i room
          refine .of_serves (g := True) dropped rfl (serves_applyDispatch _ _ _ fun _ b' block' => ?_) le_rfl
            (fun _ _ _ => ?_) fun _ => trivial
          · rw [block] at block'
            cases block'
            exact not_not.1 home
          · rw [freePlaces_eq] at room
            omega

theorem kept_entryGrant {e : Entry} {E : Nat} (held : heldEntry s = some (e, E)) : Kept s (entryGrant e E s) :=
  (kept_applyEntry held).accords (Accords.refl _).endGrant

/-! ## The sweep and the stream -/

theorem kept_runBurst (E : Nat) (units : Option Nat) (s : State) : Kept s (runBurst E units s).1 := .of_work .burst

theorem Accords.afterBurst {a : State} {e : BurstEnd} (h : Accords a s) : Accords a (afterBurst e s) := by
  have swept : ∀ d b, Accords a { s with day := d, arb := { s.arb with sweep := b } } := fun d b =>
    (h.quiet (.of_arb (a := { s.arb with sweep := b }) fun _ x => x)).quiet (.of_eq rfl rfl rfl rfl rfl rfl rfl rfl rfl)
  unfold Machine.afterBurst
  cases e with
  | pauses => exact swept _ s.arb.sweep
  | goesOn => exact swept _ true
  | finished =>
    dsimp only
    split
    · exact swept _ true
    · exact swept _ s.arb.sweep

theorem kept_streamRead (E : Nat) (s : State) : Kept s (streamRead E s) := by
  unfold streamRead
  split
  case h_2 => rfl
  case h_1 g hand =>
    split
    case h_2 => rfl
    case h_1 phase =>
      have lends : g.phase.lends = true := by rw [phase]; rfl
      split
      case h_2 => rfl
      case h_1 n _ =>
        have read := Serves.readUnits (g := True) (sp := g.b.space) (n := n) (E := E) (s := s)
        refine (Kept.of_work read).accords (Accords.streamOn ?_)
        exact (Accords.refl _).setGiving (read.hand.trans hand) lends lends rfl rfl

theorem kept_freeRecords (b : Block) (n : Nat) (s : State) : Kept s (freeRecords b n s) := .of_work .freeRecords

theorem kept_freeing (b : Block) (s : State) : Kept s (freeing b s) := by
  unfold freeing
  split
  · dsimp only
    split
    · exact (kept_freeRecords b _ s).accords (Accords.refl _).endFreeing
    · exact (kept_freeRecords b _ s).accords (.of_quiet (.of_arb fun _ x => x))
  · exact .of_accords (Accords.refl s).endFreeing

section Write

variable {k E : Nat} {r : Receiving} {f : Frame}

theorem streamMatch_receives (found : streamMatch f s = some r) : s.hand = .receiving r ∧ r.phase = .receiving := by
  unfold streamMatch at found
  split at found
  · rename_i hand _
    split at found
    · rename_i same
      cases found
      exact ⟨hand, same.1⟩
    · cases found
  · cases found

/-- A unit written leaves the receiver receiving (R168). -/
theorem kept_writeUnit (held : s.arb.held = some ⟨.stream (.write k), E⟩) (x : StreamUnit) (hand : s.hand = .receiving r)
    (phase : r.phase = .receiving) : Kept s (writeUnit r x s) := by
  obtain ⟨st, fr, record⟩ := writeUnitRecord_eq r.title x s
  simp only [writeUnit, record]
  refine (Kept.of_store st fr held).accords ((Accords.refl _).setHand (fun agrees b v need => ?_) (Nat.zero_le _))
  obtain ⟨rfl, rfl⟩ := Handover.needs_of_receiving (by exact phase) need
  exact agrees _ _ (.engine (by exact hand ▸ .receiving phase))

/-- The decision after the LAST frame (R169). -/
theorem Kept.decision {v : State} (written : Kept s v) (hand : v.hand = .receiving r) (phase : r.phase = .receiving)
    (total : Nat) : Kept s (if r.units = total then takeBlock k r v else rejectBlock k r v) := by
  split
  · exact written.accords (Accords.refl _).takeBlock
  · exact written.accords ((Accords.refl _).rejectBlock hand phase)

theorem kept_streamWrite (held : s.arb.held = some ⟨.stream (.write k), E⟩) : Kept s (streamWrite k s) := by
  unfold streamWrite
  split
  case h_2 => rfl
  case h_1 age f p slot =>
    split
    case h_2 => rfl
    case h_1 b serial last x body =>
      split
      · exact .of_accords (Accords.refl s).freeSlot
      · rename_i r found
        obtain ⟨hand, phase⟩ := streamMatch_receives found
        split
        · exact .of_accords (.of_quiet (.of_arb fun _ x => x))
        · cases x with
          | none =>
            dsimp only
            split
            · exact .of_accords (Accords.refl s).freeSlot
            · split
              · rename_i is
                rw [hand] at is
                cases is
                exact (Kept.refl s).decision hand phase _
              · rfl
          | some y =>
            have written := kept_writeUnit held y hand phase
            dsimp only
            split
            · exact written.accords (Accords.refl _).freeSlot
            · split
              · rename_i is
                refine written.decision is ?_ _
                cases is
                exact phase
              · exact written

end Write

end Sys2Proof.Machine
end
section
/-! PROOFS. What a start reset and a join keep of the dispatch queue, its capacity, the views and the titles (R120, R174,
R179, R187, R199, R200; O5). -/

namespace Sys2Proof.Machine

variable {s t u v : State}

/-- What a step keeps: the dispatch queue, its capacity, the views and the titles; and a station on the line stays there
or is as a start reset leaves it. -/
structure StepKeeps (s t : State) : Prop where
  ok : s.queue.ok → t.queue.ok
  entries : s.queue.ok → s.EntriesKept → t.EntriesKept
  room : s.queue.ok → s.EntriesKept → s.RoomKept → s.HandoverKept → s.homeSettled → t.RoomKept
  agrees : s.tablesOk → s.HandoverKept → t.Agrees
  offLine : onLine s = true → t.OffLineKept
  titles : (∀ k E, s.arb.held ≠ some ⟨.stream (.write k), E⟩) → s.homeSettled → s.SettledIn t

theorem offLineKept_of_onLine (on : onLine t = true) : t.OffLineKept := by
  intro joining online
  simp [onLine, joining, online] at on

theorem Kept.step (h : Kept s t) : StepKeeps s t where
  ok := h.ok
  entries := h.entries
  room ok entries room hand settled := h.room ok entries room hand.agrees settled
  agrees _ hand := h.agrees hand.agrees
  offLine on := offLineKept_of_onLine (h.station on)
  titles := h.titles

/-! ## The start reset -/

theorem offLineKept_clearVolatile (v : State) : (clearVolatile v).OffLineKept := by
  refine fun _ _ => ⟨rfl, rfl, rfl, rfl, rfl, rfl, ?_⟩
  simp [clearVolatile, requeue, Function.comp_def]

theorem entriesKept_clearVolatile (v : State) : (clearVolatile v).EntriesKept where
  sent i mem := nomatch mem
  asked e _ _ asks := by
    rcases asks with waits | ⟨E, holds⟩
    · cases waits
    · cases holds

theorem ok_clearVolatile (ok : v.queue.ok) : (clearVolatile v).queue.ok :=
  queue_ok_map _ (fun _ => ⟨rfl, .inl rfl⟩) ok

/-- A start reset gives all reservations up (R199). -/
theorem roomKept_clearVolatile (few : v.queue.entries.length ≤ 96) : (clearVolatile v).RoomKept where
  room := by
    have none : ((requeue v.queue).entries.map Entry.reservedPlaces).sum = 0 := by
      simp [requeue, Function.comp_def, Entry.reservedPlaces]
    have free : Ctx.atReset.countP Ctx.holdsComp = 0 := by decide
    change (requeue v.queue).entries.length + (((requeue v.queue).entries.map Entry.reservedPlaces).sum + 0 +
      Ctx.atReset.countP Ctx.holdsComp + 0) ≤ 96
    rw [none, free]
    simpa [requeue] using few
  held _ is := nomatch is

/-- After a start reset the INBOUND entries alone need views. -/
theorem agrees_clearVolatile
    (home : ∀ e ∈ v.queue.entries, e.dir = .inbound → ∀ b, e.disp.block = some b → viewOf b v = .home) :
    (clearVolatile v).Agrees := by
  intro b w need
  cases need with
  | taken takes =>
    cases takes with
    | inbound mem dir block =>
      obtain ⟨e, old, rfl⟩ := List.mem_map.1 mem
      exact home e old dir b block
    | accepted acc => cases acc
  | engine need => cases need

theorem length_le_used (s : State) : s.queue.entries.length ≤ s.used := Nat.le_add_right _ _

theorem StepKeeps.reset (h : Kept s v) : StepKeeps s (clearVolatile v) where
  ok x := ok_clearVolatile (h.ok x)
  entries _ _ := entriesKept_clearVolatile v
  room ok entries room hand settled :=
    roomKept_clearVolatile ((length_le_used v).trans (h.room ok entries room hand.agrees settled).used)
  agrees _ hand := agrees_clearVolatile fun _ mem dir b block =>
    h.agrees hand.agrees b .home (.taken (.inbound mem dir block))
  offLine _ := offLineKept_clearVolatile v
  titles := h.titles

/-- The first stages of a store erase leave queue, views and titles, or have emptied them (R187). -/
theorem eraseUpTo_cases (n : Nat) (s : State) : ∃ st q w sr c,
    eraseUpTo n s = { s with store := st, queue := q, map := { s.map with views := w, serial := sr },
                             day := { s.day with county := c } } ∧
      ((q = s.queue ∧ w = s.map.views ∧ st.titles = s.store.titles) ∨
        (q = { s.queue with entries := [] } ∧ st.titles = [])) := by
  have few : min n 5 ≤ 5 := Nat.min_le_right _ _
  unfold eraseUpTo
  generalize min n 5 = m at few
  match m, few with
  | 0, _ => exact ⟨_, _, _, _, _, rfl, .inl ⟨rfl, rfl, rfl⟩⟩
  | 1, _ => exact ⟨_, _, _, _, _, rfl, .inl ⟨rfl, rfl, rfl⟩⟩
  | 2, _ => exact ⟨_, _, _, _, _, rfl, .inr ⟨rfl, rfl⟩⟩
  | 3, _ => exact ⟨_, _, _, _, _, rfl, .inr ⟨rfl, rfl⟩⟩
  | 4, _ => exact ⟨_, _, _, _, _, rfl, .inr ⟨rfl, rfl⟩⟩
  | 5, _ => exact ⟨_, _, _, _, _, rfl, .inr ⟨rfl, rfl⟩⟩

theorem ok_emptied {q : DispatchQueue} : DispatchQueue.ok { q with entries := [] } := ⟨.nil, nofun, .nil⟩

theorem SettledIn.same (settled : s.homeSettled) (titles : t.store.titles = s.store.titles) : s.SettledIn t :=
  fun n x found home whole => settled n x (by rwa [getTitle, ← titles]) whole home

theorem SettledIn.emptied (titles : t.store.titles = []) : s.SettledIn t := by
  intro n x found
  rw [getTitle, titles] at found
  cases found

theorem StepKeeps.resetInErase (n : Nat) (s : State) : StepKeeps s (clearVolatile (eraseUpTo n s)) := by
  obtain ⟨st, q, w, sr, c, same, cases⟩ := eraseUpTo_cases n s
  have queue : (eraseUpTo n s).queue = q := by rw [same]
  have views : (eraseUpTo n s).map.views = w := by rw [same]
  have titles : (clearVolatile (eraseUpTo n s)).store.titles = st.titles := by rw [same]; rfl
  rcases cases with ⟨rfl, rfl, kept⟩ | ⟨rfl, kept⟩
  · exact
      { ok := fun x => ok_clearVolatile (queue ▸ x)
        entries := fun _ _ => entriesKept_clearVolatile _
        room := fun _ _ room _ _ => roomKept_clearVolatile (queue ▸ (length_le_used s).trans room.used)
        agrees := fun _ hand => agrees_clearVolatile fun e mem dir b block => by
          rw [queue] at mem
          simpa only [viewOf, views] using hand.inbound e mem dir b block
        offLine := fun _ => offLineKept_clearVolatile _
        titles := fun _ settled => SettledIn.same settled (titles.trans kept) }
  · exact
      { ok := fun _ => ok_clearVolatile (queue ▸ ok_emptied)
        entries := fun _ _ => entriesKept_clearVolatile _
        room := fun _ _ _ _ _ => roomKept_clearVolatile (by rw [queue]; exact Nat.zero_le _)
        agrees := fun _ _ => agrees_clearVolatile fun e mem => by rw [queue] at mem; cases mem
        offLine := fun _ => offLineKept_clearVolatile _
        titles := fun _ _ => SettledIn.emptied (titles.trans kept) }

/-! ## A start reset within a grant (R179) -/

/-- The complete commit units of a grant leave, in what is nonvolatile, a state that is kept. -/
theorem kept_runUnits (units : Nat) (s : State) :
    ∃ v, Kept s v ∧ clearVolatile (runUnits units s) = clearVolatile v := by
  have staged : ∀ stages : List State, stages ≠ [] →
      (∀ w ∈ stages, ∃ v, Kept s v ∧ clearVolatile w = clearVolatile v) →
      ∃ v, Kept s v ∧ clearVolatile (stageAt units stages s) = clearVolatile v := by
    intro stages ne each
    cases units with
    | zero => exact ⟨s, .refl s, rfl⟩
    | succ n => exact each _ (stageAt_mem (Nat.succ_pos n) ne)
  have operation : ∀ h, heldOp s = some h →
      ∃ v, Kept s v ∧ clearVolatile (stageAt units (opStages h s) s) = clearVolatile v := by
    intro h _
    refine staged _ (by simp [opStages]) fun w mem => ?_
    simp only [opStages, List.mem_append, Option.mem_toList, List.mem_cons, List.not_mem_nil, or_false] at mem
    rcases mem with mark | rfl | rfl
    · obtain ⟨v, marked, same⟩ := opMark_some mark
      exact ⟨v, .of_mark marked, same⟩
    · exact ⟨_, kept_applyOp _ _ _ s, rfl⟩
    · exact ⟨_, kept_ownerGrant h s, rfl⟩
  unfold runUnits
  split
  · exact ⟨s, .refl s, rfl⟩
  · split
    · exact operation _ ‹_›
    · exact ⟨s, .refl s, rfl⟩
  · split
    · exact operation _ ‹_›
    · exact ⟨s, .refl s, rfl⟩
  · rename_i id day held
    split
    · rename_i e found
      have own : e.id = id := (mem_of_findEntry found).2
      refine staged _ (by simp [entryStages]) fun w mem => ?_
      rw [entryStages_eq, List.mem_append, Option.mem_toList, List.mem_singleton] at mem
      rcases mem with mark | rfl
      · obtain ⟨sp, n, v, -, marked, same⟩ := entryMark_some mark
        exact ⟨v, .of_mark marked, same⟩
      · exact ⟨_, kept_applyEntry (by simp [heldEntry, held, found]), rfl⟩
    · exact ⟨s, .refl s, rfl⟩
  · exact ⟨_, kept_runBurst _ _ s, rfl⟩
  · exact staged _ (by simp) (by simpa using ⟨_, .of_accords (Accords.refl s).freeze, rfl⟩)
  · exact staged _ (by simp) (by simpa using ⟨_, kept_streamRead _ s, rfl⟩)
  · rename_i k day held
    refine staged _ (by simp [writeStages]) fun w mem => ⟨w, ?_, rfl⟩
    rcases List.mem_append.1 mem with first | last
    · split at first
      · rename_i r age f p hand slot
        split at first
        · split at first
          · rename_i found
            cases List.mem_singleton.1 first
            obtain ⟨r', receives⟩ := Option.isSome_iff_exists.1 (by simpa using (Bool.and_eq_true_iff.1 found).1)
            have same := (streamMatch_receives receives).1
            rw [hand] at same
            cases same
            exact kept_writeUnit held _ hand (streamMatch_receives receives).2
          · cases first
        · cases first
      · cases first
    · cases List.mem_singleton.1 last
      exact kept_streamWrite held
  · split
    · exact ⟨_, kept_freeRecords _ _ s, rfl⟩
    · exact ⟨s, .refl s, rfl⟩

theorem stepKeeps_startReset (m : ResetMoment) (s : State) : StepKeeps s (startReset m s) := by
  cases m with
  | quiet => exact .reset (.refl s)
  | inGrant units =>
    obtain ⟨v, kept, same⟩ := kept_runUnits units s
    change StepKeeps s (clearVolatile (runUnits units s))
    rw [same]
    exact .reset kept
  | inErase stages =>
    unfold startReset
    dsimp only
    split
    · exact .resetInErase stages s
    · exact .reset (.refl s)

end Sys2Proof.Machine
end
section
/-! PROOFS. What a join keeps of the dispatch queue, its capacity, the views and the titles (R174, R200; O5). -/

namespace Sys2Proof.Machine

variable {s t u : State}

/-! ## The pass over the views and the dispatch queue (R174) -/

section Pass

variable {views : List (Nat × View)} {k : Nat}

/-- The views of the blocks that hold records are added, none changed. -/
theorem tblGet_probeStranded {v : View} (keys : List Nat) (found : tblGet views k = some v) :
    tblGet (keys.foldl probeStranded views) k = some v := by
  induction keys generalizing views with
  | nil => exact found
  | cons j keys ih =>
    refine ih ?_
    unfold probeStranded
    split
    · rename_i absent
      rw [tblGet_tblSet_other _ _ (by rintro rfl; simp [found] at absent)]
      exact found
    · exact found

/-- A HOME view becomes PROBING. -/
theorem tblGet_passViews (rising : tblRising s.map.views = true) (home : tblGet s.map.views k = some .home) :
    tblGet (passViews s) k = some .probing := by
  refine tblGet_probeStranded _ ?_
  have left : tblRising (dropOwnForeign (stationNo s) s.map.views) = true := filter_rising _ rising
  have base : tblRising ((dropOwnForeign (stationNo s) s.map.views).map fun p => (p.1, passView p.2)) = true := by
    rw [tblRising_iff] at left ⊢
    exact List.pairwise_map.2 left
  exact tblGet_of_mem base (p := (k, .probing))
    (List.mem_map.2 ⟨(k, .home), List.mem_filter.2 ⟨mem_of_tblGet home, rfl⟩, rfl⟩)

/-- An entry stands, or becomes an OUTBOUND one in phase QUEUED. -/
theorem passEntry_cases (views : List (Nat × View)) (e : Entry) :
    passEntry views e = e ∨ passEntry views e = { e with dir := .outbound, failures := 0, phase := .queued } := by
  unfold passEntry
  repeat' split
  · exact .inr rfl
  · exact .inl rfl
  · exact .inl rfl

/-- An INBOUND entry stays one only where its block does not become PROBING. -/
theorem passEntry_inbound {e : Entry} {b : Block} (dir : (passEntry views e).dir = .inbound)
    (block : (passEntry views e).disp.block = some b) :
    passEntry views e = e ∧ e.dir = .inbound ∧ e.disp.block = some b ∧ tblGet views b.key ≠ some .probing := by
  rcases passEntry_cases views e with same | out
  · rw [same] at dir block
    refine ⟨same, dir, block, fun probing => ?_⟩
    simp only [passEntry, dir, block, probing, if_true] at same
    rw [← same] at dir
    cases dir
  · rw [out] at dir
    cases dir

end Pass

section Passed

theorem ok_joinPass (ok : s.queue.ok) : (joinPass s).queue.ok := by
  refine queue_ok_map _ (fun e => ?_) ok
  rcases passEntry_cases (passViews s) e with same | out
  · rw [same]
    exact ⟨rfl, .inr rfl⟩
  · rw [out]
    exact ⟨rfl, .inl rfl⟩

theorem entriesKept_joinPass (kept : s.EntriesKept) : (joinPass s).EntriesKept where
  sent i mem k own := by
    obtain ⟨old, out⟩ := kept.sent i mem k own
    refine ⟨old, fun e mem named => ?_⟩
    obtain ⟨e', mem', rfl⟩ := List.mem_map.1 mem
    rcases passEntry_cases (passViews s) e' with same | passed
    · rw [same] at named ⊢
      exact out e' mem' named
    · rw [passed]
  asked e mem dir asks := by
    obtain ⟨e', mem', rfl⟩ := List.mem_map.1 mem
    rcases passEntry_cases (passViews s) e' with same | passed
    · rw [same] at dir asks ⊢
      exact kept.asked e' mem' dir asks
    · rw [passed] at dir
      cases dir

theorem sum_passed_le (views : List (Nat × View)) (l : List Entry) :
    ((l.map (passEntry views)).map Entry.places).sum ≤ (l.map Entry.places).sum := by
  induction l with
  | nil => exact le_rfl
  | cons e l ih =>
    have one : (passEntry views e).places ≤ e.places := by
      rcases passEntry_cases views e with same | out
      · rw [same]
      · rw [out, Entry.places, Entry.reservedPlaces_outbound rfl]
        exact Nat.le_add_right _ _
    simp only [List.map_cons, List.sum_cons]
    omega

theorem roomKept_joinPass (room : s.RoomKept) : (joinPass s).RoomKept := by
  refine ⟨?_, room.held⟩
  have used := room.used
  have fewer := sum_passed_le (passViews s) s.queue.entries
  change State.used _ ≤ 96
  simp only [State.used_places] at used ⊢
  simp only [joinPass]
  omega

/-- With nothing in acceptance and no handover, no view is needed after the pass: the INBOUND entries were of HOME
blocks. -/
theorem agrees_joinPass (rising : tblRising s.map.views = true) (agrees : s.Agrees) (acc : s.line.acc = none)
    (hand : s.hand = .idle) : (joinPass s).Agrees := by
  intro b v need
  cases need with
  | engine need =>
    simp only [joinPass, hand] at need
    cases need
  | taken takes =>
    cases takes with
    | accepted is =>
      simp only [joinPass, acc] at is
      cases is
    | inbound mem dir block =>
      obtain ⟨e, old, rfl⟩ := List.mem_map.1 mem
      obtain ⟨-, dir, block, other⟩ := passEntry_inbound dir block
      have home := agrees b .home (.taken (.inbound old dir block))
      refine absurd (tblGet_passViews rising ?_) other
      cases found : tblGet s.map.views b.key with
      | none => simp [viewOf, found] at home
      | some v => simpa [viewOf, found] using home

end Passed

/-! ## The join -/

/-- The state that a join passes over: as it was, or with the queue and the titles erased (R200). -/
theorem joinBase_cases (s : State) : ∃ st q w sr c,
    (if joinErases s then storeErase s else s) =
        { s with store := st, queue := q, map := { s.map with views := w, serial := sr },
                 day := { s.day with county := c } } ∧
      ((q = s.queue ∧ w = s.map.views ∧ st.titles = s.store.titles) ∨
        (q = { s.queue with entries := [] } ∧ st.titles = [])) := by
  split
  · exact eraseUpTo_cases 5 s
  · exact ⟨_, _, _, _, _, rfl, .inl ⟨rfl, rfl, rfl⟩⟩

/-- The pass over the state of the join, and what is kept up to there. -/
theorem stepKeeps_joinPass (station : s.station = .configured) :
    StepKeeps s (joinPass { (if joinErases s then storeErase s else s) with station := .joining }) := by
  obtain ⟨st, q, w, sr, c, base, cases⟩ := joinBase_cases s
  rw [base]
  have off : onLine s = false := by simp [onLine, station]
  have reset : s.HandoverKept → s.line.acc = none ∧ s.hand = .idle := fun hand => by
    obtain ⟨-, line, -, idle, -, -, -⟩ := hand.offLine (by simp [station]) (by simp [station])
    exact ⟨by rw [line]; rfl, idle⟩
  rcases cases with ⟨rfl, rfl, titles⟩ | ⟨rfl, titles⟩
  · exact
      { ok := fun ok => ok_joinPass (by exact ok)
        entries := fun _ kept => entriesKept_joinPass ⟨kept.sent, kept.asked⟩
        room := fun _ _ room _ _ => roomKept_joinPass ⟨room.room, room.held⟩
        agrees := fun ⟨_, _, _, rising, _⟩ hand =>
          agrees_joinPass rising (hand.agrees.same rfl rfl rfl rfl) (reset hand).1 (reset hand).2
        offLine := fun on => by rw [off] at on; cases on
        titles := fun _ settled => SettledIn.same settled titles }
  · exact
      { ok := fun _ => ok_joinPass (by exact ok_emptied)
        entries := fun _ kept => entriesKept_joinPass ⟨fun i mem k own => ⟨(kept.sent i mem k own).1, nofun⟩, nofun⟩
        room := fun _ _ room _ _ => by
          refine roomKept_joinPass ⟨le_trans ?_ room.used, room.held⟩
          change State.used _ ≤ s.used
          simp only [State.used_places, List.map_nil, List.sum_nil]
          omega
        agrees := fun _ hand => by
          intro b v need
          cases need with
          | engine need =>
            simp only [joinPass, (reset hand).2] at need
            cases need
          | taken takes =>
            cases takes with
            | accepted is =>
              simp only [joinPass, (reset hand).1] at is
              cases is
            | inbound mem => cases mem
        offLine := fun on => by rw [off] at on; cases on
        titles := fun _ _ => SettledIn.emptied titles }

/-- What changes no record, on the line, after what a step keeps. -/
theorem StepKeeps.accords (h : StepKeeps s t) (on : onLine t = true) (k : Accords t u) : StepKeeps s u where
  ok x := k.ok (h.ok x)
  entries x y := k.entries (h.ok x) (h.entries x y)
  room ok entries room hand settled := k.room (h.ok ok) (h.room ok entries room hand settled)
  agrees tables hand := k.agrees (h.agrees tables hand)
  offLine _ := offLineKept_of_onLine (k.station on)
  titles other settled n x found home whole :=
    h.titles other settled n x (by rwa [getTitle, ← k.store]) home whole

theorem Accords.freeForeign {a : State} (h : Accords a s) : Accords a (freeForeign s) := by
  refine Accords.foldl (fun v p h => ?_) _ h
  split
  · exact h.freeStranded
  · exact h

theorem stepKeeps_join (station : s.station = .configured) : StepKeeps s (join s) :=
  (stepKeeps_joinPass station).accords rfl (Accords.refl _).freeForeign.probeOn

theorem onLine_join (s : State) : onLine (join s) = true := (Accords.refl _).freeForeign.probeOn.station rfl

/-- JOIN (R200). -/
theorem stepKeeps_execJoin {tag : Nat} {f : Framing} (done : execJoin tag f s = .next t) : StepKeeps s t := by
  have plain : ∀ {v}, Accords s v → StepKeeps s v := fun h => (Kept.of_accords h).step
  unfold execJoin submitLocal at done
  split at done
  · cases done
    exact plain (.refl s)
  split at done
  · cases done
    exact plain (Accords.refl s).portAnswer.refreshAttention
  split at done
  · cases done
    exact plain (Accords.refl s).portAnswer.refreshAttention
  · cases done
    unfold submitJoin
    split
    · exact plain (Accords.refl s).portAnswer.refreshAttention
    · exact plain (Accords.refl s).portAnswer.refreshAttention
    · exact plain (Accords.refl s).portAnswer.refreshAttention
    · rename_i station
      exact (stepKeeps_join station).accords (onLine_join s) (Accords.refl _).portAnswer.refreshAttention

end Sys2Proof.Machine
end
section
/-! PROOFS. What every command keeps of the dispatch queue, its capacity, the views and the titles (O5). -/

namespace Sys2Proof.Machine

variable {s t : State}

/-! ## The grants -/

theorem stepKeeps_finish {u : State} (h : Kept s u) (done : finish u = .next t) : StepKeeps s t := by
  cases done
  exact (h.accords (Accords.refl _).refreshAttention).step

theorem stepKeeps_turnedAway (done : turnedAway s = .next t) : StepKeeps s t := by
  cases done
  exact (Kept.refl s).step

theorem stepKeeps_accords {o : Outcome} (h : accords s o) (done : o = .next t) : StepKeeps s t :=
  (Kept.of_accords (h t done)).step

theorem stepKeeps_ownerStep (code : OpCode) (done : ownerStep code s = .next t) : StepKeeps s t := by
  unfold ownerStep at done
  split at done
  · split at done
    · exact stepKeeps_finish (kept_ownerGrant _ s) done
    · exact stepKeeps_turnedAway done
  · exact stepKeeps_turnedAway done

theorem stepKeeps_dispatchStep (k : DispatchKind) (done : dispatchStep k s = .next t) : StepKeeps s t := by
  unfold dispatchStep at done
  split at done
  · rename_i held
    split at done
    · exact stepKeeps_finish (kept_entryGrant held) done
    · exact stepKeeps_turnedAway done
  · exact stepKeeps_turnedAway done

theorem stepKeeps_sweepBurst (done : execSweepBurst s = .next t) : StepKeeps s t := by
  unfold execSweepBurst at done
  split at done
  · exact stepKeeps_finish ((kept_runBurst _ none s).accords (Accords.refl _).afterBurst.endGrant) done
  · exact stepKeeps_turnedAway done

theorem stepKeeps_streamUnitRead (done : execStreamUnitRead s = .next t) : StepKeeps s t := by
  unfold execStreamUnitRead at done
  split at done
  · exact stepKeeps_finish ((kept_streamRead _ s).accords (Accords.refl _).endGrant) done
  · exact stepKeeps_turnedAway done

theorem stepKeeps_recordFreeing (done : execRecordFreeing s = .next t) : StepKeeps s t := by
  unfold execRecordFreeing at done
  split at done
  · exact stepKeeps_finish ((kept_freeing _ s).accords (Accords.refl _).endGrant) done
  · exact stepKeeps_turnedAway done

/-- The stream work that holds the grant. -/
theorem held_of_heldStream {w : StreamWork} {day : Nat} (h : heldStream s = some (w, day)) :
    s.arb.held = some ⟨.stream w, day⟩ := by
  unfold heldStream at h
  split at h
  · rename_i held
    cases h
    exact held
  · cases h

theorem stepKeeps_streamUnitWrite (done : execStreamUnitWrite s = .next t) : StepKeeps s t := by
  unfold execStreamUnitWrite at done
  split at done
  · rename_i held
    split at done
    · exact stepKeeps_turnedAway done
    · exact stepKeeps_finish ((kept_streamWrite (held_of_heldStream held)).accords (Accords.refl _).endGrant) done
  · exact stepKeeps_turnedAway done

theorem stepKeeps_streamLast (done : execStreamLast s = .next t) : StepKeeps s t := by
  unfold execStreamLast at done
  split at done
  · rename_i held
    split at done
    · exact stepKeeps_finish ((kept_streamWrite (held_of_heldStream held)).accords (Accords.refl _).endGrant) done
    · exact stepKeeps_turnedAway done
  · exact stepKeeps_turnedAway done

/-! ## Every command -/

/-- The commands, by what they can change: those that change no record, those of the grants, the join and the start
reset. -/
inductive ExecForm (i : Instr) : Prop
  | plain (h : ∀ s, accords s (exec i s))
  | owner (code : OpCode) (h : ∀ s, exec i s = ownerStep code s)
  | application (k : DispatchKind) (h : ∀ s, exec i s = dispatchStep k s)
  | sweepBurst (h : i = .sweepBurst)
  | streamUnitRead (h : i = .streamUnitRead)
  | streamWrite (h : i = .streamUnitWrite ∨ i = .streamLast)
  | recordFreeing (h : i = .recordFreeing)
  | join (tag : Nat) (f : Framing) (h : i = .join tag f)
  | startReset (m : ResetMoment) (h : i = .startReset m)

theorem execForm (i : Instr) : ExecForm i := by
  cases i with
  | unknownCommand u => exact .plain fun _ => accords_unknownCommand u
  | exchangeCutShort c => exact .plain fun _ => accords_exchangeCutShort c
  | readAnswer p => exact .plain fun _ => accords_readAnswer p
  | readNotice p => exact .plain fun _ => accords_readNotice p
  | readStatus => exact .plain fun _ => accords_readStatus
  | setMasks m => exact .plain fun _ => accords_setMasks m
  | lend | renew | checkIn | reserve | cancel | payRequest | account | itemStatus | titleStatus | enrolTitle | enrolPatron
  | updatePatron | enrolItem | withdrawItem | withdrawTitle | withdrawPatron => exact .plain fun _ => accords_request
  | handOver => exact .plain fun _ => accords_handOver
  | advanceDay => exact .plain fun s => accords_submitLocal (.advanceDay (.refl s))
  | status => exact .plain fun s => accords_submitLocal (.readStatus (.refl s))
  | faultRead => exact .plain fun s => accords_submitLocal (.readFault (.refl s))
  | configure => exact .plain fun s => accords_submitLocal (.configure (.refl s))
  | dayFrame => exact .plain fun _ => accords_dayFrame
  | dayRequeueWait => exact .plain fun _ => accords_dayRequeueWait
  | contention r => exact .plain fun _ => accords_contention r
  | frameAcceptance o r => exact .plain fun _ => accords_frameAcceptance o r
  | frameCommit => exact .plain fun _ => accords_frameCommit
  | clear st => exact .plain fun _ => accords_clear st
  | holdLimit => exact .plain fun _ => accords_holdLimit
  | clearGuard => exact .plain fun _ => accords_clearGuard
  | frameDelivered => exact .plain fun _ => accords_frameDelivered
  | frameUndelivered r => exact .plain fun _ => accords_frameUndelivered r
  | sendPlaceFreed => exact .plain fun _ => accords_sendPlaceFreed
  | reqProcessing => exact .plain fun _ => accords_reqProcessing
  | ansProcessing => exact .plain fun _ => accords_ansProcessing
  | lateAnsRetry => exact .plain fun _ => accords_lateAnsRetry
  | answerLimit c => exact .plain fun _ => accords_answerLimit c
  | deferralWait c => exact .plain fun _ => accords_deferralWait c
  | movedFrame => exact .plain fun _ => accords_movedFrame
  | movedRequeueWait b => exact .plain fun _ => accords_movedRequeueWait b
  | censusLane => exact .plain fun _ => accords_censusLane
  | censusWindowEnd cs => exact .plain fun _ => accords_censusWindowEnd cs
  | probeRetryWait => exact .plain fun _ => accords_probeRetryWait
  | retryTick => exact .plain fun _ => accords_retryTick
  | dispatchPlacesFreed => exact .plain fun _ => accords_dispatchPlacesFreed
  | handoverFreeze => exact .plain fun _ => accords_handoverFreeze
  | drainLimit => exact .plain fun _ => accords_drainLimit
  | decisionLimit => exact .plain fun _ => accords_decisionLimit
  | blockQueryRetry => exact .plain fun _ => accords_blockQueryRetry
  | lastDecision => exact .plain fun _ => accords_lastDecision
  | offer => exact .plain fun _ => accords_offer
  | idleLimit => exact .plain fun _ => accords_idleLimit
  | confirmationCensusWait => exact .plain fun _ => accords_confirmationCensusWait
  | blockQuery => exact .plain fun _ => accords_blockQuery
  | itemCreate | itemDelete | lendItem | extend | takeReturn | itemRead | titleCreate | titleDelete | copyAdd
  | holdAdd | holdDrop | titleRead | patronCreate | patronSet | patronDelete | standing | loanOpen | holdOpen
  | pay | accountRead => exact .owner _ fun _ => rfl
  | charge | credit | loanClose | holdEnded | copyState | copyFree | holdFilled | pickupLapsed | copyRemove | trap
  | untrap | allocate | redirect | release => exact .application _ fun _ => rfl
  | sweepBurst => exact .sweepBurst rfl
  | streamUnitRead => exact .streamUnitRead rfl
  | streamUnitWrite => exact .streamWrite (.inl rfl)
  | streamLast => exact .streamWrite (.inr rfl)
  | recordFreeing => exact .recordFreeing rfl
  | join tag f => exact .join tag f rfl
  | startReset m => exact .startReset m rfl

/-- Every command keeps what a step keeps. -/
theorem stepKeeps_exec {i : Instr} (done : exec i s = .next t) : StepKeeps s t := by
  cases execForm i with
  | plain h => exact stepKeeps_accords (h s) done
  | owner code h => exact stepKeeps_ownerStep code ((h s).symm.trans done)
  | application k h => exact stepKeeps_dispatchStep k ((h s).symm.trans done)
  | sweepBurst h =>
    subst h
    exact stepKeeps_sweepBurst done
  | streamUnitRead h =>
    subst h
    exact stepKeeps_streamUnitRead done
  | streamWrite h =>
    rcases h with rfl | rfl
    · exact stepKeeps_streamUnitWrite done
    · exact stepKeeps_streamLast done
  | recordFreeing h =>
    subst h
    exact stepKeeps_recordFreeing done
  | join tag f h =>
    subst h
    exact stepKeeps_execJoin (tag := tag) (f := f) done
  | startReset m h =>
    subst h
    rw [exec_startReset] at done
    cases done
    exact stepKeeps_startReset m s

end Sys2Proof.Machine
end
section
/-! PROOFS. A step whose grant writes a unit of a stream changes no title but the one the receiver has open and the one the
unit names (R168; O5). -/

namespace Sys2Proof.Machine

variable {s t v : State} {k n E : Nat}

/-- Every title of the number that stands after was there before. -/
def State.noNewTitle (n : Nat) (s t : State) : Prop := ∀ x, getTitle n t = some x → getTitle n s = some x

theorem noNewTitle_of_titles (titles : t.store.titles = s.store.titles) : s.noNewTitle n t :=
  fun x found => by rwa [getTitle, ← titles]

theorem noNewTitle_of_store (store : t.store = s.store) : s.noNewTitle n t := noNewTitle_of_titles (by rw [store])

theorem noNewTitle_emptied (titles : t.store.titles = []) : s.noNewTitle n t := by
  intro x found
  rw [getTitle, titles] at found
  cases found

/-! ## The erase and the join (R187, R200) -/

theorem noNewTitle_eraseUpTo (m : Nat) (s : State) : s.noNewTitle n (eraseUpTo m s) := by
  obtain ⟨st, q, w, sr, c, same, ⟨-, -, titles⟩ | ⟨-, titles⟩⟩ := eraseUpTo_cases m s
  · rw [same]
    exact noNewTitle_of_titles titles
  · rw [same]
    exact noNewTitle_emptied titles

theorem noNewTitle_join (s : State) : s.noNewTitle n (join s) := by
  have store : (join s).store = (if joinErases s then storeErase s else s).store :=
    (Accords.refl (joinPass { (if joinErases s then storeErase s else s) with station := .joining })).freeForeign.probeOn.store
  intro x found
  rw [getTitle, store] at found
  split at found
  · exact noNewTitle_eraseUpTo 5 s x found
  · exact found

theorem noNewTitle_execJoin {tag : Nat} {f : Framing} (done : execJoin tag f s = .next t) : s.noNewTitle n t := by
  have plain : ∀ {v}, Accords s v → s.noNewTitle n v := fun h => noNewTitle_of_store h.store
  unfold execJoin submitLocal at done
  split at done
  · cases done
    exact plain (.refl s)
  split at done
  · cases done
    exact plain (Accords.refl s).portAnswer.refreshAttention
  split at done
  · cases done
    exact plain (Accords.refl s).portAnswer.refreshAttention
  · cases done
    unfold submitJoin
    split
    · exact plain (Accords.refl s).portAnswer.refreshAttention
    · exact plain (Accords.refl s).portAnswer.refreshAttention
    · exact plain (Accords.refl s).portAnswer.refreshAttention
    · have answered {v : State} (h : Accords (join s) v) : s.noNewTitle n v := fun x found =>
        noNewTitle_join s x (noNewTitle_of_store h.store x found)
      exact answered (Accords.refl _).portAnswer.refreshAttention

/-! ## The write of a unit -/

/-- A unit that does not name the title leaves it, where the title is not the open one. -/
theorem getTitle_writeUnitRecord {o : Nat} {u : StreamUnit} (other : n ≠ o) (header : ∀ h day, u ≠ .titleHeader n h day)
    (marker : u ≠ .marker .title n) : getTitle n (writeUnitRecord o u s) = getTitle n s := by
  have raw : ∀ (m : Nat) (x : Title) (v : State), n ≠ m → getTitle n (putTitleRaw m x v) = getTitle n v :=
    fun m x v ne => tblGet_tblSet_other _ _ ne
  cases u with
  | item | patron => rfl
  | titleHeader m h day =>
    refine getTitle_putTitle_other _ _ fun own => ?_
    subst own
    exact header h day rfl
  | copyRef | holdEntry =>
    unfold writeUnitRecord
    dsimp only
    split
    · exact raw _ _ _ other
    · rfl
  | marker sp m =>
    cases sp with
    | item | patron => rfl
    | title => exact raw m _ _ fun own => marker (by rw [own])

section Unit

variable {age : Nat} {f : Frame} {kept : Bool} {b : Block} {serial : Nat} {last : Option Nat} {u : Option StreamUnit}
  {r : Receiving}

/-- The records that a STREAM frame's grant leaves: as they were, or with its unit written. -/
theorem streamWrite_store (slot : getSlot k s = .processing age f kept) (body : f.body = .stream b serial last u)
    (hand : s.hand = .receiving r) :
    (streamWrite k s).store = s.store ∨
      ∃ x, u = some x ∧ (streamWrite k s).store = (writeUnitRecord r.title x s).store := by
  cases found : streamMatch f s with
  | none =>
    left
    simp only [streamWrite, slot, body, found]
    exact (Accords.refl s).freeSlot.store
  | some r' =>
    obtain ⟨hand', phase⟩ := streamMatch_receives found
    rw [hand] at hand'
    cases hand'
    simp only [streamWrite, slot, body, found]
    split
    · exact .inl rfl
    · cases u with
      | none =>
        left
        dsimp only
        repeat' split
        · exact (Accords.refl s).freeSlot.store
        · exact (Accords.refl s).takeBlock.store
        · rename_i is _
          rw [hand] at is
          cases is
          exact ((Accords.refl s).rejectBlock hand phase).store
        · rfl
      | some x =>
        refine .inr ⟨x, rfl, ?_⟩
        have written : (writeUnit r x s).store = (writeUnitRecord r.title x s).store := rfl
        rw [← written]
        dsimp only
        repeat' split
        · exact (Accords.refl _).freeSlot.store
        · exact (Accords.refl _).takeBlock.store
        · rename_i is _
          refine ((Accords.refl _).rejectBlock is ?_).store
          cases is
          exact phase
        · rfl

section Named

variable (other : n ≠ r.title) (header : ∀ h day, u ≠ some (.titleHeader n h day)) (marker : u ≠ some (.marker .title n))
include other header marker

theorem noNewTitle_writeUnit {x : StreamUnit} (unit : u = some x) : s.noNewTitle n (writeUnit r x s) := by
  have same := getTitle_writeUnitRecord (s := s) (u := x) other (fun h day is => header h day (by rw [unit, is]))
    fun is => marker (by rw [unit, is])
  exact fun y found => same.symm.trans found

variable (slot : getSlot k s = .processing age f kept) (body : f.body = .stream b serial last u)
  (hand : s.hand = .receiving r)
include slot body hand

theorem noNewTitle_streamWrite : s.noNewTitle n (streamWrite k s) := by
  rcases streamWrite_store slot body hand with same | ⟨x, unit, written⟩
  · exact noNewTitle_of_store same
  · intro y found
    rw [getTitle, written] at found
    exact noNewTitle_writeUnit other header marker unit y found

theorem noNewTitle_runUnits (held : s.arb.held = some ⟨.stream (.write k), E⟩) (units : Nat) :
    s.noNewTitle n (runUnits units s) := by
  rw [runUnits_write held]
  cases units with
  | zero => exact fun _ => id
  | succ m =>
    have mem := stageAt_mem (s := s) (units := m + 1) (stages := writeStages k s) (by omega) (by simp [writeStages])
    rcases List.mem_append.1 mem with first | last
    · simp only [hand, slot, body] at first
      split at first
      · rename_i is
        cases is
        split at first
        · rw [List.mem_singleton.1 first]
          exact noNewTitle_writeUnit other header marker rfl
        · cases first
      · cases first
    · rw [List.mem_singleton.1 last]
      exact noNewTitle_streamWrite other header marker slot body hand

theorem noNewTitle_exec {i : Instr} (held : s.arb.held = some ⟨.stream (.write k), E⟩) (done : exec i s = .next t) :
    s.noNewTitle n t := by
  have same : turnedAway s = .next t → s.noNewTitle n t := by
    rintro ⟨⟩
    exact fun _ => id
  have written : ∀ {t}, turnedAway s = .next t ∨ finish (endGrant (streamWrite k s)) = .next t → s.noNewTitle n t := by
    rintro t (⟨⟨⟩⟩ | ⟨⟨⟩⟩)
    · exact fun _ => id
    · exact noNewTitle_streamWrite other header marker slot body hand
  cases execForm i with
  | plain h => exact noNewTitle_of_store (h s t done).store
  | owner code h =>
    rw [h, ownerStep, show heldOp s = none by simp [heldOp, held]] at done
    exact same done
  | application kind h =>
    rw [h, dispatchStep, show heldEntry s = none by simp [heldEntry, held]] at done
    exact same done
  | sweepBurst h =>
    subst h
    change execSweepBurst s = _ at done
    rw [execSweepBurst, held] at done
    exact same done
  | streamUnitRead h =>
    subst h
    change execStreamUnitRead s = _ at done
    rw [execStreamUnitRead, show heldStream s = some (.write k, E) by simp [heldStream, held]] at done
    exact same done
  | recordFreeing h =>
    subst h
    change execRecordFreeing s = _ at done
    rw [execRecordFreeing, show heldStream s = some (.write k, E) by simp [heldStream, held]] at done
    exact same done
  | streamWrite h =>
    have stream : heldStream s = some (.write k, E) := by simp [heldStream, held]
    rcases h with rfl | rfl
    · change execStreamUnitWrite s = _ at done
      rw [execStreamUnitWrite, stream] at done
      dsimp only at done
      split at done
      · exact same done
      · exact written (.inr done)
    · change execStreamLast s = _ at done
      rw [execStreamLast, stream] at done
      dsimp only at done
      split at done
      · exact written (.inr done)
      · exact same done
  | join tag f h =>
    subst h
    exact noNewTitle_execJoin (tag := tag) (f := f) done
  | startReset m h =>
    subst h
    rw [exec_startReset] at done
    cases done
    cases m with
    | quiet => exact fun _ => id
    | inGrant units => exact noNewTitle_runUnits other header marker slot body hand held units
    | inErase stages =>
      unfold startReset
      dsimp only
      split
      · exact noNewTitle_eraseUpTo stages s
      · exact fun _ => id

end Named

end Unit

end Sys2Proof.Machine
end
section
/-! PROOFS. A station off the line stays as a start reset leaves it: there only the port's own exchanges, a configuration,
a start reset and a join have a cause (R120, R190, R198, R199; O5). -/

namespace Sys2Proof.Machine

variable {s t : State}

/-- Off the line, with every volatile state as a start reset leaves it. -/
structure State.AtReset (s : State) : Prop where
  joining : s.station ≠ .joining
  online : s.station ≠ .online
  ctxs : s.ctxs = Ctx.atReset
  line : s.line = LineEngine.atReset
  arb : s.arb = Arbiter.atReset
  hand : s.hand = .idle
  day : s.day = (clearVolatile s).day
  map : s.map = (clearVolatile s).map
  queue : s.queue = (clearVolatile s).queue

theorem State.HandoverKept.atReset (h : s.HandoverKept) (joining : s.station ≠ .joining) (online : s.station ≠ .online) :
    s.AtReset :=
  have ⟨ctxs, line, arb, hand, day, map, queue⟩ := h.offLine joining online
  ⟨joining, online, ctxs, line, arb, hand, day, map, queue⟩

/-- The two states differ in the port and the configuration at most, and in the station's own state. -/
def State.PortOnly (s t : State) : Prop := ∃ p c x, t = { s with port := p, conf := c, station := x }

theorem State.PortOnly.refl (s : State) : s.PortOnly s := ⟨_, _, _, rfl⟩

theorem State.AtReset.offLineKept (h : s.AtReset) (only : s.PortOnly t) : t.OffLineKept := by
  obtain ⟨p, c, x, rfl⟩ := only
  exact fun _ _ => ⟨h.ctxs, h.line, h.arb, h.hand, h.day, h.map, h.queue⟩

/-- A command that leaves all but the port and the configuration. -/
abbrev portOnly (s : State) : Outcome → Prop := leaves s.PortOnly

theorem portOnly_turnedAway (s : State) : portOnly s (turnedAway s) := by
  rintro _ ⟨⟩
  exact .refl s

theorem portOnly_finish {u : State} (h : s.PortOnly u) : portOnly s (finish u) := by
  rintro _ ⟨⟩
  obtain ⟨p, c, x, rfl⟩ := h
  exact ⟨_, _, _, rfl⟩

/-! ## The port's own exchanges -/

theorem portOnly_unknownCommand (u : UnknownOctet) : portOnly s (execUnknownCommand u s) := by
  unfold execUnknownCommand
  repeat' split
  · exact portOnly_turnedAway s
  · exact portOnly_finish ⟨_, _, _, rfl⟩
  · exact portOnly_finish ⟨_, _, _, rfl⟩

theorem portOnly_exchangeCutShort (command : PortCommand) : portOnly s (execExchangeCutShort command s) := by
  unfold execExchangeCutShort
  split
  · exact portOnly_finish (.refl s)
  · exact portOnly_finish ⟨_, _, _, rfl⟩
  · exact portOnly_finish ⟨_, _, _, rfl⟩
  · exact portOnly_turnedAway s

theorem portOnly_completeNotice (held : Option Notice) : s.PortOnly (completeNotice held s) := by
  unfold completeNotice
  split
  · exact ⟨_, _, _, rfl⟩
  · exact ⟨_, _, _, rfl⟩

theorem portOnly_readNotice (part : ReadPart) : portOnly s (execReadNotice part s) := by
  unfold execReadNotice
  split
  · exact portOnly_finish ⟨_, _, _, rfl⟩
  · exact portOnly_finish (portOnly_completeNotice _)
  · exact portOnly_finish (portOnly_completeNotice _)
  · exact portOnly_turnedAway s

theorem portOnly_readStatus : portOnly s (execReadStatus s) := by
  unfold execReadStatus
  split
  · exact portOnly_turnedAway s
  · exact portOnly_finish ⟨_, _, _, rfl⟩

/-- A command whose event has no cause changes nothing. -/
theorem portOnly_of_eq {o : Outcome} (away : o = turnedAway s) : portOnly s o := away ▸ portOnly_turnedAway s

theorem portOnly_configure (tag : Nat) (p : Piece) : s.PortOnly (configure tag p s) := by
  unfold configure
  repeat' split
  all_goals exact ⟨_, _, _, rfl⟩

/-! ## What a station as reset has none of -/

namespace State.AtReset

variable (h : s.AtReset)
include h

theorem not_onLine : onLine s = false := by simp [onLine, h.joining, h.online]

theorem free_of_getCtx {c : Nat} {x : Ctx} (found : getCtx c s = some x) : x.st = .free := by
  rw [getCtx, h.ctxs] at found
  rw [List.eq_of_mem_replicate (List.mem_of_getElem? found)]

theorem getRun_none (c : Nat) : getRun c s = none := by
  unfold getRun
  split
  · rename_i found
    cases h.free_of_getCtx found
  · rfl

theorem getSlot_free (k : Nat) : getSlot k s = .free := by
  rw [getSlot, h.line]
  match k with
  | 0 | 1 | _ + 2 => rfl

theorem headSlot_none : headSlot s = none := by
  simp [headSlot, h.getSlot_free, h.line, LineEngine.atReset, Slot.busy, Slot.fullFrame, List.range_succ]

theorem processingSlot_none (p : Frame → Bool) : processingSlot p s = none := by
  simp [processingSlot, h.getSlot_free]

theorem sending_none : sending s = none := by rw [sending, h.line]; rfl

theorem heldOp_none : heldOp s = none := by rw [heldOp, h.arb]; rfl

theorem heldEntry_none : heldEntry s = none := by rw [heldEntry, h.arb]; rfl

theorem heldStream_none : heldStream s = none := by rw [heldStream, h.arb]; rfl

theorem walk_eq : walk s = s := if_neg h.online

theorem retryLate_eq (room : Nat) : retryLate room s = s := by
  rw [retryLate, waitingLate, h.processingSlot_none]

theorem queued {e : Entry} (mem : e ∈ s.queue.entries) : e.phase = .queued := by
  rw [h.queue] at mem
  obtain ⟨e', -, rfl⟩ := List.mem_map.1 mem
  rfl

theorem offerApplications_eq (room : Nat) : offerApplications s.queue.entries room s = (s, room) := by
  have idle : ∀ l : List Entry, (∀ e ∈ l, e.phase = .queued) → offerApplications l room s = (s, room) := by
    intro l queued
    induction l with
    | nil => rfl
    | cons e l ih =>
      rw [offerApplications, if_neg (by simp [queued e List.mem_cons_self])]
      exact ih fun e mem => queued e (List.mem_cons_of_mem _ mem)
  exact idle _ fun _ mem => h.queued mem

theorem offerSweep_eq (room : Nat) : offerSweep room s = s :=
  if_neg fun ⟨paused, _⟩ => by rw [h.day] at paused; cases paused

/-! ## The commands without a cause -/

theorem ownerStep_away (code : OpCode) : ownerStep code s = turnedAway s := by rw [ownerStep, h.heldOp_none]

theorem dispatchStep_away (k : DispatchKind) : dispatchStep k s = turnedAway s := by rw [dispatchStep, h.heldEntry_none]

theorem dayFrame_away : execDayFrame s = turnedAway s := by
  rw [execDayFrame, h.headSlot_none]

theorem reqProcessing_away : execReqProcessing s = turnedAway s := by
  rw [execReqProcessing, h.headSlot_none]

theorem ansProcessing_away : execAnsProcessing s = turnedAway s := by
  rw [execAnsProcessing, h.headSlot_none]

theorem lateAnsRetry_away : execLateAnsRetry s = turnedAway s := by
  rw [execLateAnsRetry, waitingLate, h.processingSlot_none]

theorem movedFrame_away : execMovedFrame s = turnedAway s := by
  rw [execMovedFrame, h.headSlot_none]

theorem lastDecision_away : execLastDecision s = turnedAway s := by
  rw [execLastDecision, h.headSlot_none]

theorem offer_away : execOffer s = turnedAway s := by
  rw [execOffer, h.processingSlot_none]

theorem blockQuery_away : execBlockQuery s = turnedAway s := by
  rw [execBlockQuery, h.processingSlot_none]

theorem dayRequeueWait_away : execDayRequeueWait s = turnedAway s := by
  rw [execDayRequeueWait, h.day]
  rfl

theorem answerLimit_away (c : Nat) : execAnswerLimit c s = turnedAway s := by
  rw [execAnswerLimit, h.getRun_none]

theorem deferralWait_away (c : Nat) : execDeferralWait c s = turnedAway s := by
  rw [execDeferralWait, h.getRun_none]

theorem movedRequeueWait_away (b : Block) : execMovedRequeueWait b s = turnedAway s := by
  rw [execMovedRequeueWait, h.map]
  rfl

theorem probeRetryWait_away : execProbeRetryWait s = turnedAway s := by
  rw [execProbeRetryWait, h.map]
  rfl

theorem retryTick_away : execRetryTick s = turnedAway s := by
  rw [execRetryTick, if_neg h.online]

theorem drainLimit_away : execDrainLimit s = turnedAway s := by
  rw [execDrainLimit, h.hand]

theorem decisionLimit_away : execDecisionLimit s = turnedAway s := by
  rw [execDecisionLimit, h.hand]

theorem blockQueryRetry_away : execBlockQueryRetry s = turnedAway s := by
  rw [execBlockQueryRetry, h.hand]

theorem idleLimit_away : execIdleLimit s = turnedAway s := by
  rw [execIdleLimit, h.hand]

theorem confirmationCensusWait_away : execConfirmationCensusWait s = turnedAway s := by
  rw [execConfirmationCensusWait, h.hand]

theorem contention_away (rivals : List Nat) : execContention rivals s = turnedAway s := by
  rw [execContention, h.line]
  rfl

theorem frameAcceptance_away (octets : List Octet) (other : Bool) : execFrameAcceptance octets other s = turnedAway s := by
  rw [execFrameAcceptance, h.not_onLine]
  rfl

theorem holdLimit_away : execHoldLimit s = turnedAway s := by
  rw [execHoldLimit, h.line]
  rfl

theorem clearGuard_away : execClearGuard s = turnedAway s := by
  rw [execClearGuard, h.line]
  rfl

theorem frameDelivered_away : execFrameDelivered s = turnedAway s := by
  rw [execFrameDelivered, h.sending_none]

theorem frameUndelivered_away (result : SendResult) : execFrameUndelivered result s = turnedAway s := by
  rw [execFrameUndelivered, h.sending_none]

theorem censusLane_away : execCensusLane s = turnedAway s := by
  rw [execCensusLane, h.line]
  rfl

theorem censusWindowEnd_away (claims : List Claim) : execCensusWindowEnd claims s = turnedAway s := by
  rw [execCensusWindowEnd, h.line]
  rfl

theorem sweepBurst_away : execSweepBurst s = turnedAway s := by
  rw [execSweepBurst, h.arb]
  rfl

theorem streamUnitRead_away : execStreamUnitRead s = turnedAway s := by
  rw [execStreamUnitRead, h.heldStream_none]

theorem streamUnitWrite_away : execStreamUnitWrite s = turnedAway s := by
  rw [execStreamUnitWrite, h.heldStream_none]

theorem streamLast_away : execStreamLast s = turnedAway s := by
  rw [execStreamLast, h.heldStream_none]

theorem recordFreeing_away : execRecordFreeing s = turnedAway s := by
  rw [execRecordFreeing, h.heldStream_none]

theorem handoverFreeze_away : execHandoverFreeze s = turnedAway s := by
  rw [execHandoverFreeze, h.heldStream_none]

/-! ## The commands -/

theorem portOnly_submit {tag kind : Nat} {f : Framing} {inRange : Bool} {q : Request} {start : Nat → State → State} :
    portOnly s (submit tag kind f inRange q start s) := by
  unfold submit
  split
  · exact portOnly_turnedAway s
  split
  · exact portOnly_finish ⟨_, _, _, rfl⟩
  rw [if_pos h.online]
  exact portOnly_finish ⟨_, _, _, rfl⟩

/-- A request that asks for ONLINE is not carried out, and any other leaves all but the port and the configuration. -/
theorem portOnly_submitLocal {tag kind : Nat} {f : Framing} {online : Bool} {done : State → State}
    (local_ : online = false → s.PortOnly (done s)) : portOnly s (submitLocal tag kind f online done s) := by
  unfold submitLocal
  split
  · exact portOnly_turnedAway s
  split
  · exact portOnly_finish ⟨_, _, _, rfl⟩
  split
  · exact portOnly_finish ⟨_, _, _, rfl⟩
  · rename_i on
    exact portOnly_finish (local_ (by simpa [h.online] using on))

theorem portOnly_completeAnswer (held : Option Nat) : s.PortOnly (completeAnswer held s) := by
  unfold completeAnswer takeOutAnswer
  split
  · split
    · rename_i found
      cases h.free_of_getCtx found
    · exact ⟨_, _, _, rfl⟩
  · exact ⟨_, _, _, rfl⟩

theorem portOnly_holdFell : portOnly s (holdFell s) := by
  rw [holdFell, h.line]
  exact portOnly_turnedAway s

theorem portOnly_sendPlaceFreed : portOnly s (execSendPlaceFreed s) := by
  have offered : offerPlaces s = s := by rw [offerPlaces, h.line]; rfl
  have begun : beginStream s = s := by rw [beginStream, h.headSlot_none]
  rw [execSendPlaceFreed, offered, begun, h.walk_eq]
  exact portOnly_finish (.refl s)

theorem portOnly_dispatchPlacesFreed : portOnly s (execDispatchPlacesFreed s) := by
  rw [execDispatchPlacesFreed, dispatchPlacesFreed, h.offerApplications_eq]
  dsimp only
  rw [h.offerSweep_eq, h.retryLate_eq, h.walk_eq]
  exact portOnly_finish (.refl s)

theorem portOnly_readAnswer (part : ReadPart) : portOnly s (execReadAnswer part s) := by
  unfold execReadAnswer
  split
  · exact portOnly_finish ⟨_, _, _, rfl⟩
  · exact portOnly_finish (h.portOnly_completeAnswer _)
  · exact portOnly_finish (h.portOnly_completeAnswer _)
  · exact portOnly_turnedAway s

theorem portOnly_setMasks (masks : BitVec 8) : portOnly s (execSetMasks masks s) := by
  rw [execSetMasks, if_pos h.online]
  split
  · exact portOnly_turnedAway s
  · exact portOnly_finish ⟨_, _, _, rfl⟩

theorem portOnly_frameCommit : portOnly s (execFrameCommit s) := by
  rw [execFrameCommit, h.line]
  exact h.portOnly_holdFell

theorem portOnly_clear (st : Nat) : portOnly s (execClear st s) := by
  rw [execClear, h.line]
  exact h.portOnly_holdFell

/-- No command but a start reset and a join reaches past the port and the configuration. -/
theorem portOnly_exec (i : Instr) (join : ∀ tag f, i ≠ .join tag f) (reset : ∀ m, i ≠ .startReset m) :
    portOnly s (exec i s) := by
  cases i with
  | join tag f => exact absurd rfl (join tag f)
  | startReset m => exact absurd rfl (reset m)
  | unknownCommand u => exact portOnly_unknownCommand u
  | exchangeCutShort c => exact portOnly_exchangeCutShort c
  | readNotice p => exact portOnly_readNotice p
  | readStatus => exact portOnly_readStatus
  | readAnswer p => exact h.portOnly_readAnswer p
  | setMasks m => exact h.portOnly_setMasks m
  | lend | renew | checkIn | reserve | cancel | payRequest | account | itemStatus | titleStatus | enrolTitle | enrolPatron
  | updatePatron | enrolItem | withdrawItem | withdrawTitle | withdrawPatron | handOver => exact h.portOnly_submit
  | advanceDay => exact h.portOnly_submitLocal nofun
  | status => exact h.portOnly_submitLocal fun _ => ⟨_, _, _, rfl⟩
  | faultRead => exact h.portOnly_submitLocal nofun
  | configure => exact h.portOnly_submitLocal fun _ => portOnly_configure _ _
  | itemCreate | itemDelete | lendItem | extend | takeReturn | itemRead | titleCreate | titleDelete | copyAdd
  | holdAdd | holdDrop | titleRead | patronCreate | patronSet | patronDelete | standing | loanOpen | holdOpen
  | pay | accountRead => exact portOnly_of_eq (h.ownerStep_away _)
  | charge | credit | loanClose | holdEnded | copyState | copyFree | holdFilled | pickupLapsed | copyRemove | trap
  | untrap | allocate | redirect | release => exact portOnly_of_eq (h.dispatchStep_away _)
  | sweepBurst => exact portOnly_of_eq h.sweepBurst_away
  | streamUnitRead => exact portOnly_of_eq h.streamUnitRead_away
  | streamUnitWrite => exact portOnly_of_eq h.streamUnitWrite_away
  | streamLast => exact portOnly_of_eq h.streamLast_away
  | recordFreeing => exact portOnly_of_eq h.recordFreeing_away
  | handoverFreeze => exact portOnly_of_eq h.handoverFreeze_away
  | dayFrame => exact portOnly_of_eq h.dayFrame_away
  | reqProcessing => exact portOnly_of_eq h.reqProcessing_away
  | ansProcessing => exact portOnly_of_eq h.ansProcessing_away
  | lateAnsRetry => exact portOnly_of_eq h.lateAnsRetry_away
  | movedFrame => exact portOnly_of_eq h.movedFrame_away
  | lastDecision => exact portOnly_of_eq h.lastDecision_away
  | offer => exact portOnly_of_eq h.offer_away
  | blockQuery => exact portOnly_of_eq h.blockQuery_away
  | dayRequeueWait => exact portOnly_of_eq h.dayRequeueWait_away
  | answerLimit c => exact portOnly_of_eq (h.answerLimit_away c)
  | deferralWait c => exact portOnly_of_eq (h.deferralWait_away c)
  | movedRequeueWait b => exact portOnly_of_eq (h.movedRequeueWait_away b)
  | probeRetryWait => exact portOnly_of_eq h.probeRetryWait_away
  | retryTick => exact portOnly_of_eq h.retryTick_away
  | drainLimit => exact portOnly_of_eq h.drainLimit_away
  | decisionLimit => exact portOnly_of_eq h.decisionLimit_away
  | blockQueryRetry => exact portOnly_of_eq h.blockQueryRetry_away
  | idleLimit => exact portOnly_of_eq h.idleLimit_away
  | confirmationCensusWait => exact portOnly_of_eq h.confirmationCensusWait_away
  | contention r => exact portOnly_of_eq (h.contention_away r)
  | frameAcceptance o r => exact portOnly_of_eq (h.frameAcceptance_away o r)
  | frameCommit => exact h.portOnly_frameCommit
  | clear st => exact h.portOnly_clear st
  | holdLimit => exact portOnly_of_eq h.holdLimit_away
  | clearGuard => exact portOnly_of_eq h.clearGuard_away
  | frameDelivered => exact portOnly_of_eq h.frameDelivered_away
  | frameUndelivered r => exact portOnly_of_eq (h.frameUndelivered_away r)
  | censusLane => exact portOnly_of_eq h.censusLane_away
  | censusWindowEnd cs => exact portOnly_of_eq (h.censusWindowEnd_away cs)
  | sendPlaceFreed => exact h.portOnly_sendPlaceFreed
  | dispatchPlacesFreed => exact h.portOnly_dispatchPlacesFreed

end State.AtReset

/-! ## Every command -/

/-- A join changes only the port, or takes the station onto the line (R200). -/
theorem offLineKept_execJoin {tag : Nat} {f : Framing} (h : s.AtReset) (done : execJoin tag f s = .next t) :
    t.OffLineKept := by
  by_cases station : s.station = .configured
  · unfold execJoin submitLocal submitJoin at done
    rw [station] at done
    split at done
    · cases done
      exact h.offLineKept (.refl s)
    split at done
    · cases done
      exact h.offLineKept ⟨_, _, _, rfl⟩
    split at done
    · cases done
      exact h.offLineKept ⟨_, _, _, rfl⟩
    · cases done
      have joined {v : State} (k : Accords (join s) v) : v.OffLineKept := offLineKept_of_onLine (k.station (onLine_join s))
      exact joined (Accords.refl _).portAnswer.refreshAttention
  · refine h.offLineKept (h.portOnly_submitLocal (fun _ => ?_) t done)
    unfold submitJoin
    split
    · exact ⟨_, _, _, rfl⟩
    · exact ⟨_, _, _, rfl⟩
    · exact ⟨_, _, _, rfl⟩
    · rename_i configured
      exact absurd configured station

theorem offLineKept_startReset (m : ResetMoment) (s : State) : (startReset m s).OffLineKept := by
  unfold startReset
  repeat' split
  all_goals exact offLineKept_clearVolatile _

/-- A station off the line stays as a start reset leaves it, or is on the line. -/
theorem offLineKept_exec {i : Instr} (h : s.AtReset) (done : exec i s = .next t) : t.OffLineKept := by
  by_cases join : ∃ tag f, i = .join tag f
  · obtain ⟨tag, f, rfl⟩ := join
    exact offLineKept_execJoin (tag := tag) (f := f) h done
  by_cases reset : ∃ m, i = .startReset m
  · obtain ⟨m, rfl⟩ := reset
    rw [exec_startReset] at done
    cases done
    exact offLineKept_startReset m s
  · exact h.offLineKept (h.portOnly_exec i (fun tag f is => join ⟨tag, f, is⟩) (fun m is => reset ⟨m, is⟩) t done)

end Sys2Proof.Machine
end
section
/-! PROOFS. What every step keeps of the dispatch queue, its capacity, the views and the titles: the obligation O5. -/

namespace Sys2Proof.Machine

variable {s t : State}

/-- The commands that wait are no part of what is kept. -/
theorem State.EntriesKept.pending (kept : s.EntriesKept) (rest : List Instr) : ({ s with pending := rest } : State).EntriesKept :=
  ⟨kept.sent, kept.asked⟩

theorem State.RoomKept.pending (room : s.RoomKept) (rest : List Instr) : ({ s with pending := rest } : State).RoomKept :=
  ⟨room.room, room.held⟩

theorem State.HandoverKept.pending (hand : s.HandoverKept) (rest : List Instr) :
    ({ s with pending := rest } : State).HandoverKept :=
  ⟨hand.inbound, hand.accepted, hand.giving, hand.receiving, hand.offLine⟩

theorem StepKeeps.of_pending {rest : List Instr} (h : StepKeeps { s with pending := rest } t) : StepKeeps s t where
  ok := h.ok
  entries ok kept := h.entries ok (kept.pending rest)
  room ok kept room hand := h.room ok (kept.pending rest) (room.pending rest) (hand.pending rest)
  agrees tables hand := h.agrees tables (hand.pending rest)
  offLine := h.offLine
  titles := h.titles

/-- A step is the command at the front of those that wait, or changes nothing. -/
theorem step_next_cases (done : step s = .next t) : t = s ∨ ∃ c rest, exec c { s with pending := rest } = .next t := by
  unfold step at done
  split at done
  · cases done
    exact .inl rfl
  · exact .inr ⟨_, _, done⟩

theorem stepKeeps_step (done : step s = .next t) : StepKeeps s t := by
  rcases step_next_cases done with rfl | ⟨c, rest, done⟩
  · exact (Kept.refl t).step
  · exact (stepKeeps_exec done).of_pending

theorem handoverKept_step (tables : s.tablesOk) (hand : s.HandoverKept) (done : step s = .next t) : t.HandoverKept := by
  refine ((stepKeeps_step done).agrees tables hand).handoverKept ?_
  rcases step_next_cases done with rfl | ⟨c, rest, taken⟩
  · exact hand.offLine
  cases on : onLine s
  · simp only [onLine, Bool.or_eq_false_iff, beq_eq_false_iff_ne] at on
    obtain ⟨joining, online⟩ := on
    exact offLineKept_exec ((hand.pending rest).atReset joining online) taken
  · exact (stepKeeps_step done).offLine on

/-- Settles O5: every command keeps, by its form, what `StepKeeps` says (R120 to R129, R160 to R169), a station off the
line stays as reset, and the write of a unit makes or changes only the titles named. -/
theorem oneFlightPerDestination : Obligations.OneFlightPerDestination := by
  refine ⟨fun s t ok done => (stepKeeps_step done).ok ok, fun s t ok kept done => (stepKeeps_step done).entries ok kept,
    fun s t ok kept room hand settled done => (stepKeeps_step done).room ok kept room hand settled,
    fun s t tables hand done => handoverKept_step tables hand done, ?_, ?_⟩
  · intro s t _ _ _ settled other done n x found home whole
    exact (stepKeeps_step done).titles other settled n x found home whole
  · intro s t k E age f kept b serial last u r _ held slot body hand done n x found other header marker
    rcases step_next_cases done with rfl | ⟨c, rest, taken⟩
    · exact found
    · exact noNewTitle_exec other header marker (s := { s with pending := rest }) slot body hand held taken x found

end Sys2Proof.Machine
end
section
/-! PROOFS. The county day and the records: what each command leaves of them (O6). -/

namespace Sys2Proof.Machine

variable {s t u : State}

theorem Keeps.county (h : Keeps s t) : t.day.county = s.day.county := by
  obtain ⟨-, -, county, -⟩ := h
  exact county

theorem Rests.county (h : Rests s t) : t.day.county = s.day.county := h.keeps.county

/-! ## The county day (R52) -/

/-- The county day is no lower in the state that a command leaves. -/
abbrev raisesDay (s : State) : Outcome → Prop := leaves fun t => s.day.county ≤ t.day.county

theorem raisesDay_turnedAway (s : State) : raisesDay s (turnedAway s) := by
  rintro _ ⟨⟩
  exact le_rfl

theorem raisesDay_finish (h : s.day.county ≤ u.day.county) : raisesDay s (finish u) := by
  rintro _ ⟨⟩
  exact h

theorem raisesDay_keeps (h : Keeps s u) : raisesDay s (finish u) := raisesDay_finish h.county.ge

theorem raisesDay_rests (h : Rests s u) : raisesDay s (finish u) := raisesDay_finish h.county.ge

theorem raisesDay_submit {tag kind : Nat} {f : Framing} {q : Request} {inRange : Bool} {start : Nat → State → State}
    (starts : ∀ c u, Rests u (start c u)) : raisesDay s (submit tag kind f inRange q start s) := by
  unfold submit
  repeat' split
  · exact raisesDay_turnedAway s
  · exact raisesDay_finish le_rfl
  · exact raisesDay_finish le_rfl
  · exact raisesDay_finish le_rfl
  · refine raisesDay_finish (Eq.ge ?_)
    exact (starts _ _).county

theorem raisesDay_submitLocal {tag kind : Nat} {f : Framing} {online : Bool} {done : State → State}
    (h : s.day.county ≤ (done s).day.county) : raisesDay s (submitLocal tag kind f online done s) := by
  unfold submitLocal
  repeat' split
  · exact raisesDay_turnedAway s
  · exact raisesDay_finish le_rfl
  · exact raisesDay_finish le_rfl
  · exact raisesDay_finish h

/-- A day is adopted only where it is later (R53, R54). -/
theorem county_adoptDay (d : Nat) (s : State) : (adoptDay d s).day.county = d :=
  (startSweep_rests (carryDay_rests (Rests.refl _))).county

theorem county_takeDay (d : Nat) (s : State) : s.day.county ≤ (takeDay d s).day.county := by
  unfold takeDay
  repeat' split
  · rename_i later
    exact later.le.trans ((postNotice_rests _ (Rests.refl _)).county.trans (county_adoptDay d s)).ge
  · exact (queueDay_rests (.refl s)).county.ge
  · exact (withdrawDay_rests d (.refl s)).county.ge

theorem county_advanceDay (tag d : Nat) (s : State) : s.day.county ≤ (advanceDay tag d s).day.county := by
  unfold advanceDay
  split
  · rename_i later
    exact later.le.trans ((queueDay_rests (Rests.refl _)).county.trans (county_adoptDay d s)).ge
  · exact le_rfl

theorem county_configure (tag : Nat) (p : Piece) (s : State) : (configure tag p s).day.county = s.day.county := by
  unfold configure
  repeat' split
  all_goals rfl

theorem county_completeAnswer (held : Option Nat) (s : State) :
    (completeAnswer held s).day.county = s.day.county := by
  unfold completeAnswer takeOutAnswer
  repeat' split
  all_goals rfl

theorem county_completeNotice (held : Option Notice) (s : State) :
    (completeNotice held s).day.county = s.day.county := by
  unfold completeNotice
  split <;> rfl

/-- The commands of the port's own exchanges (R188, R191, R193, R194, R196). -/
theorem raisesDay_exchange (s : State) : (∀ u, raisesDay s (execUnknownCommand u s)) ∧
    (∀ c, raisesDay s (execExchangeCutShort c s)) ∧ (∀ p, raisesDay s (execReadAnswer p s)) ∧
    (∀ p, raisesDay s (execReadNotice p s)) ∧ raisesDay s (execReadStatus s) ∧ ∀ m, raisesDay s (execSetMasks m s) := by
  refine ⟨fun u => ?_, fun c => ?_, fun p => ?_, fun p => ?_, ?_, fun m => ?_⟩
  · unfold execUnknownCommand
    repeat' split
    · exact raisesDay_turnedAway s
    · exact raisesDay_finish le_rfl
    · exact raisesDay_finish le_rfl
  · unfold execExchangeCutShort
    split
    · exact raisesDay_finish le_rfl
    · exact raisesDay_finish le_rfl
    · exact raisesDay_finish le_rfl
    · exact raisesDay_turnedAway s
  · unfold execReadAnswer
    split
    · exact raisesDay_finish le_rfl
    · exact raisesDay_finish (county_completeAnswer _ s).ge
    · exact raisesDay_finish (county_completeAnswer _ s).ge
    · exact raisesDay_turnedAway s
  · unfold execReadNotice
    split
    · exact raisesDay_finish le_rfl
    · exact raisesDay_finish (county_completeNotice _ s).ge
    · exact raisesDay_finish (county_completeNotice _ s).ge
    · exact raisesDay_turnedAway s
  · unfold execReadStatus
    split
    · exact raisesDay_turnedAway s
    · exact raisesDay_finish le_rfl
  · unfold execSetMasks
    repeat' split
    · exact raisesDay_turnedAway s
    · exact raisesDay_finish le_rfl
    · exact raisesDay_finish le_rfl

/-! ## The grants -/

theorem raisesDay_ownerStep (code : OpCode) : raisesDay s (ownerStep code s) := by
  unfold ownerStep
  repeat' split
  · exact raisesDay_keeps (ownerGrant_keeps _ (.refl s))
  · exact raisesDay_turnedAway s
  · exact raisesDay_turnedAway s

theorem raisesDay_dispatchStep (k : DispatchKind) : raisesDay s (dispatchStep k s) := by
  unfold dispatchStep
  repeat' split
  · exact raisesDay_keeps (entryGrant_keeps _ _ (.refl s))
  · exact raisesDay_turnedAway s
  · exact raisesDay_turnedAway s

/-- The commands of the sweep, of the stream and of the freeing (R59, R162, R168, R155). -/
theorem raisesDay_storeSteps (s : State) : raisesDay s (execSweepBurst s) ∧ raisesDay s (execStreamUnitRead s) ∧
    raisesDay s (execStreamUnitWrite s) ∧ raisesDay s (execStreamLast s) ∧ raisesDay s (execRecordFreeing s) := by
  have ended : ∀ {u}, Keeps s u → raisesDay s (finish (endGrant u)) := fun h =>
    raisesDay_keeps (h.of_rests (endGrant_rests (.refl _)))
  refine ⟨?_, ?_, ?_, ?_, ?_⟩
  · unfold execSweepBurst
    split
    · exact ended ((runBurst_keeps _ none (.refl s)).of_rests (afterBurst_rests _ (.refl _)))
    · exact raisesDay_turnedAway s
  · unfold execStreamUnitRead
    split
    · exact ended (streamRead_keeps _ (.refl s))
    · exact raisesDay_turnedAway s
  · unfold execStreamUnitWrite
    repeat' split
    · exact raisesDay_turnedAway s
    · exact ended (streamWrite_keeps _ (.refl s))
    · exact raisesDay_turnedAway s
  · unfold execStreamLast
    repeat' split
    · exact ended (streamWrite_keeps _ (.refl s))
    · exact raisesDay_turnedAway s
    · exact raisesDay_turnedAway s
  · unfold execRecordFreeing
    split
    · exact ended (freeing_keeps _ (.refl s))
    · exact raisesDay_turnedAway s

/-- The commands that change no record never lower the county day: each is turned away, or leaves what its operation
does (`Rests`); a day is adopted only where it is later. -/
theorem raisesDay_exec {i : Instr} (join : ∀ tag f, i ≠ .join tag f) (reset : ∀ m, i ≠ .startReset m) :
    raisesDay s (exec i s) := by
  have exchange := raisesDay_exchange s
  have steps := raisesDay_storeSteps s
  cases i with
  | unknownCommand u => exact exchange.1 u
  | exchangeCutShort c => exact exchange.2.1 c
  | readAnswer p => exact exchange.2.2.1 p
  | readNotice p => exact exchange.2.2.2.1 p
  | readStatus => exact exchange.2.2.2.2.1
  | setMasks m => exact exchange.2.2.2.2.2 m
  | lend | renew | checkIn | reserve | cancel | payRequest | account | itemStatus | titleStatus | enrolTitle | enrolPatron
  | updatePatron | enrolItem | withdrawItem | withdrawTitle | withdrawPatron =>
    exact raisesDay_submit fun c u => resolveStep_rests c (.refl u)
  | handOver => exact raisesDay_submit fun c u => startHandover_rests c _ _ (.refl u)
  | advanceDay tag _ d => exact raisesDay_submitLocal (county_advanceDay tag d s)
  | status => exact raisesDay_submitLocal le_rfl
  | faultRead => exact raisesDay_submitLocal le_rfl
  | configure tag _ p => exact raisesDay_submitLocal (county_configure tag p s).ge
  | dayFrame =>
    simp only [exec, execDayFrame]
    repeat' split
    · exact raisesDay_finish ((county_takeDay _ s).trans (freeSlot_rests _ (Rests.refl _)).county.ge)
    · exact raisesDay_turnedAway s
    · exact raisesDay_turnedAway s
  | holdLimit =>
    simp only [exec, execHoldLimit]
    repeat' split
    · exact raisesDay_turnedAway s
    · exact raisesDay_finish le_rfl
    · exact raisesDay_turnedAway s
  | probeRetryWait =>
    simp only [exec, execProbeRetryWait]
    repeat' split
    · refine raisesDay_finish (Eq.ge ?_)
      exact (askCensus_rests _ _ (Rests.refl _)).county
    · exact raisesDay_turnedAway s
    · exact raisesDay_turnedAway s
  | contention | frameAcceptance | frameCommit | clear | clearGuard | frameDelivered | frameUndelivered
  | sendPlaceFreed | reqProcessing | ansProcessing | lateAnsRetry | answerLimit | deferralWait | movedFrame
  | movedRequeueWait | censusLane | censusWindowEnd | retryTick | dispatchPlacesFreed | handoverFreeze
  | drainLimit | decisionLimit | blockQueryRetry | lastDecision | offer | idleLimit | confirmationCensusWait | blockQuery
  | dayRequeueWait =>
    simp only [exec, execContention, execFrameAcceptance, execFrameCommit, execClear, execClearGuard,
      execFrameDelivered, execFrameUndelivered, execSendPlaceFreed, execReqProcessing, execAnsProcessing, execLateAnsRetry,
      execAnswerLimit, execDeferralWait, execMovedFrame, execMovedRequeueWait, execCensusLane, execCensusWindowEnd,
      execRetryTick, execDispatchPlacesFreed, execHandoverFreeze, execDrainLimit, execDecisionLimit,
      execBlockQueryRetry, execLastDecision, execOffer, execIdleLimit, execConfirmationCensusWait, execBlockQuery,
      execDayRequeueWait, holdFell]
    repeat' split
    all_goals first
      | exact raisesDay_turnedAway s
      | exact raisesDay_rests (by simp (maxDischargeDepth := 12) [Rests.refl])
  | itemCreate | itemDelete | lendItem | extend | takeReturn | itemRead | titleCreate | titleDelete | copyAdd
  | holdAdd | holdDrop | titleRead | patronCreate | patronSet | patronDelete | standing | loanOpen | holdOpen
  | pay | accountRead => exact raisesDay_ownerStep _
  | charge | credit | loanClose | holdEnded | copyState | copyFree | holdFilled | pickupLapsed | copyRemove | trap
  | untrap | allocate | redirect | release => exact raisesDay_dispatchStep _
  | sweepBurst => exact steps.1
  | streamUnitRead => exact steps.2.1
  | streamUnitWrite => exact steps.2.2.1
  | streamLast => exact steps.2.2.2.1
  | recordFreeing => exact steps.2.2.2.2
  | join tag f => exact absurd rfl (join tag f)
  | startReset m => exact absurd rfl (reset m)

/-! ## A start reset within a grant (R179) -/

theorem stageAt_keeps {units : Nat} {stages : List State} (all : ∀ v ∈ stages, Keeps s v) :
    Keeps s (stageAt units stages s) := by
  cases units with
  | zero => exact .refl s
  | succ n =>
    cases stages with
    | nil => exact .refl s
    | cons v l => exact all _ (stageAt_mem (Nat.succ_pos n) (List.cons_ne_nil v l))

theorem keeps_of_markOf {sp : Space} {n E : Nat} {who : Requester} {v : State}
    (mark : opMark.markOf sp n who E s = some v) : Keeps s v := by
  have of_read : ∀ w, Keeps s w → (if w.store = s.store then none else some w) = some v → Keeps s v := by
    intro w kept changed
    split at changed
    · cases changed
    · cases changed
      exact kept
  cases sp with
  | item => exact of_read _ (fetchItem_keeps n who E (.refl s)) mark
  | title => exact of_read _ (fetchTitle_keeps n who E (.refl s)) mark
  | patron => exact of_read _ (fetchPatron_keeps n who E (.refl s)) mark

theorem keeps_of_opMark {h : HeldOp} {v : State} (mark : opMark h s = some v) : Keeps s v := by
  obtain ⟨-, mark⟩ := Option.ite_none_right_eq_some.1 mark
  split at mark
  · cases mark
  · exact keeps_of_markOf mark

theorem keeps_of_entryMark {e : Entry} {day : Nat} {v : State} (mark : entryMark e day s = some v) : Keeps s v := by
  unfold entryMark at mark
  split at mark
  · obtain ⟨-, mark⟩ := Option.ite_none_right_eq_some.1 mark
    exact keeps_of_markOf mark
  · cases mark

theorem keeps_of_writeStages {k : Nat} {v : State} (stage : v ∈ writeStages k s) : Keeps s v := by
  unfold writeStages at stage
  simp only [List.mem_append, List.mem_singleton] at stage
  rcases stage with unit | rfl
  · split at unit
    · split at unit
      · split at unit
        · rw [List.mem_singleton.1 unit]
          exact writeUnit_keeps _ _ (.refl s)
        · cases unit
      · cases unit
    · cases unit
  · exact streamWrite_keeps k (.refl s)

/-- The units of a grant keep what is no record (R179). -/
theorem runUnits_keeps (units : Nat) (s : State) : Keeps s (runUnits units s) := by
  have operation : ∀ h, Keeps s (stageAt units (opStages h s) s) := fun h => stageAt_keeps fun v stage => by
    simp only [opStages, List.mem_append, Option.mem_toList, List.mem_cons, List.not_mem_nil, or_false] at stage
    rcases stage with mark | rfl | rfl
    · exact keeps_of_opMark mark
    · exact applyOp_keeps _ _ _ (.refl s)
    · exact ownerGrant_keeps h (.refl s)
  unfold runUnits
  repeat' split
  · exact .refl s
  · exact operation _
  · exact .refl s
  · exact operation _
  · exact .refl s
  · refine stageAt_keeps fun v stage => ?_
    rw [entryStages_eq, List.mem_append, Option.mem_toList, List.mem_singleton] at stage
    rcases stage with mark | rfl
    · exact keeps_of_entryMark mark
    · exact applyEntry_keeps _ _ (.refl s)
  · exact .refl s
  · exact runBurst_keeps _ _ (.refl s)
  · exact stageAt_keeps fun v stage => List.mem_singleton.1 stage ▸ (freeze_rests (.refl s)).keeps
  · exact stageAt_keeps fun v stage => List.mem_singleton.1 stage ▸ streamRead_keeps _ (.refl s)
  · exact stageAt_keeps fun v stage => keeps_of_writeStages stage
  · exact freeRecords_keeps _ _ (.refl s)
  · exact .refl s

/-! ## The store erase (R187) -/

/-- Of the county day an erase writes the start day or leaves it, and only the erase of a JOIN or of a start reset within
one is an erase (R200). -/
def Erases (i : Instr) (s : State) : Prop :=
  ((∃ tag f, i = .join tag f) ∨ ∃ n, i = .startReset (.inErase n)) ∧ joinErases s = true ∧ s.station = .configured

theorem county_eraseUpTo (n : Nat) (s : State) :
    (eraseUpTo n s).day.county = s.day.county ∨ (eraseUpTo n s).day.county = s.conf.startDay.getD 0 := by
  have few : min n 5 ≤ 5 := Nat.min_le_right _ _
  unfold eraseUpTo
  generalize min n 5 = m at few
  match m, few with
  | 0, _ | 1, _ | 2, _ | 3, _ => exact .inl rfl
  | 4, _ | 5, _ => exact .inr rfl

theorem freeForeign_rests (s : State) : Rests s (freeForeign s) := by
  refine foldl_rests _ (fun p u h => ?_) _ (.refl s)
  split
  · exact freeStranded_rests _ h
  · exact h

/-- After its erase, if it makes one, a join changes no record and no county day. -/
theorem join_rests (s : State) :
    Rests (joinPass { (if joinErases s then storeErase s else s) with station := .joining }) (join s) :=
  probeOn_rests (freeForeign_rests _)

theorem county_join (s : State) : (join s).day.county = (if joinErases s then storeErase s else s).day.county :=
  (join_rests s).county

theorem store_join (s : State) : (join s).store = (if joinErases s then storeErase s else s).store := by
  obtain ⟨-, -, store, -⟩ := join_rests s
  exact store

/-- What a JOIN leaves of county day and records: as they were, or as the join leaves them (R200). -/
theorem execJoin_leaves {tag : Nat} {f : Framing} (done : execJoin tag f s = .next t) :
    (t.day.county = s.day.county ∧ t.store = s.store) ∨
      (s.station = .configured ∧ t.day.county = (join s).day.county ∧ t.store = (join s).store) := by
  unfold execJoin submitLocal at done
  split at done
  · cases done
    exact .inl ⟨rfl, rfl⟩
  split at done
  · cases done
    exact .inl ⟨rfl, rfl⟩
  split at done
  · cases done
    exact .inl ⟨rfl, rfl⟩
  · cases done
    unfold submitJoin
    split
    · exact .inl ⟨rfl, rfl⟩
    · exact .inl ⟨rfl, rfl⟩
    · exact .inl ⟨rfl, rfl⟩
    · rename_i configured
      generalize join s = joined
      exact .inr ⟨configured, rfl, rfl⟩

/-- A lower county day is that of an erase (R52). -/
theorem county_exec {i : Instr} (done : exec i s = .next t) :
    s.day.county ≤ t.day.county ∨ (Erases i s ∧ t.day.county = s.conf.startDay.getD 0) := by
  by_cases join : ∃ tag f, i = .join tag f
  · obtain ⟨tag, f, rfl⟩ := join
    obtain ⟨county, -⟩ | ⟨configured, county, -⟩ := execJoin_leaves (tag := tag) (f := f) done
    · exact .inl county.ge
    rw [county, county_join]
    split
    · rename_i erases
      obtain same | start := county_eraseUpTo 5 s
      · exact .inl same.ge
      · exact .inr ⟨⟨.inl ⟨tag, f, rfl⟩, erases, configured⟩, start⟩
    · exact .inl le_rfl
  by_cases reset : ∃ m, i = .startReset m
  · obtain ⟨m, rfl⟩ := reset
    rw [exec_startReset] at done
    cases done
    cases m with
    | quiet => exact .inl le_rfl
    | inGrant units => exact .inl (runUnits_keeps units s).county.ge
    | inErase n =>
      unfold startReset
      dsimp only
      split
      · rename_i erases
        obtain same | start := county_eraseUpTo n s
        · exact .inl same.ge
        · exact .inr ⟨⟨.inr ⟨n, rfl⟩, erases.2, erases.1⟩, start⟩
      · exact .inl le_rfl
  exact .inl (raisesDay_exec (fun tag f h => join ⟨tag, f, h⟩) (fun m h => reset ⟨m, h⟩) t done)

/-! ## The records while no grant is held (R182) -/

/-- The commands of the grants are turned away while none is held. -/
theorem turnedAway_of_no_grant (free : s.arb.held = none) :
    (∀ code, ownerStep code s = turnedAway s) ∧ (∀ k, dispatchStep k s = turnedAway s) ∧
      execSweepBurst s = turnedAway s ∧ execStreamUnitRead s = turnedAway s ∧ execStreamUnitWrite s = turnedAway s ∧
      execStreamLast s = turnedAway s ∧ execRecordFreeing s = turnedAway s := by
  simp [ownerStep, heldOp, dispatchStep, heldEntry, execSweepBurst, execStreamUnitRead, execStreamUnitWrite, execStreamLast,
    execRecordFreeing, heldStream, free]

/-- While no grant is held only an erase changes the store (R5, R32, R70, R182). -/
theorem store_exec {i : Instr} (free : s.arb.held = none) (done : exec i s = .next t) : t.store = s.store ∨ Erases i s := by
  obtain ⟨owner, application, sweep, read, write, last, freeing⟩ := turnedAway_of_no_grant free
  have away : exec i s = turnedAway s → t.store = s.store ∨ Erases i s := fun away => by
    rw [away] at done
    cases done
    exact .inl rfl
  cases execForm i with
  | plain h => exact .inl (h s t done).store
  | owner code h => exact away ((h s).trans (owner code))
  | application k h => exact away ((h s).trans (application k))
  | sweepBurst h => exact away (h ▸ sweep)
  | streamUnitRead h => exact away (h ▸ read)
  | streamWrite h =>
    rcases h with rfl | rfl
    · exact away write
    · exact away last
  | recordFreeing h => exact away (h ▸ freeing)
  | join tag f h =>
    subst h
    obtain ⟨-, store⟩ | ⟨configured, -, store⟩ := execJoin_leaves (tag := tag) (f := f) done
    · exact .inl store
    rw [store, store_join]
    split
    · rename_i erases
      exact .inr ⟨.inl ⟨tag, f, rfl⟩, erases, configured⟩
    · exact .inl rfl
  | startReset m h =>
    subst h
    rw [exec_startReset] at done
    cases done
    cases m with
    | quiet => exact .inl rfl
    | inGrant units =>
      refine .inl ?_
      have same : runUnits units s = s := by simp [runUnits, free]
      simp [startReset, same, clearVolatile]
    | inErase n =>
      unfold startReset
      dsimp only
      split
      · rename_i erases
        exact .inr ⟨.inr ⟨n, rfl⟩, erases.2, erases.1⟩
      · exact .inl rfl

/-- Settles O6: a day is adopted only where it is later, and only the work of a grant or an erase writes a record. -/
theorem dayAndRecordsChangeOnlyAsGranted : Obligations.DayAndRecordsChangeOnlyAsGranted := by
  refine ⟨fun i s t done lower => ?_, fun i s t free done changed => ?_⟩
  · obtain higher | ⟨⟨command, erases, configured⟩, start⟩ := county_exec done
    · exact absurd lower (Nat.not_lt.2 higher)
    · exact ⟨command, erases, configured, start⟩
  · exact (store_exec free done).resolve_left changed

end Sys2Proof.Machine
end
section
/-! PROOFS. The reset state is well kept, and a start reset leaves the volatile state so (R199; O2). -/

namespace Sys2Proof.Machine

/-- An empty line engine is well kept. -/
theorem kept_lineAtReset : LineEngine.atReset.Kept where
  ids := ⟨.nil, fun _ mem => nomatch mem⟩
  days _ mem := nomatch mem
  places := by decide
  share := by decide
  clears := by decide
  clearing _ mem := nomatch mem
  turn on := nomatch on
  window _ _ on := nomatch on
  answers age f p mem := by simp [LineEngine.atReset] at mem

/-- With no command taken, the reset state is as a start reset leaves it. -/
theorem clearVolatile_reset : clearVolatile State.reset = State.reset := rfl

/-- No entry, no acceptance and no handover asks for a view at reset (R120). -/
theorem handoverKept_reset : State.reset.HandoverKept where
  inbound _ mem := nomatch mem
  accepted _ _ _ on := nomatch on
  giving _ on := nomatch on
  receiving _ on := nomatch on
  offLine := by
    rw [← clearVolatile_reset]
    exact offLineKept_clearVolatile State.reset

theorem homeSettled_reset : State.reset.homeSettled := fun _ _ found => nomatch found

/-- The reset state is well kept in every sense of the statements. -/
theorem wellKept_reset : State.reset.attentionOk ∧ State.reset.boundsOk ∧ State.reset.tablesOk ∧ State.reset.queue.ok ∧
    State.reset.conf.inRange = true ∧ State.reset.line.Kept ∧ State.reset.EntriesKept ∧ State.reset.RoomKept ∧
    State.reset.HandoverKept ∧ State.reset.homeSettled :=
  ⟨rfl, by decide, by decide, ok_emptied (q := State.reset.queue), rfl, kept_lineAtReset, entriesKept_clearVolatile State.reset,
    roomKept_clearVolatile (v := State.reset) (Nat.zero_le 96), handoverKept_reset, homeSettled_reset⟩

/-- Settles O2: the reset state by its values, and every start reset by `startReset_clears`. -/
theorem resetIsWellKept : Obligations.ResetIsWellKept := by
  obtain ⟨attention, bounds, tables, queue, conf, line, entries, room, handover, settled⟩ := wellKept_reset
  refine ⟨rfl, rfl, rfl, rfl, rfl, rfl, rfl, rfl, rfl, rfl, rfl, rfl, rfl, rfl, rfl, rfl, attention, bounds, tables, queue,
    conf, line, entries, room, handover, settled, fun m s => ?_⟩
  obtain ⟨u, cleared⟩ := startReset_clears m s
  refine ⟨startReset m s, exec_startReset m s, ?_⟩
  rw [cleared]
  exact ⟨rfl, rfl, rfl, rfl, rfl, rfl, rfl, rfl, rfl, rfl⟩

end Sys2Proof.Machine
end
section
/-! PROOFS. The checks of the kiosk port in their order (R95, R189; O36). -/

namespace Sys2Proof.Machine

variable {s : State} {i : Instr} {mk : Framing → Instr} {tag kind start : Nat} {o : OutcomeCode} {f : Framing}
  {q : Request} {inRange : Bool} {begins : Nat → State → State}

theorem answeredByPort_of (is : exec i s = finish (portAnswer tag kind o none .nothing s)) :
    answeredByPort i tag kind o s :=
  ⟨_, is, rfl, rfl, rfl, rfl, rfl, rfl, rfl, rfl⟩

section Submit

variable (free : s.port.exchange = none)
include free

/-- The first check: a malformed record, or an argument out of range. -/
theorem submit_badRequest (bad : f = .misshapen ∨ inRange = false) :
    submit tag kind f inRange q begins s = finish (portAnswer tag kind .badRequest none .nothing s) := by
  simp [submit, portFree, free, bad]

/-- The second check. -/
theorem submit_notOnline (off : s.station ≠ .online) :
    submit tag kind .whole true q begins s = finish (portAnswer tag kind .notOnline none .nothing s) := by
  simp [submit, portFree, free, off]

/-- The third check. -/
theorem submit_busy (on : s.station = .online) (none_ : freeCtx s = none) :
    submit tag kind .whole true q begins s = finish (portAnswer tag kind .busy none .nothing s) := by
  simp [submit, portFree, free, on, none_]

/-- A request whose arguments are in range passes the port's three checks in their order (R95, R189). -/
theorem portChecks_submit (is : ∀ f, exec (mk f) s = submit tag kind f true q begins s) : portChecks mk tag kind s :=
  ⟨answeredByPort_of ((is _).trans (submit_badRequest free (.inl rfl))),
    fun off => answeredByPort_of ((is _).trans (submit_notOnline free off)),
    fun on none_ => answeredByPort_of ((is _).trans (submit_busy free on none_))⟩

theorem answeredByPort_outOfRange (is : exec i s = submit tag kind .whole false q begins s) :
    answeredByPort i tag kind .badRequest s :=
  answeredByPort_of (is.trans (submit_badRequest free (.inr rfl)))

/-- A local request passes the first check, and the second where it needs the station ONLINE (R190). -/
theorem answeredByPort_local {online : Bool} {done : State → State}
    (is : exec i s = submitLocal tag kind .misshapen online done s) : answeredByPort i tag kind .badRequest s :=
  answeredByPort_of (is.trans (by simp [submitLocal, portFree, free]))

theorem answeredByPort_local_notOnline {done : State → State} (off : s.station ≠ .online)
    (is : exec i s = submitLocal tag kind .whole true done s) : answeredByPort i tag kind .notOnline s :=
  answeredByPort_of (is.trans (by simp [submitLocal, portFree, free, off]))

/-- A request of Table 5-2 by its arguments: in range it passes the three checks, out of range it is BAD_REQUEST. -/
theorem portChecks_ranged (is : ∀ f, exec (mk f) s = submit tag kind f inRange q begins s) :
    (inRange = true → portChecks mk tag kind s) ∧
      (inRange = false → answeredByPort (mk .whole) tag kind .badRequest s) :=
  ⟨fun inside => portChecks_submit free fun f => by rw [is, inside],
    fun outside => answeredByPort_outOfRange free (by rw [is, outside])⟩

end Submit

/-- What makes a HAND_OVER's arguments in range (R189). -/
theorem handOver_inRange (sp b k : Nat) (s : State) :
    ((spaceOf sp).isSome && decide (b < 256) && decide (k < 32) && s.conf.stationNumber != some k) = true ↔
      sp < 3 ∧ b < 256 ∧ k < 32 ∧ s.conf.stationNumber ≠ some k := by
  have space : (spaceOf sp).isSome = true ↔ sp < 3 := by
    match sp with
    | 0 | 1 | 2 => simp [spaceOf]
    | n + 3 => simp [spaceOf]
  simp [space, and_assoc]

/-- What makes an UPDATE_PATRON's arguments in range: that it names neither field is out of range (log entry 13). -/
theorem updatePatron_inRange (c x : Option Nat) :
    (optOk (fun c => decide (c < 4)) c && optOk (fun x => decide (x ≤ lastDay)) x && (c.isSome || x.isSome)) = true ↔
      (c ≠ none ∨ x ≠ none) ∧ (∀ k, c = some k → k < 4) ∧ ∀ d, x = some d → d ≤ lastDay := by
  cases c <;> cases x <;> simp [optOk, and_comm]

/-- A day above 65,535 is out of range (R53). -/
theorem exec_advanceDay (tag : Nat) (f : Framing) (d : Nat) (s : State) : exec (.advanceDay tag f d) s =
    submitLocal tag 18 (if d ≤ lastDay then f else .misshapen) true (advanceDay tag d) s := rfl

/-- Settles O36: each request is `submit` or `submitLocal`, which make the checks in their order. -/
theorem portRefusesInOrder : Obligations.PortRefusesInOrder := by
  intro s tag free
  have reserve p t k := portChecks_ranged (mk := fun f => .reserve tag f p t k) free fun _ => rfl
  have pay p a := portChecks_ranged (mk := fun f => .payRequest tag f p a) free fun _ => rfl
  have enrolTitle t m := portChecks_ranged (mk := fun f => .enrolTitle tag f t m) free fun _ => rfl
  have enrolPatron p c x := portChecks_ranged (mk := fun f => .enrolPatron tag f p c x) free fun _ => rfl
  have updatePatron p c x := portChecks_ranged (mk := fun f => .updatePatron tag f p c x) free fun _ => rfl
  have enrolItem i t c := portChecks_ranged (mk := fun f => .enrolItem tag f i t c) free fun _ => rfl
  have handOver sp b k := portChecks_ranged (mk := fun f => .handOver tag f sp b k) free fun _ => rfl
  refine ⟨fun p i => ⟨?_, ?_⟩, fun n => ⟨?_, ?_, ?_, ?_, ?_, ?_⟩, fun p t k => ⟨fun h => ?reserveIn, fun h => ?reserveOut⟩,
    fun p t => ?_, fun p a => ⟨fun h => ?payIn, fun h => ?payOut⟩, fun t p => ?_,
    fun t m => ⟨fun h => ?titleIn, fun h => ?titleOut⟩, fun p c x => ⟨fun h h' => ?patronIn, fun h => ?patronOut⟩,
    fun p c x => ⟨fun named category expiry => ?updateIn, fun h => ?updateOut⟩,
    fun i t c => ⟨fun h => ?itemIn, fun h => ?itemOut⟩,
    fun sp b k => ⟨fun space block station other => ?handIn, fun h => ?handOut⟩,
    fun d => ⟨?dayShape, fun h => ?dayRange, fun h off => ?dayOff⟩, ?status, ?fault, fun off => ?faultOff, ?join⟩
  case reserveIn => exact (reserve p t k).1 (decide_eq_true h)
  case reserveOut => exact (reserve p t k).2 (decide_eq_false (Nat.not_lt.2 h))
  case payIn => exact (pay p a).1 (decide_eq_true h)
  case payOut => exact (pay p a).2 (decide_eq_false (Nat.not_le.2 h))
  case titleIn => exact (enrolTitle t m).1 (decide_eq_true h)
  case titleOut => exact (enrolTitle t m).2 (decide_eq_false (Nat.not_lt.2 h))
  case patronIn => exact (enrolPatron p c x).1 (Bool.and_eq_true_iff.2 ⟨decide_eq_true h, decide_eq_true h'⟩)
  case patronOut =>
    exact (enrolPatron p c x).2 (Bool.and_eq_false_iff.2
      (h.imp (decide_eq_false ∘ Nat.not_lt.2) (decide_eq_false ∘ Nat.not_le.2)))
  case updateIn => exact (updatePatron p c x).1 ((updatePatron_inRange c x).2 ⟨named, category, expiry⟩)
  case updateOut =>
    refine (updatePatron p c x).2 (Bool.eq_false_iff.2 fun inRange => ?_)
    obtain ⟨named, category, expiry⟩ := (updatePatron_inRange c x).1 inRange
    rcases h with ⟨rfl, rfl⟩ | ⟨k, is, high⟩ | ⟨d, is, high⟩
    · simp at named
    · exact absurd (category k is) (Nat.not_lt.2 high)
    · exact absurd (expiry d is) (Nat.not_le.2 high)
  case itemIn => exact (enrolItem i t c).1 (decide_eq_true h)
  case itemOut => exact (enrolItem i t c).2 (decide_eq_false (Nat.not_lt.2 h))
  case handIn => exact (handOver sp b k).1 ((handOver_inRange sp b k s).2 ⟨space, block, station, other⟩)
  case handOut =>
    refine (handOver sp b k).2 (Bool.eq_false_iff.2 fun inRange => ?_)
    obtain ⟨space, block, station, other⟩ := (handOver_inRange sp b k s).1 inRange
    rcases h with high | high | high | own
    · exact absurd space (Nat.not_lt.2 high)
    · exact absurd block (Nat.not_lt.2 high)
    · exact absurd station (Nat.not_lt.2 high)
    · exact other own
  case dayShape => exact answeredByPort_local free ((exec_advanceDay ..).trans (by rw [ite_self]))
  case dayRange => exact answeredByPort_local free ((exec_advanceDay ..).trans (by rw [if_neg (by exact Nat.not_le.2 h)]))
  case dayOff => exact answeredByPort_local_notOnline free off ((exec_advanceDay ..).trans (by rw [if_pos (by exact h)]))
  case faultOff => exact answeredByPort_local_notOnline free off rfl
  case status | fault | join => exact answeredByPort_local free rfl
  all_goals exact portChecks_submit free fun _ => rfl

end Sys2Proof.Machine
end
section
/-! PROOFS. A context and its run after it is written. -/

namespace Sys2Proof.Machine

variable {s : State} {c : Nat} {r r' : Run}

theorem getRun_of_getCtx {g : Nat} (is : getCtx c s = some ⟨g, .running r⟩) : getRun c s = some r := by
  simp [getRun, is]

theorem getCtx_setCtx_same {x y : Ctx} (is : getCtx c s = some y) : getCtx c (setCtx c x s) = some x := by
  obtain ⟨lt, -⟩ := List.getElem?_eq_some_iff.1 is
  exact List.getElem?_set_self lt

theorem getCtx_setCtx_other {d : Nat} {x : Ctx} (other : c ≠ d) : getCtx d (setCtx c x s) = getCtx d s :=
  List.getElem?_set_ne other

/-- Writing the run of a RUNNING context writes that context, its generation kept. -/
theorem setRun_eq {g : Nat} (is : getCtx c s = some ⟨g, .running r⟩) :
    setRun c r' s = setCtx c ⟨g, .running r'⟩ s := by
  simp [setRun, is]

theorem getCtx_setRun_same {g : Nat} (is : getCtx c s = some ⟨g, .running r⟩) :
    getCtx c (setRun c r' s) = some ⟨g, .running r'⟩ := by
  rw [setRun_eq is, getCtx_setCtx_same is]

theorem getRun_setRun_same (run : getRun c s = some r) : getRun c (setRun c r' s) = some r' := by
  obtain ⟨g, is⟩ := getCtx_of_getRun run
  exact getRun_of_getCtx (getCtx_setRun_same is)

end Sys2Proof.Machine
end
section
/-! PROOFS. The end of a sent frame (R138, R143, R144, R150; O50). -/

namespace Sys2Proof.Machine

variable {s : State} {i : SendItem} {res : SendResult} {c : Nat} {r : Run}

/-! ## A delivered frame -/

theorem exec_frameDelivered (sends : sending s = some i) (turn : clearing s = false) (free : s.line.window = none) :
    exec .frameDelivered s = .next (refreshAttention (frameDelivered i s)) := by
  show execFrameDelivered s = _
  simp [execFrameDelivered, sends, turn, free, finish]

/-- A delivered frame leaves its place and is reported; the dispatch queue is walked (R138, R123). -/
theorem frameDelivered_other (other : ∀ b, i.frame.body ≠ .census b) :
    frameDelivered i s = walk (reportDelivered i (endTurn (dropSend i.id s))) := by
  unfold frameDelivered
  split
  · rename_i b census
    exact absurd census (other b)
  · rfl

theorem frameDelivered_census {b : Block} (census : i.frame.body = .census b) : frameDelivered i s = openWindow b s := by
  simp [frameDelivered, census]

/-- What a delivered frame is reported as, by the block that queued it (R102, R125, R157, R55). -/
theorem reportDelivered_cases (u : State) :
    (∀ c r, i.owner = .context c → getRun c u = some r → r.phase = .sending →
      reportDelivered i u = setRun c { r with phase := .awaiting } u) ∧
    (∀ id, i.owner = .entry id → reportDelivered i u = dropEntry id u) ∧
    (∀ id b st, i.owner = .announcement id b st → reportDelivered i u = dropAnnouncement id u) ∧
    (i.owner = .ownerEngine → reportDelivered i u = u) ∧
    (i.owner = .dayUnit → reportDelivered i u = if u.day.again = true then queueDay (setAgain false u) else u) := by
  refine ⟨fun c r owner run phase => ?_, fun id owner => ?_, fun id b st owner => ?_, fun owner => ?_, fun owner => ?_⟩
  · simp [reportDelivered, owner, reqDelivered, run, phase]
  · simp [reportDelivered, owner]
  · simp [reportDelivered, owner]
  · simp [reportDelivered, owner]
  · simp [reportDelivered, owner, queueDayAgain]

/-! ## An undelivered attempt -/

theorem isClear_eq_false (noClear : ∀ st, i.frame.body ≠ .clear st) : i.isClear = false := by
  unfold SendItem.isClear
  split
  · rename_i st body
    exact absurd body (noClear st)
  · rfl

theorem isStream_eq_false (noStream : ∀ b n l u, i.frame.body ≠ .stream b n l u) : i.frame.isStream = false := by
  unfold Frame.isStream
  split
  · rename_i b n l u body
    exact absurd body (noStream b n l u)
  · rfl

theorem exec_frameUndelivered (sends : sending s = some i) (free : s.line.window = none)
    (noClear : ∀ st, i.frame.body ≠ .clear st) (turn : clearing s = true ↔ res = .cleared) :
    exec (.frameUndelivered res) s = .next (refreshAttention (frameUndelivered i res s)) := by
  have frame : i.isClear = false := isClear_eq_false noClear
  have agree : clearing s = (res == .cleared) := by
    rw [Bool.eq_iff_iff, turn, beq_iff_eq]
  show execFrameUndelivered res s = _
  simp [execFrameUndelivered, sends, frame, free, agree, finish]

/-- A CENSUS that no station holds runs its window at once (R150). -/
theorem frameUndelivered_census {b : Block} (census : i.frame.body = .census b) :
    frameUndelivered i .noListener s = openWindow b s := by
  simp [frameUndelivered, census]

theorem frameUndelivered_other (other : ∀ b, i.frame.body = .census b → res ≠ .noListener) :
    frameUndelivered i res s = attemptFailed i res (if res = .cleared then withdrawClear s else s) := by
  unfold frameUndelivered
  dsimp only
  split
  · rename_i b census
    exact absurd rfl (other b census)
  · rfl

section Attempt

variable {v : State}

/-- Below the fourth attempt the frame keeps its place (R143). -/
theorem attemptFailed_retries (noStream : i.frame.isStream = false) (few : i.attempts + 1 ≠ 4) :
    attemptFailed i res v = walk (retryFrame i (reportAttempt i (endTurn v))) := by
  simp [attemptFailed, noStream, Config.attempts, few]

/-- After the fourth attempt the frame is returned (R144). -/
theorem attemptFailed_returns (last : i.attempts + 1 = 4) :
    attemptFailed i res v = walk (returnFrame i res (dropSend i.id (reportAttempt i (endTurn v)))) := by
  simp [attemptFailed, Config.attempts, last]

/-- Only a context counts the attempts of its frame (R143). -/
theorem reportAttempt_context (owner : i.owner = .context c) (run : getRun c v = some r) :
    reportAttempt i v = setRun c { r with attempts := r.attempts + 1 } v := by
  simp [reportAttempt, owner, run]

theorem reportAttempt_other (other : ∀ c, i.owner ≠ .context c) : reportAttempt i v = v := by
  unfold reportAttempt
  split
  · rename_i c owner
    exact absurd owner (other c)
  · rfl

theorem dropSend_reportAttempt (id : Nat) : dropSend id (reportAttempt i v) = reportAttempt i (dropSend id v) := by
  cases owner : i.owner with
  | context c =>
    cases run : getRun c v with
    | none =>
      have gone : getRun c (dropSend id v) = none := run
      simp [reportAttempt, owner, run, gone]
    | some r =>
      have gone : getRun c (dropSend id v) = some r := run
      obtain ⟨g, is⟩ := getCtx_of_getRun run
      have stays : getCtx c (dropSend id v) = some ⟨g, .running r⟩ := is
      rw [reportAttempt_context owner run, reportAttempt_context owner gone, setRun_eq is, setRun_eq stays]
      rfl
  | _ => simp [reportAttempt, owner]

theorem retryFrame_other (other : i.owner ≠ .dayUnit) : retryFrame i v = mapSend i.id SendItem.retried v := by
  simp [retryFrame, other]

/-- Two changes of a frame that keep its name are one. -/
theorem mapSend_mapSend (id : Nat) (f g : SendItem → SendItem) (named : ∀ j, (f j).id = j.id) :
    mapSend id g (mapSend id f v) = mapSend id (fun j => g (f j)) v := by
  unfold mapSend
  simp only [List.map_map]
  congr 3
  funext j
  by_cases is : j.id = id
  · simp [is, named]
  · simp [is]

/-- The one own DAY frame, tried again, carries the county day (R52, log entry 16). -/
theorem retryFrame_dayUnit (owner : i.owner = .dayUnit) (here : i ∈ v.line.sendq) (turn : v.line.turn = none)
    (one : ∀ j ∈ v.line.sendq, j.owner = .dayUnit → j.id = i.id) :
    retryFrame i v = mapSend i.id (fun j => { j.retried with frame := dayFrameOf v }) (setAgain false v) := by
  have own : ∃ j, ownDay (setAgain false (mapSend i.id SendItem.retried v)) = some j ∧ j.id = i.id := by
    cases found : ownDay (setAgain false (mapSend i.id SendItem.retried v)) with
    | none =>
      have none_ := List.find?_eq_none.1 found i.retried (List.mem_map.2 ⟨i, here, if_pos rfl⟩)
      exact absurd (beq_iff_eq.2 owner) none_
    | some j =>
      refine ⟨j, rfl, ?_⟩
      obtain ⟨k, mem, rfl⟩ := List.mem_map.1 (List.mem_of_find?_eq_some found)
      have dayUnit := List.find?_some found
      split at dayUnit
      · rename_i named
        rw [if_pos named]
        exact named
      · rename_i other
        rw [if_neg other]
        exact one k mem (beq_iff_eq.1 dayUnit)
  obtain ⟨j, own, named⟩ := own
  have unsent : isBeingSent j (setAgain false (mapSend i.id SendItem.retried v)) = false := by
    change isBeingSent j v = false
    simp [isBeingSent, turn]
  rw [retryFrame, if_pos owner, carryDay, own]
  dsimp only
  rw [unsent, named, if_neg Bool.false_ne_true]
  exact mapSend_mapSend (v := setAgain false v) i.id SendItem.retried _ fun _ => rfl

end Attempt

/-- What a returned frame is, by the block that queued it (R110, R125, R144, R55, R157). -/
theorem returnFrame_cases (u : State) :
    (∀ id, i.owner = .entry id → returnFrame i res u = entryFailed id u) ∧
    (i.owner = .dayUnit → returnFrame i res u = queueDayAgain (if res = .noListener then u else setRequeueWait true u)) ∧
    (∀ id b st, i.owner = .announcement id b st → returnFrame i res u =
      if res = .noListener then dropAnnouncement id u else setAnnouncementWait id true u) ∧
    (∀ c r, i.owner = .context c → getRun c u = some r → (∀ b st, r.request ≠ .handOver b st) →
      returnFrame i res u = endTransaction c .unreachable none .nothing u) ∧
    (i.owner = .ownerEngine → returnFrame i res u = u) ∧
    (∀ b, i.owner = .census b → returnFrame i res u = censusEnded b none u) := by
  refine ⟨fun id owner => ?_, fun owner => ?_, fun id b st owner => ?_, fun c r owner run other => ?_, fun owner => ?_,
    fun b owner => ?_⟩
  · simp [returnFrame, owner]
  · simp [returnFrame, owner]
  · simp [returnFrame, owner]
  · have ended : reqReturned c u = endTransaction c .unreachable none .nothing u := by
      simp only [reqReturned, run]
    simp [returnFrame, owner, ended]
  · simp [returnFrame, owner]
  · simp [returnFrame, owner]

/-- Settles O50: what is reported of a frame's end, by its result and by the block that queued it. -/
theorem framesEndDeliveredOrReturned : Obligations.FramesEndDeliveredOrReturned := by
  refine ⟨fun s i sends turn free => ⟨fun b census => ?_, fun other => ?_⟩,
    fun s i res sends free noClear noStream turn => ?_⟩
  · rw [exec_frameDelivered sends turn free, frameDelivered_census census]
    rfl
  · intro u
    obtain ⟨context, entry, announcement, ownerEngine, dayUnit⟩ := reportDelivered_cases (i := i) u
    have delivered : exec .frameDelivered s = .next (refreshAttention (walk (reportDelivered i u))) := by
      rw [exec_frameDelivered sends turn free, frameDelivered_other other]
      rfl
    rw [delivered]
    refine ⟨fun c r owner run phase => ?_, fun id owner => ?_, fun id b st owner => ?_, fun owner => ?_, fun owner => ?_⟩
    · rw [context c r owner run phase]
    · rw [entry id owner]
    · rw [announcement id b st owner]
    · rw [ownerEngine owner]
    · rw [dayUnit owner]
      rfl
  · intro v u gone
    refine ⟨fun b census held => ?_, fun other => ?_⟩
    · subst held
      rw [exec_frameUndelivered sends free noClear turn, frameUndelivered_census census]
      rfl
    have ended : exec (.frameUndelivered res) s = .next (refreshAttention (attemptFailed i res v)) := by
      rw [exec_frameUndelivered sends free noClear turn, frameUndelivered_other other]
      rfl
    have kept : v.ctxs = s.ctxs ∧ v.day = s.day ∧ stationNo v = stationNo s ∧
        (∀ j, j ∈ v.line.sendq ↔ j ∈ s.line.sendq ∧ (res = .cleared → j.isClear = false)) := by
      by_cases cleared : res = .cleared
      · simp [v, cleared, stationNo]
      · simp [v, cleared]
    obtain ⟨ctxs, day, station, sendq⟩ := kept
    have run_v : ∀ c, getRun c u = getRun c s := fun c => by simp only [getRun, getCtx, u, ctxs]
    rw [ended]
    refine ⟨fun few => ?_, ?_⟩
    · have retried : attemptFailed i res v = walk (retryFrame i (reportAttempt i u)) :=
        attemptFailed_retries (isStream_eq_false noStream) few
      rw [retried]
      refine ⟨fun context day => ?_, fun c r owner run => ?_, fun owner one => ?_⟩
      · rw [reportAttempt_other context, retryFrame_other day]
        rfl
      · rw [reportAttempt_context owner ((run_v c).trans run), retryFrame_other (by simp [owner])]
        rfl
      · have frame : dayFrameOf u = ⟨stationNo s, .all, .day s.day.county⟩ := by
          have county : u.day.county = s.day.county := congrArg DayUnit.county day
          rw [dayFrameOf, county]
          exact congrArg (Frame.mk · _ _) station
        have here : i ∈ u.line.sendq := (sendq i).2 ⟨mem_of_sending sends, fun _ => isClear_eq_false noClear⟩
        rw [reportAttempt_other (by simp [owner]),
          retryFrame_dayUnit owner here rfl fun j mem => one j ((sendq j).1 mem).1, frame]
        rfl
    have returned : i.attempts + 1 = 4 → attemptFailed i res v = walk (returnFrame i res (reportAttempt i gone)) :=
      fun last => by
        rw [attemptFailed_returns last, dropSend_reportAttempt]
        rfl
    have uncounted : (∀ c, i.owner ≠ .context c) → i.attempts + 1 = 4 →
        attemptFailed i res v = walk (returnFrame i res gone) := fun other last => by
      rw [returned last, reportAttempt_other other]
    obtain ⟨entry, dayUnit, announcement, -, ownerEngine, census⟩ := returnFrame_cases (i := i) (res := res) gone
    refine ⟨fun id owner last => ?_, fun owner last => ?_, fun id b st owner last => ?_,
      fun c r owner run request last => ?_, fun owner last => ?_, fun b owner last => ?_⟩
    · rw [uncounted (by simp [owner]) last, entry id owner]
      rfl
    · rw [uncounted (by simp [owner]) last, dayUnit owner]
      intro waits
      have again : waits.day.again = s.day.again := by
        have same : gone.day.again = s.day.again := congrArg DayUnit.again day
        by_cases silent : res = .noListener
        · simp only [waits, silent, if_true, same]
        · simp only [waits, silent, if_false, same]
      rw [← again]
      rfl
    · rw [uncounted (by simp [owner]) last, announcement id b st owner]
      split <;> rfl
    · have there : getRun c gone = some r := (run_v c).trans run
      obtain ⟨-, -, -, context, -⟩ :=
        returnFrame_cases (i := i) (res := res) (setRun c { r with attempts := r.attempts + 1 } gone)
      rw [returned last, reportAttempt_context owner there, context c _ owner (getRun_setRun_same there) request]
    · rw [uncounted (by simp [owner]) last, ownerEngine owner]
    · rw [uncounted (by simp [owner]) last, census b owner]

end Sys2Proof.Machine
end
section
/-! PROOFS. Work that asks the store keeps asking until its grant ends (R182, R183). -/

namespace Sys2Proof.Machine

/-- A piece of work waits for the store, or holds the grant. -/
def Arbiter.Asks (a : Arbiter) (w : Work) : Prop := w ∈ a.waiting w.requester ∨ ∃ E, a.held = some ⟨w, E⟩

variable {a b : Arbiter} {w v : Work} {s t : State}

theorem Arbiter.asks_sweep : a.Asks .sweep ↔ a.sweep = true ∨ ∃ E, a.held = some ⟨.sweep, E⟩ := by
  simp [Asks, waiting, Work.requester]

theorem Arbiter.asks_kiosk {c : Nat} : a.Asks (.kiosk c) ↔ c ∈ a.kiosk ∨ ∃ E, a.held = some ⟨.kiosk c, E⟩ := by
  simp [Asks, waiting, Work.requester]

theorem Arbiter.asks_stream {x : StreamWork} : s.arb.Asks (.stream x) ↔ streamAsked x s = true := by
  unfold Asks streamAsked
  cases held : s.arb.held with
  | none => simp [waiting, Work.requester]
  | some g =>
    obtain ⟨work, day⟩ := g
    simp [waiting, Work.requester]

/-- Without its oldest work a requester has the rest waiting, and every other requester what it had. -/
theorem Arbiter.waiting_without (p q : Requester) :
    (a.without q).waiting p = if q = p then (a.waiting p).tail else a.waiting p := by
  split
  · rename_i same
    subst same
    cases q with
    | kiosk | line | stream => simp [Arbiter.waiting, Arbiter.without, List.map_tail]
    | sweep => cases on : a.sweep <;> simp [Arbiter.waiting, Arbiter.without, on]
  · rename_i other
    cases p <;> simp [Arbiter.waiting, Arbiter.without, other]

/-- The work granted leaves the waiting work, and no other does. -/
theorem Arbiter.waiting_of_oldest {q : Requester} (oldest : a.oldest q = some (w, b)) (p : Requester)
    (waits : v ∈ a.waiting p) : v = w ∨ v ∈ b.waiting p := by
  cases list : a.waiting q with
  | nil => simp [Arbiter.oldest_none list] at oldest
  | cons x rest =>
    obtain ⟨first, -⟩ := Arbiter.oldest_some list
    obtain ⟨rfl, rfl⟩ : x = w ∧ a.without q = b := by simpa [first] using oldest
    rw [Arbiter.waiting_without]
    split
    · rename_i same
      subst same
      rw [list] at waits ⊢
      exact List.mem_cons.1 waits
    · exact .inr waits

/-- A grant leaves every piece of work asking (R183). -/
theorem Arbiter.Asks.arbitrate {day : Nat} (asks : a.Asks w) : (a.arbitrate day).Asks w := by
  obtain same | ⟨q, x, b, free, oldest, granted⟩ := Arbiter.arbitrate_cases a day
  · rwa [same]
  rw [granted]
  obtain waits | ⟨E, held⟩ := asks
  · obtain rfl | still := Arbiter.waiting_of_oldest oldest _ waits
    · exact .inr ⟨day, rfl⟩
    · exact .inl still
  · cases free.symm.trans held

/-- Work that waits as a grant ends asks on. -/
theorem asks_endGrant (waits : w ∈ s.arb.waiting w.requester) : (endGrant s).arb.Asks w :=
  Arbiter.Asks.arbitrate (a := { s.arb with held := none }) (.inl waits)

/-- No piece of work that asks in one state has stopped in the other. -/
def AsksOn (s t : State) : Prop := ∀ w, s.arb.Asks w → t.arb.Asks w

@[refl] theorem AsksOn.refl (s : State) : AsksOn s s := fun _ asks => asks

theorem AsksOn.trans {u : State} (h : AsksOn s t) (k : AsksOn t u) : AsksOn s u := fun w asks => k w (h w asks)

theorem AsksOn.of_arb (same : t.arb = s.arb) : AsksOn s t := fun _ asks => same ▸ asks

theorem AsksOn.arbitrate (s : State) : AsksOn s (arbitrate s) := fun _ asks => asks.arbitrate

/-- Work that is added leaves the other asking. -/
theorem AsksOn.added {a : Arbiter} (held : a.held = s.arb.held) (waiting : ∀ q, ∀ w ∈ s.arb.waiting q, w ∈ a.waiting q) :
    AsksOn s (Machine.arbitrate { s with arb := a }) := fun w asks =>
  Arbiter.Asks.arbitrate (a := a) (asks.imp (waiting _ w) (by rw [held]; exact id))

theorem AsksOn.askKiosk (c : Nat) (s : State) : AsksOn s (askKiosk c s) :=
  .added rfl fun q w waits => by
    cases q <;> simp_all [Arbiter.waiting]

theorem AsksOn.askLine (x : LineWork) (s : State) : AsksOn s (askLine x s) :=
  .added rfl fun q w waits => by
    cases q <;> simp_all [Arbiter.waiting]

theorem AsksOn.askStream (x : StreamWork) (s : State) : AsksOn s (askStream x s) :=
  .added rfl fun q w waits => by
    cases q <;> simp_all [Arbiter.waiting]

theorem AsksOn.askStreamOnce (x : StreamWork) (s : State) : AsksOn s (askStreamOnce x s) := by
  unfold Machine.askStreamOnce
  split
  · exact .refl s
  · exact .askStream x s

theorem AsksOn.askSweep (s : State) : AsksOn s (askSweep s) := by
  unfold Machine.askSweep
  split
  · exact .refl s
  · refine .added rfl fun q w waits => ?_
    cases q <;> simp_all [Arbiter.waiting]

/-! ## Asking -/

theorem asks_askKiosk (c : Nat) (s : State) : (askKiosk c s).arb.Asks (.kiosk c) :=
  Arbiter.Asks.arbitrate (.inl (by simp [Arbiter.waiting, Work.requester]))

theorem asks_askStream (x : StreamWork) (s : State) : (askStream x s).arb.Asks (.stream x) :=
  Arbiter.Asks.arbitrate (.inl (by simp [Arbiter.waiting, Work.requester]))

theorem asks_askStreamOnce (x : StreamWork) (s : State) : (askStreamOnce x s).arb.Asks (.stream x) := by
  unfold askStreamOnce
  split
  · rename_i asked
    exact Arbiter.asks_stream.2 asked
  · exact asks_askStream x s

theorem asks_askSweep (s : State) : (askSweep s).arb.Asks .sweep := by
  unfold askSweep
  split
  · rename_i held
    unfold burstHeld at held
    split at held
    · rename_i g is
      obtain ⟨work, E⟩ := g
      obtain rfl := beq_iff_eq.1 held
      exact Arbiter.asks_sweep.2 (.inr ⟨E, is⟩)
    · cases held
  · exact Arbiter.Asks.arbitrate (Arbiter.asks_sweep.2 (.inl rfl))

end Sys2Proof.Machine
end
section
/-! PROOFS. The start of the sweep, and the own DAY frame (R55, R58). -/

namespace Sys2Proof.Machine

variable {s t u : State} {d : Nat}

/-! ## The sweep starts (R58) -/

/-- The start of the sweep writes the sweep's own state and asks the store. -/
theorem startSweep_eq (s : State) : ∃ x a, startSweep s = { s with day := x, arb := a } ∧ x.county = s.day.county ∧
    x.again = s.day.again ∧ x.requeueWait = s.day.requeueWait := by
  unfold startSweep
  repeat' split
  · exact ⟨_, _, rfl, rfl, rfl, rfl⟩
  · exact ⟨_, _, rfl, rfl, rfl, rfl⟩
  · unfold askSweep
    split
    · exact ⟨_, _, rfl, rfl, rfl, rfl⟩
    · exact ⟨_, _, rfl, rfl, rfl, rfl⟩
  · exact ⟨_, _, rfl, rfl, rfl, rfl⟩

theorem AsksOn.startSweep (s : State) : AsksOn s (startSweep s) := by
  unfold Machine.startSweep
  repeat' split
  · exact .of_arb rfl
  · exact .of_arb rfl
  · exact AsksOn.trans (t := { s with day := { s.day with sweep := .running, pos := some .first } }) (.of_arb rfl)
      (.askSweep _)
  · exact .refl s

/-- The start of the sweep restarts it. -/
theorem sweepRestarts_startSweep (s : State) : s.sweepRestarts (startSweep s) := by
  intro online
  refine ⟨fun held => ?_, fun held => ?_⟩
  · simp [startSweep, online, held]
  · by_cases paused : s.day.sweep = .paused
    · simp [startSweep, online, held, paused, SweepPos.first]
    · have started : startSweep s = askSweep { s with day := { s.day with sweep := .running, pos := some .first } } := by
        simp [startSweep, online, held, paused]
      have unheld : burstHeld { s with day := { s.day with sweep := .running, pos := some .first } } = false := held
      have day : (startSweep s).day = { s.day with sweep := .running, pos := some .first } := by
        rw [started, askSweep, unheld]
        rfl
      refine ⟨by rw [day]; rfl, by rw [day, if_neg paused], fun _ => ?_⟩
      rw [started]
      exact Arbiter.asks_sweep.1 (asks_askSweep _)

/-- That the sweep restarts says nothing of the rest of the state. -/
theorem State.sweepRestarts.of_eq {s' t' : State} (h : s.sweepRestarts t) (station : s'.station = s.station)
    (held : burstHeld s' = burstHeld s) (sweep : s'.day.sweep = s.day.sweep) (restart : t'.day.restart = t.day.restart)
    (pos : t'.day.pos = t.day.pos) (sweep' : t'.day.sweep = t.day.sweep)
    (asks : t.arb.Asks .sweep → t'.arb.Asks .sweep) : s'.sweepRestarts t' := by
  intro online
  obtain ⟨again, starts⟩ := h (station ▸ online)
  rw [held, restart, pos, sweep, sweep']
  refine ⟨again, fun free => ?_⟩
  obtain ⟨pos, sweep, asked⟩ := starts free
  exact ⟨pos, sweep, fun running => Arbiter.asks_sweep.1 (asks (Arbiter.asks_sweep.2 (asked running)))⟩

/-- A sweep that restarts restarts in a later state where the day unit stands and work asks on. -/
theorem State.sweepRestarts.later {t' : State} (h : s.sweepRestarts t) (day : t'.day = t.day) (asks : AsksOn t t') :
    s.sweepRestarts t' :=
  h.of_eq rfl rfl rfl (by rw [day]) (by rw [day]) (by rw [day]) (asks .sweep)

/-! ## Places of the send queue (R132, R133) -/

/-- A frame that is placed, or waits for its place. -/
theorem placeOrWait_eq (f : Frame) (o : Owner) (w : Waiter) (s : State) : ∃ l, placeOrWait f o w s = { s with line := l } ∧
    l.slots = s.line.slots ∧ l.acc = s.line.acc ∧ l.turn = s.line.turn ∧
    ((∃ j, l.sendq = s.line.sendq ++ [j] ∧ j.frame = f ∧ j.owner = o) ∨ (l.sendq = s.line.sendq ∧ w ∈ l.waiters)) := by
  unfold placeOrWait
  split
  · exact ⟨_, rfl, rfl, rfl, rfl, .inl ⟨_, rfl, rfl, rfl⟩⟩
  · unfold waitForPlace
    split
    · rename_i waits
      exact ⟨_, rfl, rfl, rfl, rfl, .inr ⟨rfl, List.contains_iff_mem.1 waits⟩⟩
    · exact ⟨_, rfl, rfl, rfl, rfl, .inr ⟨rfl, List.mem_append_right _ (List.mem_singleton.2 rfl)⟩⟩

/-! ## The own DAY frame (R55) -/

/-- Whether the own DAY frame is being sent, or an occasion is kept already (log entry 16). -/
def State.keepsDay (s : State) : Bool := s.day.again || (ownDay s).any fun i => isBeingSent i s

theorem mem_of_ownDay {i : SendItem} (own : ownDay s = some i) : i ∈ s.line.sendq ∧ i.owner = .dayUnit := by
  have owner := List.find?_some own
  exact ⟨List.mem_of_find?_eq_some own, beq_iff_eq.1 owner⟩

theorem queueDay_none (own : ownDay s = none) : queueDay s = placeOrWait (dayFrameOf s) .dayUnit .day s := by
  rw [queueDay, own]

theorem queueDay_sent {i : SendItem} (own : ownDay s = some i) (sent : isBeingSent i s = true) :
    queueDay s = setAgain true s := by
  simp [queueDay, own, sent]

theorem queueDay_waiting {i : SendItem} (own : ownDay s = some i) (unsent : isBeingSent i s = false) :
    queueDay s = stopWaiting .day (mapSend i.id (fun j => { j with frame := dayFrameOf s }) s) := by
  simp [queueDay, own, unsent]

/-- The day unit queues its frame in the line, and keeps the occasion where its frame is being sent. -/
theorem queueDay_eq (s : State) : ∃ l, queueDay s = { s with line := l, day := { s.day with again := s.keepsDay } } ∧
    l.slots = s.line.slots ∧ l.acc = s.line.acc ∧ l.turn = s.line.turn := by
  cases own : ownDay s with
  | none =>
    obtain ⟨l, placed, slots, acc, turn, -⟩ := placeOrWait_eq (dayFrameOf s) .dayUnit .day s
    have keeps : s.keepsDay = s.day.again := by simp [State.keepsDay, own]
    exact ⟨l, by rw [keeps, queueDay_none own]; exact placed, slots, acc, turn⟩
  | some i =>
    cases sent : isBeingSent i s with
    | true => exact ⟨_, by simp [queueDay_sent own sent, own, sent, State.keepsDay, setAgain], rfl, rfl, rfl⟩
    | false =>
      have keeps : s.keepsDay = s.day.again := by simp [State.keepsDay, own, sent]
      rw [keeps, queueDay_waiting own sent]
      exact ⟨_, rfl, rfl, rfl, rfl⟩

/-- The county day is queued, or the day unit waits for a place, or keeps the occasion (R55). -/
theorem daySent_queueDay (s : State) : (queueDay s).daySent s.day.county := by
  cases own : ownDay s with
  | none =>
    obtain ⟨l, placed, -, -, -, ⟨j, sendq, frame, owner⟩ | ⟨-, waits⟩⟩ := placeOrWait_eq (dayFrameOf s) .dayUnit .day s
    · rw [queueDay_none own, placed]
      exact .inl ⟨j, by simp [sendq], owner, by rw [frame]; rfl, by rw [frame]; rfl⟩
    · rw [queueDay_none own, placed]
      exact .inr (.inl waits)
  | some i =>
    obtain ⟨mem, owner⟩ := mem_of_ownDay own
    cases sent : isBeingSent i s with
    | true =>
      rw [queueDay_sent own sent]
      exact .inr (.inr ⟨rfl, i, mem, owner, sent⟩)
    | false =>
      rw [queueDay_waiting own sent]
      exact .inl ⟨{ i with frame := dayFrameOf s }, List.mem_map.2 ⟨i, mem, if_pos rfl⟩, owner, rfl, rfl⟩

theorem State.daySent.of_eq (h : t.daySent d) (sendq : u.line.sendq = t.line.sendq) (turn : u.line.turn = t.line.turn)
    (again : u.day.again = t.day.again) (waits : .day ∈ t.line.waiters → .day ∈ u.line.waiters) : u.daySent d := by
  obtain queued | waiting | ⟨kept, j, mem, owner, sent⟩ := h
  · exact .inl (sendq ▸ queued)
  · exact .inr (.inl (waits waiting))
  · exact .inr (.inr ⟨again ▸ kept, j, sendq ▸ mem, owner, by rwa [isBeingSent, turn]⟩)

/-- The own frame that waits carries the day; one being sent is left as it is (log entry 16). -/
theorem carryDay_eq (s : State) : ∃ l, carryDay s = { s with line := l } ∧ l.slots = s.line.slots ∧ l.acc = s.line.acc ∧
    l.turn = s.line.turn := by
  unfold carryDay
  repeat' split
  · exact ⟨_, rfl, rfl, rfl, rfl⟩
  · exact ⟨_, rfl, rfl, rfl, rfl⟩
  · exact ⟨_, rfl, rfl, rfl, rfl⟩

/-- What the adoption of a day leaves (R56, R58). -/
theorem adoptDay_eq (d : Nat) (s : State) : ∃ x l a, adoptDay d s = { s with day := x, line := l, arb := a } ∧ x.county = d ∧
    l.slots = s.line.slots ∧ l.acc = s.line.acc ∧ l.turn = s.line.turn := by
  obtain ⟨l, carried, slots, acc, turn⟩ := carryDay_eq { s with day := { s.day with county := d } }
  obtain ⟨x, a, started, county, -⟩ := startSweep_eq (carryDay { s with day := { s.day with county := d } })
  exact ⟨x, l, a, by rw [adoptDay, started, carried], by rw [county, carried], slots, acc, turn⟩

theorem sweepRestarts_adoptDay (d : Nat) (s : State) : s.sweepRestarts (adoptDay d s) := by
  obtain ⟨l, carried, -⟩ := carryDay_eq { s with day := { s.day with county := d } }
  have base : burstHeld s = burstHeld (carryDay { s with day := { s.day with county := d } }) := by rw [carried]; rfl
  exact (sweepRestarts_startSweep (carryDay { s with day := { s.day with county := d } })).of_eq (by rw [carried]) base
    (by rw [carried]) rfl rfl rfl id

end Sys2Proof.Machine
end
section
/-! PROOFS. A freed slot leaves the turn, the other waiting blocks and the work that asks the store (R133, R145, R146). -/

namespace Sys2Proof.Machine

variable {s : State} {k : Nat} {w : Waiter}

theorem mem_waitForPlace (v : Waiter) (waits : w ∈ s.line.waiters) : w ∈ (waitForPlace v s).line.waiters := by
  unfold waitForPlace
  split
  · exact waits
  · exact List.mem_append_left _ waits

theorem mem_stopWaiting {v : Waiter} (other : w ≠ v) (waits : w ∈ s.line.waiters) :
    w ∈ (stopWaiting v s).line.waiters :=
  List.mem_filter.2 ⟨waits, bne_iff_ne.2 other⟩

theorem turn_waitForPlace (v : Waiter) (s : State) : (waitForPlace v s).line.turn = s.line.turn := by
  unfold waitForPlace
  split <;> rfl

/-- A STREAM that begins ends the wait of its own slot alone. -/
theorem beginStream_line (other : ∀ k, w ≠ .reqSlot k) (s : State) : (beginStream s).line.turn = s.line.turn ∧
    (w ∈ s.line.waiters → w ∈ (beginStream s).line.waiters) := by
  unfold beginStream
  repeat' split
  · exact ⟨rfl, id⟩
  · exact ⟨rfl, mem_stopWaiting (other _)⟩
  · exact ⟨turn_waitForPlace _ s, mem_waitForPlace _⟩
  · exact ⟨rfl, id⟩
  · exact ⟨rfl, id⟩

theorem releaseSlot_line (k : Nat) (s : State) : (releaseSlot k s).line.turn = s.line.turn ∧
    (releaseSlot k s).line.waiters = s.line.waiters ∧ (releaseSlot k s).arb = s.arb := by
  unfold releaseSlot
  repeat' split
  all_goals exact ⟨rfl, rfl, rfl⟩

theorem freeSlot_line (other : ∀ k, w ≠ .reqSlot k) (k : Nat) (s : State) :
    (freeSlot k s).line.turn = s.line.turn ∧ (w ∈ s.line.waiters → w ∈ (freeSlot k s).line.waiters) := by
  obtain ⟨turn, waiters, -⟩ := releaseSlot_line k s
  obtain ⟨turn', waits⟩ := beginStream_line other (releaseSlot k s)
  exact ⟨turn'.trans turn, fun mem => waits (waiters ▸ mem)⟩

theorem AsksOn.beginStream (s : State) : AsksOn s (beginStream s) := by
  unfold Machine.beginStream
  repeat' split
  · exact (AsksOn.of_arb (t := setSlot _ _ s) rfl).trans (.askStream _ _)
  · exact (AsksOn.of_arb (t := setSlot _ _ (stopWaiting _ s)) rfl).trans (.askStream _ _)
  · refine .of_arb ?_
    unfold waitForPlace
    split <;> rfl
  · exact .refl s
  · exact .refl s

theorem AsksOn.freeSlot (k : Nat) (s : State) : AsksOn s (freeSlot k s) := by
  obtain ⟨-, -, arb⟩ := releaseSlot_line k s
  exact (AsksOn.of_arb arb).trans (.beginStream _)

theorem State.daySent.freeSlot {d : Nat} (h : s.daySent d) (busy : getSlot k s ≠ .free) : (freeSlot k s).daySent d := by
  obtain ⟨turn, waits⟩ := freeSlot_line (w := .day) (fun _ => Waiter.noConfusion) k s
  obtain ⟨l, a, freed, sendq, -⟩ := freeSlot_eq busy
  exact h.of_eq (by rw [freed]; exact sendq) turn (by rw [freed]) waits

/-- The frame at the head of the slots has a slot. -/
theorem busy_of_headSlot {age : Nat} {f : Frame} (head : headSlot s = some (k, age, f)) : getSlot k s ≠ .free := by
  intro free
  have full := fullFrame_of_headSlot head
  rw [free] at full
  cases full

end Sys2Proof.Machine
end
section
/-! PROOFS. ADVANCE_DAY (R53; O38), and the DAY frames of other stations (R54, R55; O53). -/

namespace Sys2Proof.Machine

variable {s t : State} {tag d : Nat}

/-! ## ADVANCE_DAY -/

theorem exec_advanceDay_online (free : s.port.exchange = none) (online : s.station = .online) (range : d ≤ lastDay) :
    exec (.advanceDay tag .whole d) s = .next (refreshAttention (advanceDay tag d s)) := by
  rw [exec_advanceDay, if_pos range]
  simp [submitLocal, portFree, free, online, finish]

/-- Settles O38, by what the adoption of a day and the queueing of the DAY frame leave. -/
theorem advanceDayAdoptsALaterDay : Obligations.AdvanceDayAdoptsALaterDay := by
  intro s tag d free online range
  refine ⟨fun later => ⟨_, exec_advanceDay_online free online range, ?_⟩, fun known => ?_⟩
  · rw [advanceDay, if_pos later]
    obtain ⟨x, l, a, adopted, county, -⟩ := adoptDay_eq d s
    obtain ⟨l', queued, -⟩ := queueDay_eq (adoptDay d s)
    have day : (adoptDay d s).day.county = d := by rw [adopted]; exact county
    refine ⟨?_, rfl, ?_, ?_, ?_, ?_, ?_, ?_, ?_⟩
    · rw [queued]
      exact day
    any_goals
      rw [queued, adopted]
      rfl
    · exact (sweepRestarts_adoptDay d s).of_eq rfl rfl rfl (by rw [queued]; rfl) (by rw [queued]; rfl) (by rw [queued]; rfl)
        (by rw [queued]; exact id)
    · have sent := daySent_queueDay (adoptDay d s)
      rw [day] at sent
      exact sent
  · rw [exec_advanceDay_online free online range, advanceDay, if_neg (Nat.not_lt.2 known)]
    rfl

/-! ## DAY frames -/

theorem takeDay_later (later : s.day.county < d) : takeDay d s = postNotice (.day d s.day.county) (adoptDay d s) :=
  if_pos later

theorem takeDay_earlier (earlier : d < s.day.county) : takeDay d s = queueDay s := by
  rw [takeDay, if_neg (Nat.lt_asymm earlier), if_pos earlier]

theorem takeDay_same (same : d = s.day.county) : takeDay d s = withdrawDay d s := by
  rw [takeDay, if_neg (same ▸ lt_irrefl d), if_neg (same ▸ lt_irrefl d)]

theorem postNotice_eq (n : Notice) (s : State) : ∃ p, postNotice n s = { s with port := p } := by
  unfold postNotice
  split <;> exact ⟨_, rfl⟩

theorem withdrawDay_eq (d : Nat) (s : State) : ∃ l, withdrawDay d s = { s with line := l } ∧ l.slots = s.line.slots := by
  unfold withdrawDay
  repeat' split
  all_goals exact ⟨_, rfl, rfl⟩

/-- What a DAY frame leaves of everything but day unit, line, arbiter and notices (R54). -/
theorem takeDay_eq (d : Nat) (s : State) : ∃ x l a p, takeDay d s = { s with day := x, line := l, arb := a, port := p } ∧
    x.county = max d s.day.county ∧ l.slots = s.line.slots := by
  obtain later | earlier | same := Nat.lt_trichotomy s.day.county d
  · obtain ⟨x, l, a, adopted, county, slots, -⟩ := adoptDay_eq d s
    obtain ⟨p, posted⟩ := postNotice_eq (.day d s.day.county) (adoptDay d s)
    rw [takeDay_later later, posted, adopted]
    exact ⟨x, l, a, p, rfl, county.trans (max_eq_left later.le).symm, slots⟩
  · obtain ⟨l, withdrawn, slots⟩ := withdrawDay_eq d s
    rw [takeDay_same earlier.symm, withdrawn]
    exact ⟨_, l, _, _, rfl, (max_eq_right earlier.ge).symm, slots⟩
  · obtain ⟨l, queued, slots, -⟩ := queueDay_eq s
    rw [takeDay_earlier same, queued]
    exact ⟨_, l, _, _, rfl, (max_eq_right same.le).symm, slots⟩

/-- A waiting own frame carries the day adopted. -/
theorem sendq_adoptDay {i : SendItem} (own : ownDay s = some i) (turn : s.line.turn = none) :
    (adoptDay d s).line.sendq =
      s.line.sendq.map fun j => if j.id = i.id then { j with frame := ⟨stationNo s, .all, .day d⟩ } else j := by
  obtain ⟨x, a, started, -⟩ := startSweep_eq (carryDay { s with day := { s.day with county := d } })
  have own' : ownDay { s with day := { s.day with county := d } } = some i := own
  have unsent : isBeingSent i { s with day := { s.day with county := d } } = false := by simp [isBeingSent, turn]
  rw [adoptDay, started, carryDay, own']
  simp only [unsent]
  rfl

/-- A waiting own frame of the day is withdrawn. -/
theorem sendq_withdrawDay {i : SendItem} (own : ownDay s = some i) (turn : s.line.turn = none)
    (body : i.frame.body = .day d) : (withdrawDay d s).line.sendq = s.line.sendq.filter fun j => j.id != i.id := by
  have unsent : isBeingSent i s = false := by simp [isBeingSent, turn]
  simp [withdrawDay, own, unsent, body, dropSend]

/-- A DAY frame at the head of the slots is taken and its slot released (R54). -/
theorem exec_dayFrame {k age : Nat} {f : Frame} (head : headSlot s = some (k, age, f)) (body : f.body = .day d) :
    exec .dayFrame s = .next (refreshAttention (freeSlot k (takeDay d s))) := by
  show execDayFrame s = _
  simp [execDayFrame, head, body, finish]

/-- Settles O53, by the three comparisons of the days (`takeDay_later`, `takeDay_earlier`, `takeDay_same`). -/
theorem dayFramesRaiseTheDay : Obligations.DayFramesRaiseTheDay := by
  intro s again
  refine ⟨fun k age f d head body => ⟨_, exec_dayFrame head body, ?_⟩, fun waits => ?_⟩
  · obtain ⟨x, l, a, p, taken, county, slots⟩ := takeDay_eq d s
    have busy : getSlot k (takeDay d s) ≠ .free := by
      have before := busy_of_headSlot head
      rw [taken]
      simpa only [getSlot, slots] using before
    obtain ⟨l', a', freed, sendq, -, slot⟩ := freeSlot_eq busy
    have day : (freeSlot k (takeDay d s)).day = (takeDay d s).day := by rw [freed]
    have port : (freeSlot k (takeDay d s)).port = (takeDay d s).port := by rw [freed]
    have sends : (freeSlot k (takeDay d s)).line.sendq = (takeDay d s).line.sendq := by rw [freed]; exact sendq
    refine ⟨slot, ?_, ?_, ?_, ?_, ?_, fun later => ?_, fun later room => ?_, fun later i own turn => ?_, fun known => ?_,
      fun earlier => ⟨?_, ?_⟩, fun same => ?_, fun same i own turn frame => ?_⟩
    any_goals
      rw [freed, taken]
      rfl
    · rw [freed, taken]
      exact county
    · refine State.sweepRestarts.later (t := takeDay d s) ?_ day (.freeSlot k _)
      obtain ⟨p, posted⟩ := postNotice_eq (.day d s.day.county) (adoptDay d s)
      rw [takeDay_later later, posted]
      exact (sweepRestarts_adoptDay d s).of_eq rfl rfl rfl rfl rfl rfl id
    · obtain ⟨x, l, a, adopted, -⟩ := adoptDay_eq d s
      change (freeSlot k (takeDay d s)).port.notices = _
      rw [port, takeDay_later later, adopted]
      simp [postNotice, Config.notices, room]
    · obtain ⟨p, posted⟩ := postNotice_eq (.day d s.day.county) (adoptDay d s)
      change (freeSlot k (takeDay d s)).line.sendq = _
      rw [sends, takeDay_later later, posted]
      exact sendq_adoptDay own turn
    · change (freeSlot k (takeDay d s)).port.notices = _
      obtain earlier | same := Nat.lt_or_eq_of_le known
      · obtain ⟨l, queued, -⟩ := queueDay_eq s
        rw [port, takeDay_earlier earlier, queued]
      · obtain ⟨l, withdrawn, -⟩ := withdrawDay_eq d s
        rw [port, takeDay_same same, withdrawn]
    · refine State.daySent.freeSlot ?_ busy
      rw [takeDay_earlier earlier]
      exact daySent_queueDay s
    · obtain ⟨l, queued, -⟩ := queueDay_eq s
      change (freeSlot k (takeDay d s)).day = _
      rw [day, takeDay_earlier earlier, queued]
      rfl
    · obtain ⟨l, withdrawn, -⟩ := withdrawDay_eq d s
      change (freeSlot k (takeDay d s)).day = _
      rw [day, takeDay_same same, withdrawn]
    · change (freeSlot k (takeDay d s)).line.sendq = _
      rw [sends, takeDay_same same]
      exact sendq_withdrawDay own turn frame
  · obtain ⟨l, queued, -⟩ := queueDay_eq (setRequeueWait false s)
    have done : exec .dayRequeueWait s = .next (refreshAttention (queueDay (setRequeueWait false s))) := by
      show execDayRequeueWait s = _
      simp [execDayRequeueWait, waits, finish]
    refine ⟨_, done, ?_, daySent_queueDay (setRequeueWait false s), ?_, ?_, ?_, ?_⟩
    all_goals
      rw [queued]
      rfl

end Sys2Proof.Machine
end
section
/-! PROOFS. The end of a transaction, a census asked, and a step taken by the view of its block (R94, R100, R158). -/

namespace Sys2Proof.Machine

variable {s t : State} {c g : Nat} {r : Run} {b : Block} {x : Asker}

/-! ## The end of a transaction -/

/-- The record of a transaction that ends. -/
def Run.ended (r : Run) (o : OutcomeCode) (why : Option Reason) (v : Values) : Answer :=
  { tag := r.tag, request := r.request, outcome := o, reason := why, step := r.step, deferrals := r.deferrals,
    redirects := r.redirects, attempts := r.attempts, gathered := r.gathered, values := v }

/-- A transaction that is not refused ends without a compensation (R94, R113). -/
theorem endTransaction_eq {o : OutcomeCode} {why : Option Reason} {v : Values}
    (is : getCtx c s = some ⟨g, .running r⟩) (other : o ≠ .refused) :
    endTransaction c o why v s = { setCtx c ⟨g, .answered (r.ended o why v)⟩ s with
      port := { s.port with answers := s.port.answers ++ [c] } } := by
  simp [endTransaction, is, other, Run.ended]

/-! ## A census that is asked -/

theorem mem_joinCensus (x : Asker) (p : CensusPlace) :
    (joinCensus x p).b = p.b ∧ (x ∈ (joinCensus x p).askers ∨ x ∈ (joinCensus x p).later) := by
  unfold joinCensus
  split <;> simp

/-- A census that is asked changes line and census table. -/
theorem askCensus_eq (b : Block) (x : Asker) (s : State) : ∃ l cs w,
    askCensus b x s = { s with line := l, map := { s.map with census := cs, censusWait := w } } := by
  unfold askCensus
  repeat' split
  · exact ⟨_, _, _, rfl⟩
  · obtain ⟨l, placed, -⟩ := placeOrWait_eq (censusFrame b s) (.census b) (.census b)
      { s with map := { s.map with census := s.map.census ++ [⟨b, .queued, [x], []⟩] } }
    exact ⟨l, _, _, placed⟩
  · exact ⟨_, _, _, rfl⟩

/-- Who asks a census is among those that have it asked (R158). -/
theorem censusAsked_askCensus (b : Block) (x : Asker) (s : State) : (askCensus b x s).censusAsked b x := by
  unfold askCensus
  split
  · rename_i there
    obtain ⟨p, mem, block⟩ := List.any_eq_true.1 there
    have block := beq_iff_eq.1 block
    refine .inl ⟨joinCensus x p, List.mem_map.2 ⟨p, mem, if_pos block⟩, ?_⟩
    obtain ⟨same, asked⟩ := mem_joinCensus x p
    exact ⟨same.trans block, asked⟩
  split
  · obtain ⟨l, placed, -⟩ := placeOrWait_eq (censusFrame b s) (.census b) (.census b)
      { s with map := { s.map with census := s.map.census ++ [⟨b, .queued, [x], []⟩] } }
    rw [openCensus, placed]
    exact .inl ⟨_, List.mem_append_right _ (List.mem_singleton.2 rfl), rfl, .inl (List.mem_singleton.2 rfl)⟩
  · exact .inr (List.mem_append_right _ (List.mem_singleton.2 rfl))

/-! ## A step taken by the view of its block (R100) -/

/-- The context is RUNNING still, at the step it had, and no other context, no record and no entry has changed. -/
structure StepBegun (c g : Nat) (r : Run) (p : Phase) (s t : State) : Prop where
  run : ∃ r', getCtx c t = some ⟨g, .running r'⟩ ∧ r'.step = r.step ∧ r'.phase = p ∧ r'.tag = r.tag ∧
    r'.request = r.request
  store : t.store = s.store
  queue : t.queue = s.queue
  others : ∀ d, d ≠ c → getCtx d t = getCtx d s

theorem stepBegun_setRun {r' : Run} (is : getCtx c s = some ⟨g, .running r⟩) (step : r'.step = r.step)
    (tag : r'.tag = r.tag) (request : r'.request = r.request) (ctxs : t.ctxs = (setRun c r' s).ctxs)
    (store : t.store = (setRun c r' s).store) (queue : t.queue = (setRun c r' s).queue) :
    StepBegun c g r r'.phase s t := by
  have same : ∀ d, getCtx d t = getCtx d (setRun c r' s) := fun d => by rw [getCtx, ctxs, getCtx]
  rw [setRun_eq is] at store queue
  refine ⟨⟨r', by rw [same, getCtx_setRun_same is], step, rfl, tag, request⟩, store, queue, fun d other => ?_⟩
  rw [same, setRun_eq is, getCtx_setCtx_other other.symm]

/-- A step that is resolved waits as the view of its block has it (R100 to R107). -/
theorem resolveStep_begins {o : OwnerOp} (is : getCtx c s = some ⟨g, .running r⟩) (op : r.op (stationNo s) = some o)
    (few : r.deferrals < 39) : StepBegun c g r (firstPhase (viewOf o.block s)) s (resolveStep c s) ∧
      (resolveStep c s).stepTaken c o (viewOf o.block s) := by
  have run := getRun_of_getCtx is
  have below : r.deferrals + 1 ≠ Config.deferralLimit := Nat.ne_of_lt (Nat.add_lt_add_right few 1)
  have local_ : ∀ u, u = askKiosk c (setRun c { r with phase := .local_ } s) → StepBegun c g r .local_ s u ∧
      (c ∈ u.arb.kiosk ∨ ∃ E, u.arb.held = some ⟨.kiosk c, E⟩) := by
    rintro u rfl
    exact ⟨stepBegun_setRun (r' := { r with phase := .local_ }) is rfl rfl rfl rfl rfl rfl,
      Arbiter.asks_kiosk.1 (asks_askKiosk c _)⟩
  have deferred : StepBegun c g r .deferring s (deferStep c s) := by
    have stands : deferStep c s = setRun c { r with deferrals := r.deferrals + 1, phase := .deferring } s := by
      simp [deferStep, run, below]
    rw [stands]
    exact stepBegun_setRun (r' := { r with deferrals := r.deferrals + 1, phase := .deferring }) is rfl rfl rfl rfl rfl rfl
  cases view : viewOf o.block s with
  | home =>
    have resolved : resolveStep c s = askKiosk c (setRun c { r with phase := .local_ } s) := by
      simp only [resolveStep, run, op, view]
    exact local_ _ resolved
  | lending st =>
    have resolved : resolveStep c s = askKiosk c (setRun c { r with phase := .local_ } s) := by
      simp only [resolveStep, run, op, view]
    exact local_ _ resolved
  | receiving st =>
    have resolved : resolveStep c s = deferStep c s := by simp only [resolveStep, run, op, view]
    rw [resolved]
    exact ⟨deferred, trivial⟩
  | probing =>
    have resolved : resolveStep c s = deferStep c s := by simp only [resolveStep, run, op, view]
    rw [resolved]
    exact ⟨deferred, trivial⟩
  | foreign st =>
    have resolved : resolveStep c s = placeOrWait ⟨stationNo s, .station st, .req (ctxRef c r s) (.op o)⟩ (.context c)
        (.context c st) (setRun c { r with phase := .sending, attempts := 0 } s) := by
      simp only [resolveStep, run, op, view, sendStep]
    obtain ⟨l, placed, -, -, -, sent⟩ := placeOrWait_eq ⟨stationNo s, .station st, .req (ctxRef c r s) (.op o)⟩
      (.context c) (.context c st) (setRun c { r with phase := .sending, attempts := 0 } s)
    rw [resolved, placed]
    refine ⟨stepBegun_setRun (r' := { r with phase := .sending, attempts := 0 }) is rfl rfl rfl rfl rfl rfl, ?_⟩
    obtain ⟨j, sendq, frame, owner⟩ | ⟨-, waits⟩ := sent
    · have there := getCtx_setRun_same (r' := { r with phase := .sending, attempts := 0 }) is
      refine .inl ⟨_, getRun_of_getCtx there, j, ?_, owner, ?_⟩
      · exact sendq ▸ List.mem_append_right _ (List.mem_singleton.2 rfl)
      · rw [frame]
        have ref : ctxRef c r s = ⟨c, g, r.step⟩ := by simp [ctxRef, is]
        have ref' : ctxRef c { r with phase := .sending, attempts := 0 }
            (setRun c { r with phase := .sending, attempts := 0 } s) = ⟨c, g, r.step⟩ := by simp [ctxRef, there]
        have station : stationNo (setRun c { r with phase := .sending, attempts := 0 } s) = stationNo s := by
          rw [setRun_eq is]
          rfl
        rw [ref, ← ref', ← station]
        rfl
    · exact .inr waits
  | unknown =>
    have resolved : resolveStep c s = askCensus o.block (.context c)
        (setRun c { r with deferrals := r.deferrals + 1, redirects := 0, phase := .census } s) := by
      simp only [resolveStep, run, op, view, censusStep, below, if_false]
    have asked := censusAsked_askCensus o.block (.context c)
      (setRun c { r with deferrals := r.deferrals + 1, redirects := 0, phase := .census } s)
    obtain ⟨l, cs, w, census⟩ := askCensus_eq o.block (.context c)
      (setRun c { r with deferrals := r.deferrals + 1, redirects := 0, phase := .census } s)
    rw [resolved]
    refine ⟨?_, asked⟩
    rw [census]
    exact stepBegun_setRun (r' := { r with deferrals := r.deferrals + 1, redirects := 0, phase := .census })
      is rfl rfl rfl rfl rfl rfl

end Sys2Proof.Machine
end
section
/-! PROOFS. The expiry of the answer limit and of the deferral wait (R105, R109; O42). -/

namespace Sys2Proof.Machine

variable {s t : State} {c g : Nat} {r : Run}

/-! ## The answer limit -/

theorem exec_answerLimit (run : getRun c s = some r) (phase : r.phase = .awaiting)
    (other : ∀ b st, r.request ≠ .handOver b st) :
    exec (.answerLimit c) s = .next (refreshAttention (endTransaction c .timedOut none .nothing s)) := by
  have ended : execAnswerLimit c s = finish (endTransaction c .timedOut none .nothing s) := by
    simp only [execAnswerLimit, run, phase, if_true]
  exact ended

theorem exec_answerLimit_offer {b : Block} {st : Nat} (run : getRun c s = some r) (phase : r.phase = .awaiting)
    (offer : r.request = .handOver b st) :
    exec (.answerLimit c) s = .next (refreshAttention (endOffer .timedOut none s)) := by
  show execAnswerLimit c s = _
  simp [execAnswerLimit, run, phase, offer, finish]

/-! ## A view that becomes HOME (R58, R153) -/

theorem becomeHome_eq (b : Block) (s : State) : ∃ x a, becomeHome b s =
    { s with day := x, arb := a, map := { s.map with views := putView s.map.views b.key .home } } ∧
      x.county = s.day.county := by
  obtain ⟨x, a, started, county, -⟩ := startSweep_eq (setView b .home s)
  exact ⟨x, a, started, county⟩

theorem viewOf_becomeHome (b : Block) (s : State) : viewOf b (becomeHome b s) = .home := by
  obtain ⟨x, a, home, -⟩ := becomeHome_eq b s
  rw [home]
  exact viewOf_setView_same b .home s

theorem sweepRestarts_becomeHome (b : Block) (s : State) : s.sweepRestarts (becomeHome b s) :=
  (sweepRestarts_startSweep (setView b .home s)).of_eq rfl rfl rfl rfl rfl rfl id

/-! ## The deferral wait -/

theorem exec_deferralWait (run : getRun c s = some r) (phase : r.phase = .deferring) :
    exec (.deferralWait c) s = .next (refreshAttention (resumeStep c s)) := by
  show execDeferralWait c s = _
  simp [execDeferralWait, run, phase, finish]

/-- Once its compensation entry is held the context's step is resolved again (R97, R105). -/
theorem resumeStep_eq (is : getCtx c s = some ⟨g, .running r⟩)
    (entry : r.step = 1 ∨ r.comp = true ∨ r.request.compensation = none ∨ 0 < freePlaces s) :
    ∃ held, resumeStep c s = resolveStep c (setCtx c ⟨g, .running { r with comp := held }⟩ s) := by
  have run := getRun_of_getCtx is
  cases needs : r.needsEntry with
  | false =>
    refine ⟨r.comp, ?_⟩
    have same : setCtx c ⟨g, .running r⟩ s = s := by
      obtain ⟨lt, there⟩ := List.getElem?_eq_some_iff.1 is
      simp [setCtx, ← there]
    have resumed : resumeStep c s = resolveStep c s := by simp [resumeStep, run, needs]
    rw [resumed]
    exact congrArg (resolveStep c) same.symm
  | true =>
    have free : 0 < freePlaces s := by
      obtain one | holds | none_ | free := entry
      · simp [Run.needsEntry, one] at needs
      · simp [Run.needsEntry, holds] at needs
      · simp [Run.needsEntry, none_] at needs
      · exact free
    refine ⟨true, ?_⟩
    rw [← setRun_eq is]
    simp [resumeStep, run, needs, free]

/-- Settles O42, by `endTransaction_eq`, `becomeHome_eq` and `resolveStep_begins`. -/
theorem answerLimitAndDeferralWait : Obligations.AnswerLimitAndDeferralWait := by
  intro s c r run
  obtain ⟨g, is⟩ := getCtx_of_getRun run
  refine ⟨fun phase other => ?_, fun b st gv phase offer hand ctx => ?_, fun o phase op few entry => ?_⟩
  · have ended := endTransaction_eq (o := .timedOut) (why := none) (v := .nothing) is (by decide)
    refine ⟨_, g, r.ended .timedOut none .nothing, exec_answerLimit run phase other, ?_⟩
    rw [ended]
    exact ⟨getCtx_setCtx_same is, rfl, rfl, rfl, rfl, rfl, rfl, rfl, rfl, rfl⟩
  · subst ctx
    have ended := endTransaction_eq (o := .timedOut) (why := none) (v := .nothing) is (by decide)
    have offered : endOffer .timedOut none s =
        becomeHome gv.b (setHand .idle (endTransaction gv.ctx .timedOut none .nothing s)) := by
      simp [endOffer, hand]
    obtain ⟨x, a, home, -⟩ := becomeHome_eq gv.b (setHand .idle (endTransaction gv.ctx .timedOut none .nothing s))
    have restarts := sweepRestarts_becomeHome gv.b (setHand .idle (endTransaction gv.ctx .timedOut none .nothing s))
    refine ⟨_, g, r.ended .timedOut none .nothing, exec_answerLimit_offer run phase offer, ?_⟩
    rw [offered]
    refine ⟨?_, rfl, ?_, ?_, ?_, ?_, ?_⟩
    · rw [home, ended]
      exact getCtx_setCtx_same is
    · rw [home]
      rfl
    · exact viewOf_becomeHome gv.b _
    · rw [ended] at restarts ⊢
      exact restarts.of_eq rfl rfl rfl rfl rfl rfl id
    · rw [home, ended]
      rfl
    · rw [home, ended]
      rfl
  · obtain ⟨held, resumed⟩ := resumeStep_eq is entry
    have there : getCtx c (setCtx c ⟨g, .running { r with comp := held }⟩ s) =
        some ⟨g, .running { r with comp := held }⟩ := getCtx_setCtx_same is
    obtain ⟨⟨⟨r', is', step, phase', tag, request⟩, store, queue, others⟩, taken⟩ := resolveStep_begins there op few
    refine ⟨_, r', exec_deferralWait run phase, ?_⟩
    rw [resumed]
    refine ⟨getRun_of_getCtx is', step, phase', tag, request, taken, store, queue, fun d other => ?_⟩
    exact (others d other).trans (getCtx_setCtx_other other.symm)

end Sys2Proof.Machine
end
section
/-! PROOFS. What a walk of the dispatch queue leaves as it was (R123, R124). -/

namespace Sys2Proof.Machine

variable {s t u : State} {id : Nat} {e : Entry}

/-! ## Entries by their name -/

theorem id_of_findEntry (found : findEntry id s = some e) : e.id = id := (mem_of_findEntry found).2

/-- A change of entries that keeps their names changes what is found under a name. -/
theorem findEntry_mapEntry {n : Nat} {f : Entry → Entry} (named : ∀ e, (f e).id = e.id) :
    findEntry id (mapEntry n f s) = (findEntry id s).map fun e => if e.id = n then f e else e := by
  have name : ∀ e : Entry, (if e.id = n then f e else e).id = e.id := fun e => by split <;> simp [named]
  simp only [findEntry, mapEntry, List.find?_map, Function.comp_def, name]

theorem findEntry_setEntryPhase {n : Nat} {p : EntryPhase} (found : findEntry id s = some e) :
    findEntry id (setEntryPhase n p s) = some (if e.id = n then { e with phase := p } else e) := by
  rw [setEntryPhase, findEntry_mapEntry (f := fun e => { e with phase := p }) fun _ => rfl, found]
  rfl

theorem findEntry_dropEntry_other {n : Nat} (other : id ≠ n) : findEntry id (dropEntry n s) = findEntry id s := by
  simp only [findEntry, dropEntry, List.find?_filter]
  congr 1
  funext e
  by_cases is : e.id = id
  · simp [is, other]
  · simp [is]

/-- The receiver takes units: the phase in which an ABANDON is taken (R172). -/
def State.takesUnits (s : State) : Prop := ∃ r, s.hand = .receiving r ∧ r.phase = .receiving

/-- An entry that a walk keeps: one whose application is asked, and one with retries left that does not name this station
(R124, R126). -/
def Entry.keptIn (s : State) (e : Entry) : Prop :=
  e.phase = .applying ∨ (e.failures < Config.failures ∧ ∀ b n, e.disp ≠ .abandon (stationNo s) b n)

/-- What a walk of the dispatch queue leaves as it was. -/
structure Walks (s t : State) : Prop where
  day : t.day = s.day
  ctxs : t.ctxs = s.ctxs
  store : t.store = s.store
  station : t.station = s.station
  conf : t.conf = s.conf
  asks : AsksOn s t
  sent : ∀ j ∈ s.line.sendq, j ∈ t.line.sendq
  handover : .handover ∈ s.line.waiters → .handover ∈ t.line.waiters
  entries : ∀ id e, findEntry id s = some e → e.keptIn s →
    ∃ e', findEntry id t = some e' ∧ e'.dir = e.dir ∧ e'.disp = e.disp ∧ e'.failures = e.failures ∧
      (e.phase = .applying → e'.phase = .applying)
  quiet : ¬ s.takesUnits → t.hand = s.hand ∧ t.map.views = s.map.views ∧ t.port = s.port

namespace Walks

theorem refl (s : State) : Walks s s :=
  ⟨rfl, rfl, rfl, rfl, rfl, .refl s, fun _ mem => mem, id, fun _ e found _ => ⟨e, found, rfl, rfl, rfl, id⟩,
    fun _ => ⟨rfl, rfl, rfl⟩⟩

theorem trans (h : Walks s t) (k : Walks t u) : Walks s u where
  day := k.day.trans h.day
  ctxs := k.ctxs.trans h.ctxs
  store := k.store.trans h.store
  station := k.station.trans h.station
  conf := k.conf.trans h.conf
  asks := h.asks.trans k.asks
  sent j mem := k.sent j (h.sent j mem)
  handover := k.handover ∘ h.handover
  entries id e found kept := by
    obtain ⟨e', found', dir, disp, failures, phase⟩ := h.entries id e found kept
    have kept' : e'.keptIn t := by
      refine kept.imp phase fun ⟨few, other⟩ => ⟨failures ▸ few, fun b n => ?_⟩
      rw [disp, stationNo, h.conf]
      exact other b n
    obtain ⟨e'', found'', dir', disp', failures', phase'⟩ := k.entries id e' found' kept'
    exact ⟨e'', found'', dir'.trans dir, disp'.trans disp, failures'.trans failures, phase' ∘ phase⟩
  quiet idle := by
    obtain ⟨hand, views, port⟩ := h.quiet idle
    have idle' : ¬ t.takesUnits := by rwa [State.takesUnits, hand]
    obtain ⟨hand', views', port'⟩ := k.quiet idle'
    exact ⟨hand'.trans hand, views'.trans views, port'.trans port⟩

theorem stationNo (h : Walks s t) : Machine.stationNo t = Machine.stationNo s :=
  congrArg (fun c : Configuration => c.stationNumber.getD 0) h.conf

/-- Changes of the line and the arbiter that let every frame, the handover engine's wait and all work stand. -/
theorem of_line {l : LineEngine} {a : Arbiter} (asks : AsksOn s { s with line := l, arb := a })
    (sent : ∀ j ∈ s.line.sendq, j ∈ l.sendq) (handover : .handover ∈ s.line.waiters → .handover ∈ l.waiters) :
    Walks s { s with line := l, arb := a } :=
  { refl s with asks := asks, sent := sent, handover := handover }

theorem pushFrame (f : Frame) (o : Owner) (s : State) : Walks s (pushFrame f o s) :=
  of_line (.of_arb rfl) (fun _ mem => List.mem_append_left _ mem) id

theorem stopWaiting {w : Waiter} (other : .handover ≠ w) (s : State) : Walks s (stopWaiting w s) :=
  of_line (.of_arb rfl) (fun _ mem => mem) (mem_stopWaiting other)

theorem waitForPlace (w : Waiter) (s : State) : Walks s (waitForPlace w s) := by
  unfold Machine.waitForPlace
  split
  · exact refl s
  · exact of_line (.of_arb rfl) (fun _ mem => mem) (fun waits => List.mem_append_left _ waits)

theorem placeOrWait (f : Frame) (o : Owner) {w : Waiter} (other : .handover ≠ w) (s : State) :
    Walks s (placeOrWait f o w s) := by
  unfold Machine.placeOrWait
  split
  · exact (pushFrame f o s).trans (stopWaiting other _)
  · exact waitForPlace w s

theorem askLine (w : LineWork) (s : State) : Walks s (askLine w s) :=
  of_line (AsksOn.askLine w s) (fun _ mem => mem) id

theorem askStreamOnce (w : StreamWork) (s : State) : Walks s (askStreamOnce w s) := by
  unfold Machine.askStreamOnce
  split
  · exact refl s
  · exact of_line (AsksOn.askStream w s) (fun _ mem => mem) id

/-- A change of the census table is none of the views. -/
theorem of_census (cs : List CensusPlace) (w : List (Block × Asker)) :
    Walks s { s with map := { s.map with census := cs, censusWait := w } } :=
  { refl s with quiet := fun _ => ⟨rfl, rfl, rfl⟩ }

theorem askCensus (b : Block) (x : Asker) (s : State) : Walks s (askCensus b x s) := by
  unfold Machine.askCensus
  repeat' split
  · exact of_census _ s.map.censusWait
  · exact (of_census _ s.map.censusWait).trans (placeOrWait _ _ (by simp) _)
  · exact of_census s.map.census _

/-- A phase is set of an entry whose application has not been asked. -/
theorem setEntryPhase {n : Nat} {p : EntryPhase} {d : Entry} (found : findEntry n s = some d) (phase : d.phase ≠ .applying) :
    Walks s (setEntryPhase n p s) :=
  { refl s with
    entries := fun id e is kept => by
      refine ⟨_, findEntry_setEntryPhase is, ?_⟩
      split
      · rename_i named
        refine ⟨rfl, rfl, rfl, fun applying => ?_⟩
        rw [id_of_findEntry is] at named
        subst named
        cases found.symm.trans is
        exact absurd applying phase
      · exact ⟨rfl, rfl, rfl, fun applying => applying⟩ }

/-- An entry leaves that the walk does not keep. -/
theorem dropEntry {n : Nat} {d : Entry} (found : findEntry n s = some d) (gone : ¬ d.keptIn s) : Walks s (dropEntry n s) :=
  { refl s with
    entries := fun id e is kept => by
      have other : id ≠ n := by
        rintro rfl
        cases found.symm.trans is
        exact gone kept
      exact ⟨e, by rw [findEntry_dropEntry_other other, is], rfl, rfl, rfl, fun applying => applying⟩ }

end Walks

/-! ## An ABANDON taken here (R172) -/

/-- Without a block being received an ABANDON is dropped, and with one the engine, the view and the notices change. -/
theorem walks_takeAbandon (b : Block) (serial src : Nat) (s : State) :
    Walks s (takeAbandon b serial src s) ∧ (takeAbandon b serial src s).queue = s.queue := by
  unfold takeAbandon
  split
  · rename_i r hand
    split
    · rename_i match_
      have taking : s.takesUnits := ⟨r, hand, match_.1⟩
      have viewed : Walks s (setView r.b (.foreign r.giver) (setHand .idle s)) :=
        { Walks.refl s with quiet := fun idle => absurd taking idle }
      have freed : Walks s (becomeForeign r.b r.giver (setHand .idle s)) ∧
          (becomeForeign r.b r.giver (setHand .idle s)).queue = s.queue := by
        unfold becomeForeign freeStranded
        split
        · exact ⟨viewed, rfl⟩
        · refine ⟨viewed.trans (.askStreamOnce _ _), ?_⟩
          unfold askStreamOnce
          split <;> rfl
      obtain ⟨p, posted⟩ := postNotice_eq (.handover r.b r.giver .discarded none r.units)
        (becomeForeign r.b r.giver (setHand .idle s))
      rw [discardBlock, posted]
      refine ⟨{ freed.1 with quiet := fun idle => absurd taking idle }, freed.2⟩
    · exact ⟨.refl s, rfl⟩
  · exact ⟨.refl s, rfl⟩

/-! ## The walk (R123, R124) -/

section Entry

variable {d : Entry}

theorem walks_sendEntry {st : Nat} (found : findEntry d.id s = some d) (phase : d.phase ≠ .applying) :
    Walks s (sendEntry d st s).1 := by
  unfold sendEntry
  repeat' split
  · exact .refl s
  · exact (Walks.pushFrame _ _ s).trans (.setEntryPhase (by exact found) phase)
  · exact .waitForPlace _ s

theorem walks_censusEntry (b : Block) (found : findEntry d.id s = some d) (phase : d.phase ≠ .applying) :
    Walks s (censusEntry d.id b s) :=
  (Walks.setEntryPhase found phase).trans (.askCensus _ _ _)

theorem walks_resolveEntry (found : findEntry d.id s = some d) (phase : d.phase ≠ .applying) :
    Walks s (resolveEntry d s).1 := by
  unfold resolveEntry
  split
  · split
    · exact (Walks.setEntryPhase found phase).trans (.askLine _ _)
    · exact walks_sendEntry found phase
    · exact walks_censusEntry _ found phase
    all_goals exact .setEntryPhase found phase
  · split
    · rename_i st b serial disp
      split
      · rename_i here
        obtain ⟨walks, queue⟩ := walks_takeAbandon b serial (stationNo s) s
        refine walks.trans (.dropEntry (d := d) (by rwa [findEntry, queue]) ?_)
        rintro (applying | ⟨-, other⟩)
        · exact phase applying
        · refine other b serial ?_
          rw [disp, here, walks.stationNo]
      · exact walks_sendEntry found phase
    · exact walks_sendEntry found phase
    · exact .refl s

theorem walks_takeEligible (found : findEntry d.id s = some d) (phase : d.phase ≠ .applying) :
    Walks s (takeEligible d s).1 := by
  unfold takeEligible
  split
  · exact walks_resolveEntry found phase
  · rename_i many
    unfold retireEntry
    split
    · exact walks_censusEntry _ found phase
    · refine .dropEntry found ?_
      rintro (applying | ⟨few, -⟩)
      · exact phase applying
      · exact many few

/-- An entry that the walk takes has not asked its application. -/
theorem phase_of_walked (walked : d.walked s = true) : d.phase ≠ .applying := by
  intro applying
  simp [Entry.walked, applying] at walked

end Entry

theorem walks_walkFrom (ids : List Nat) (keys : List OrderKey) (s : State) : Walks s (walkFrom ids keys s).1 := by
  induction ids generalizing keys s with
  | nil => exact .refl s
  | cons id rest ih =>
    unfold walkFrom
    split
    · exact ih keys s
    · rename_i d found
      split
      · exact ih keys s
      split
      · exact ih keys s
      split
      · rename_i walked
        have same := id_of_findEntry found
        have taken : Walks s (takeEligible d s).1 := walks_takeEligible (same ▸ found) (phase_of_walked walked)
        split
        · rename_i u stops
          rw [stops] at taken
          exact taken
        · rename_i u goes
          rw [goes] at taken
          split
          · exact taken.trans (ih _ u)
          · exact taken.trans (ih _ u)
      · exact ih _ s

/-- A walk leaves contexts, records, the day unit, the frames queued, the work that asks and the entries it keeps; and
engine, views and notices where no block is being received. -/
theorem walks_walk (s : State) : Walks s (walk s) := by
  unfold walk
  split
  · have walked := walks_walkFrom (s.queue.entries.map Entry.id) [] s
    split
    · rename_i u stops
      rw [stops] at walked
      exact walked
    · rename_i u goes
      rw [goes] at walked
      exact walked.trans (.stopWaiting (by simp) u)
  · exact .refl s

end Sys2Proof.Machine
end
section
/-! PROOFS. Freed places of the dispatch queue, and an application at its grant (R121, R128; O46). -/

namespace Sys2Proof.Machine

variable {s t u : State} {e : Entry} {b : Block} {E room : Nat}

/-! ## The applications that wait for their places (R121) -/

/-- The places are offered by asking the store for entries; contexts and the day unit stand. -/
theorem offerApplications_eq (l : List Entry) (room : Nat) (s : State) :
    ∃ q a, (offerApplications l room s).1 = { s with queue := q, arb := a } := by
  induction l generalizing room s with
  | nil => exact ⟨s.queue, s.arb, rfl⟩
  | cons e l ih =>
    unfold offerApplications
    split
    · obtain ⟨q, a, rest⟩ := ih (room - 2) (askLine (.entry e.id) (setEntryPhase e.id .applying s))
      exact ⟨q, a, rest⟩
    · exact ih room s

/-- With no application waiting the places are all left. -/
theorem offerApplications_none {l : List Entry} (none_ : ∀ e ∈ l, e.phase ≠ .awaitRoom) :
    offerApplications l room s = (s, room) := by
  induction l with
  | nil => rfl
  | cons e l ih =>
    rw [offerApplications, if_neg fun waits => none_ e List.mem_cons_self waits.1]
    exact ih fun x mem => none_ x (List.mem_cons_of_mem e mem)

/-- An entry whose application is asked keeps it asked while the others are offered places. -/
theorem findEntry_offerApplications {l : List Entry} {id : Nat} {e : Entry} (other : ∀ x ∈ l, x.id ≠ id)
    (found : findEntry id s = some e) : findEntry id (offerApplications l room s).1 = some e := by
  induction l generalizing room s with
  | nil => exact found
  | cons x l ih =>
    have rest : ∀ y ∈ l, y.id ≠ id := fun y mem => other y (List.mem_cons_of_mem x mem)
    unfold offerApplications
    split
    · refine ih rest ?_
      have named : e.id ≠ x.id := by
        rw [id_of_findEntry found]
        exact (other x List.mem_cons_self).symm
      have kept : findEntry id (setEntryPhase x.id .applying s) = some e := by
        rw [findEntry_setEntryPhase found, if_neg named]
      exact kept
    · exact ih rest found

/-- The oldest application that waits is asked first (R121). -/
theorem applying_offerApplications {l : List Entry} (names : (l.map Entry.id).Nodup) (enough : 2 ≤ room)
    (oldest : l.find? (fun e => e.phase == .awaitRoom) = some e) (found : findEntry e.id s = some e) :
    findEntry e.id (offerApplications l room s).1 = some { e with phase := .applying } := by
  induction l with
  | nil => cases oldest
  | cons x l ih =>
    obtain ⟨fresh, names⟩ := List.nodup_cons.1 names
    by_cases waits : x.phase = .awaitRoom
    · rw [List.find?_cons_of_pos (by simpa using waits)] at oldest
      obtain rfl := Option.some.inj oldest
      rw [offerApplications, if_pos ⟨waits, enough⟩]
      refine findEntry_offerApplications (fun y mem same => fresh (List.mem_map.2 ⟨y, mem, same⟩)) ?_
      have set_ : findEntry x.id (setEntryPhase x.id .applying s) = some { x with phase := .applying } := by
        rw [findEntry_setEntryPhase found, if_pos rfl]
      exact set_
    · rw [List.find?_cons_of_neg (by simpa using waits)] at oldest
      rw [offerApplications, if_neg fun both => waits both.1]
      exact ih names oldest

/-! ## The sweep and the late ANS (R115, R121) -/

theorem offerSweep_eq (room : Nat) (s : State) : ∃ d a, offerSweep room s = { s with day := d, arb := a } := by
  unfold offerSweep askSweep
  repeat' split
  all_goals exact ⟨_, _, rfl⟩

theorem offerSweep_runs (paused : s.day.sweep = .paused) (enough : 3 ≤ room) :
    (offerSweep room s).day.sweep = .running := by
  unfold offerSweep askSweep
  rw [if_pos ⟨paused, enough⟩]
  split <;> rfl

theorem getSlot_of_processingSlot {p : Frame → Bool} {k age : Nat} {f : Frame}
    (found : processingSlot p s = some (k, age, f)) : ∃ kept, getSlot k s = .processing age f kept := by
  obtain ⟨j, -, here⟩ := List.exists_of_findSome?_eq_some found
  split at here
  · rename_i a g kept slot
    split at here
    · cases here
      exact ⟨kept, slot⟩
    · cases here
  · cases here

/-- What a late ANS that is taken again leaves: contexts, the day unit, and every entry found by its name. -/
structure LateTaken (s t : State) : Prop where
  ctxs : t.ctxs = s.ctxs
  day : t.day = s.day
  entries : ∀ id e, findEntry id s = some e → findEntry id t = some e

theorem findEntry_enqueue {id : Nat} {d : Dispatch} (found : findEntry id s = some e) :
    findEntry id (enqueue d s) = some e := by
  unfold findEntry at found
  simp [findEntry, enqueue, found]

theorem lateTaken_freeSlot {k : Nat} {n : Notice} (entries : ∀ id e, findEntry id s = some e → findEntry id u = some e)
    (ctxs : u.ctxs = s.ctxs) (day : u.day = s.day) (busy : getSlot k u ≠ .free) :
    LateTaken s (freeSlot k (postNotice n u)) := by
  obtain ⟨p, posted⟩ := postNotice_eq n u
  have busy' : getSlot k (postNotice n u) ≠ .free := by
    rw [posted]
    exact busy
  obtain ⟨l, a, freed, -⟩ := freeSlot_eq busy'
  rw [freed, posted]
  exact ⟨ctxs, day, entries⟩

theorem lateTaken_retryLate (room : Nat) (s : State) : LateTaken s (retryLate room s) := by
  unfold retryLate
  split
  · rename_i k age f waits
    obtain ⟨kept, slot⟩ := getSlot_of_processingSlot waits
    have busy : getSlot k s ≠ .free := by simp [slot]
    split
    · unfold takeLate
      repeat' split
      · exact lateTaken_freeSlot (fun _ _ found => found) rfl rfl busy
      · exact ⟨rfl, rfl, fun _ _ found => found⟩
      · exact lateTaken_freeSlot (fun _ _ => findEntry_enqueue) rfl rfl busy
    · exact ⟨rfl, rfl, fun _ _ found => found⟩
  · exact ⟨rfl, rfl, fun _ _ found => found⟩

theorem findEntry_of_nodup (names : (s.queue.entries.map Entry.id).Nodup) (mem : e ∈ s.queue.entries) :
    findEntry e.id s = some e := by
  cases found : findEntry e.id s with
  | none => exact absurd (beq_iff_eq.2 rfl) (List.find?_eq_none.1 found e mem)
  | some x => rw [List.inj_on_of_nodup_map names (List.mem_of_find?_eq_some found) mem (id_of_findEntry found)]

/-- What a late ANS and the walk leave of what was offered: contexts, the day unit, and every application asked. -/
theorem kept_afterLate (room : Nat) (s : State) : (walk (retryLate room s)).ctxs = s.ctxs ∧
    (walk (retryLate room s)).day = s.day ∧
    ∀ id e, findEntry id s = some e → e.phase = .applying →
      ∃ e', findEntry id (walk (retryLate room s)) = some e' ∧ e'.disp = e.disp ∧ e'.phase = .applying := by
  have late := lateTaken_retryLate room s
  have walks := walks_walk (retryLate room s)
  refine ⟨walks.ctxs.trans late.ctxs, walks.day.trans late.day, fun id e found phase => ?_⟩
  obtain ⟨e', found', -, disp, -, applying⟩ := walks.entries id e (late.entries id e found) (.inl phase)
  exact ⟨e', found', disp, applying phase⟩

/-- Freed places are offered to the applications, to the sweep and to a late ANS, and the queue is walked (R121). -/
theorem dispatchPlacesFreed_eq (s : State) : ∃ u room, dispatchPlacesFreed s = walk (retryLate room u) ∧
    u.ctxs = s.ctxs ∧ u.queue = (offerApplications s.queue.entries (freePlaces s) s).1.queue ∧
    u.day = (offerSweep (offerApplications s.queue.entries (freePlaces s) s).2
      (offerApplications s.queue.entries (freePlaces s) s).1).day := by
  obtain ⟨q, a, offered⟩ := offerApplications_eq s.queue.entries (freePlaces s) s
  obtain ⟨d, a', swept⟩ := offerSweep_eq (offerApplications s.queue.entries (freePlaces s) s).2
    (offerApplications s.queue.entries (freePlaces s) s).1
  refine ⟨_, _, rfl, ?_, ?_, rfl⟩
  · rw [swept, offered]
  · rw [swept]

/-! ## An application at its grant (R128) -/

/-- With the block viewed HOME and fewer than 2 places free the entry waits for them. -/
theorem applyEntry_awaitsRoom (found : findEntry e.id s = some e) (out : e.dir = .outbound) (block : e.disp.block = some b)
    (home : viewOf b s = .home) (full : freePlaces s < 2) : applyEntry e.id E s = setEntryPhase e.id .awaitRoom s := by
  simp [applyEntry, found, out, block, home, full]

/-- With another view the entry is QUEUED again, and the queue is walked. -/
theorem applyEntry_requeues (found : findEntry e.id s = some e) (out : e.dir = .outbound) (block : e.disp.block = some b)
    (other : viewOf b s ≠ .home) : applyEntry e.id E s = walk (setEntryPhase e.id .queued s) := by
  simp [applyEntry, found, out, block, other]

/-- Settles O46, by the order in which places are offered and the cases of an application. -/
theorem dispatchPlacesAreGivenInOrder : Obligations.DispatchPlacesAreGivenInOrder := by
  refine ⟨fun s names => ?_, fun s i e E b held out block row => ?_⟩
  · refine ⟨_, rfl, (Accords.refl s).dispatchPlacesFreed.store, ?_⟩
    obtain ⟨u, room, freed, ctxs, queue, day⟩ := dispatchPlacesFreed_eq s
    obtain ⟨ctxs', day', applying⟩ := kept_afterLate room u
    rw [freed]
    refine ⟨ctxs'.trans ctxs, fun e oldest enough => ?_, fun none_ paused enough => ?_⟩
    · have mem := List.mem_of_find?_eq_some oldest
      have asked := applying_offerApplications names enough oldest (findEntry_of_nodup names mem)
      obtain ⟨e', found, disp, phase⟩ := applying _ _ (by rwa [findEntry, queue]) rfl
      obtain ⟨mem', named⟩ := mem_of_findEntry found
      exact ⟨e', mem', named, disp, phase⟩
    · change (walk (retryLate room u)).day.sweep = .running
      rw [day', day, offerApplications_none none_]
      exact offerSweep_runs paused enough
  · obtain ⟨-, found⟩ := findEntry_of_heldEntry held
    rw [exec_of_heldEntry held row, entryGrant]
    refine ⟨fun home full => ?_, fun other => ?_⟩
    · rw [applyEntry_awaitsRoom found out block home full]
    · rw [applyEntry_requeues found out block other]

end Sys2Proof.Machine
end
section
/-! PROOFS. The ends of a handover at the giver: the block announced as given, or HOME again (R157, R165, R166). -/

namespace Sys2Proof.Machine

variable {s t : State} {g : Giving} {k : Nat} {b : Block}

/-- A notice is posted where fewer than 32 wait (R192). -/
theorem postNotice_posts (n : Notice) (s : State) : ∃ p, postNotice n s = { s with port := p } ∧
    (s.port.notices.length < 32 → p.notices = s.port.notices ++ [n]) := by
  unfold postNotice
  split
  · exact ⟨_, rfl, fun _ => rfl⟩
  · rename_i full
    exact ⟨_, rfl, fun room => absurd room full⟩

/-- Recording an announcement and placing its frame changes line and announcements (R157). -/
theorem announce_eq (b : Block) (st : Nat) (s : State) : ∃ l, announce b st s = { s with
    line := l
    map := { s.map with moved := s.map.moved ++ [⟨s.map.nextMoved, b, st, false⟩], nextMoved := s.map.nextMoved + 1 } } ∧
      l.slots = s.line.slots := by
  obtain ⟨l, placed, slots, -⟩ := placeOrWait_eq ⟨stationNo s, .all, .moved b st⟩
    (.announcement s.map.nextMoved b st) (.announcement s.map.nextMoved b st) (keepAnnouncement b st s)
  exact ⟨l, placed, slots⟩

theorem askStreamOnce_eq (w : StreamWork) (s : State) : ∃ a, askStreamOnce w s = { s with arb := a } := by
  unfold askStreamOnce
  split <;> exact ⟨_, rfl⟩

/-- The records of a block are those of the store. -/
theorem recordsOf_of_store (store : t.store = s.store) : recordsOf b t = recordsOf b s := by
  unfold recordsOf
  rw [store]

/-- The given block is FOREIGN of its receiver, announced, and its records are freed (R165). -/
structure Completed (g : Giving) (s t : State) : Prop where
  view : viewOf g.b t = .foreign g.receiver
  moved : t.map.moved = s.map.moved ++ [⟨s.map.nextMoved, g.b, g.receiver, false⟩]
  store : t.store = s.store
  ctxs : t.ctxs = s.ctxs
  queue : t.queue = s.queue
  slots : t.line.slots = s.line.slots
  notices : s.port.notices.length < 32 → t.port.notices = s.port.notices ++ [.handover g.b g.receiver .done none g.units]
  empty : recordsOf g.b s = [] → t.hand = .idle
  frees : recordsOf g.b s ≠ [] → t.hand = .giving { g with phase := .freeing } ∧ t.arb.Asks (.stream (.free g.b))

/-- The giver once its block is announced, before its records are freed. -/
def announced (g : Giving) (s : State) : State :=
  stopWaiting .handover (postNotice (.handover g.b g.receiver .done none g.units) (announce g.b g.receiver
    (setView g.b (.foreign g.receiver) (setHand (.giving { g with phase := .freeing }) s))))

theorem announced_eq (g : Giving) (s : State) : ∃ l p, announced g s = { s with
    line := l
    port := p
    hand := .giving { g with phase := .freeing }
    map := { s.map with
      views := putView s.map.views g.b.key (.foreign g.receiver)
      moved := s.map.moved ++ [⟨s.map.nextMoved, g.b, g.receiver, false⟩]
      nextMoved := s.map.nextMoved + 1 } } ∧ l.slots = s.line.slots ∧
    (s.port.notices.length < 32 → p.notices = s.port.notices ++ [.handover g.b g.receiver .done none g.units]) := by
  obtain ⟨l, placed, slots⟩ := announce_eq g.b g.receiver
    (setView g.b (.foreign g.receiver) (setHand (.giving { g with phase := .freeing }) s))
  obtain ⟨p, posted, notices⟩ := postNotice_posts (.handover g.b g.receiver .done none g.units) (announce g.b g.receiver
    (setView g.b (.foreign g.receiver) (setHand (.giving { g with phase := .freeing }) s)))
  rw [announced, posted]
  rw [placed] at notices ⊢
  exact ⟨_, p, rfl, slots, notices⟩

theorem completeHandover_eq (g : Giving) (s : State) : completeHandover g s =
    if (recordsOf g.b (announced g s)).isEmpty then setHand .idle (announced g s)
    else askStreamOnce (.free g.b) (announced g s) := rfl

theorem viewOf_of_putView {v : View} (views : t.map.views = putView s.map.views b.key v) :
    viewOf b t = v := by
  have same := viewOf_setView_same b v s
  unfold viewOf at same ⊢
  rw [views]
  exact same

theorem completed_completeHandover (g : Giving) (s : State) : Completed g s (completeHandover g s) := by
  obtain ⟨l, p, is, slots, notices⟩ := announced_eq g s
  have records : recordsOf g.b (announced g s) = recordsOf g.b s := recordsOf_of_store (by rw [is])
  rw [completeHandover_eq, records]
  by_cases empty : recordsOf g.b s = []
  · rw [empty, List.isEmpty_nil, if_pos rfl, is]
    exact ⟨viewOf_of_putView (s := s) rfl, rfl, rfl, rfl, rfl, slots, notices, fun _ => rfl,
      fun some_ => absurd empty some_⟩
  · rw [if_neg (by simpa using empty)]
    have asks := asks_askStreamOnce (.free g.b) (announced g s)
    obtain ⟨a, asked⟩ := askStreamOnce_eq (.free g.b) (announced g s)
    rw [asked, is] at asks ⊢
    exact ⟨viewOf_of_putView (s := s) rfl, rfl, rfl, rfl, rfl, slots, notices, fun none_ => absurd none_ empty,
      fun _ => ⟨rfl, asks⟩⟩

/-- A failed handover leaves the block HOME, the engine idle, and an ABANDON queued unless the receiver answered NOT_HOME
(R166). -/
structure Failed (g : Giving) (why : Reason) (s t : State) : Prop where
  view : viewOf g.b t = .home
  hand : t.hand = .idle
  sweep : s.sweepRestarts t
  store : t.store = s.store
  ctxs : t.ctxs = s.ctxs
  slots : t.line.slots = s.line.slots
  queue : t.queue = (if why = .notHome then s else enqueue (.abandon g.receiver g.b g.serial) s).queue
  notices : s.port.notices.length < 32 →
    t.port.notices = s.port.notices ++ [.handover g.b g.receiver .failed (some why) g.units]
  conf : t.conf = s.conf

theorem failed_failHandover (g : Giving) (why : Reason) (s : State) : Failed g why s (failHandover g why s) := by
  obtain ⟨x, a, home, -⟩ := becomeHome_eq g.b (setHand .idle s)
  have restarts := sweepRestarts_becomeHome g.b (setHand .idle s)
  have queued : ∃ q, (if why = .notHome then becomeHome g.b (setHand .idle s)
      else enqueue (.abandon g.receiver g.b g.serial) (becomeHome g.b (setHand .idle s))) =
        { becomeHome g.b (setHand .idle s) with queue := q } ∧
      q = (if why = .notHome then s else enqueue (.abandon g.receiver g.b g.serial) s).queue := by
    rw [home]
    split <;> exact ⟨_, rfl, rfl⟩
  obtain ⟨q, queued, is⟩ := queued
  obtain ⟨p, posted, notices⟩ := postNotice_posts (.handover g.b g.receiver .failed (some why) g.units)
    { becomeHome g.b (setHand .idle s) with queue := q }
  unfold failHandover
  dsimp only
  rw [queued, posted]
  refine ⟨viewOf_becomeHome g.b (setHand .idle s), ?_, restarts.of_eq rfl rfl rfl rfl rfl rfl id, ?_, ?_, ?_, is,
    fun room => ?notices, ?_⟩
  case notices =>
    rw [home] at notices
    exact notices room
  all_goals
    rw [home]
    rfl

end Sys2Proof.Machine
end
section
/-! PROOFS. The decision of a handover and the ends of a BLOCK_QUERY (R164 to R166; O57). -/

namespace Sys2Proof.Machine

variable {s t : State} {g : Giving} {k serial : Nat} {b : Block} {o : OutcomeCode}

/-! ## The decision -/

theorem exec_lastDecision {age : Nat} {f : Frame} {a : Ans} (head : headSlot s = some (k, age, f)) (body : f.body = .ans a)
    (op : a.op = .lastDecision ∨ a.op = .blockQuery) (answer : a.answer = .exchange o b serial) :
    exec .lastDecision s = .next (refreshAttention (freeSlot k (takeDecision o b serial s))) := by
  have exchange : a.isExchange = true := by
    rcases op with op | op <;> simp [Ans.isExchange, op]
  show execLastDecision s = _
  simp [execLastDecision, head, body, exchange, takeExchange, answer, finish]

/-- What the decision that the giver waits for does, by its outcome (R164). -/
def Giving.decided (g : Giving) (o : OutcomeCode) (s : State) : State :=
  match o with
  | .home => completeHandover g s
  | .badCount => failHandover g .badCount s
  | .notHome => failHandover g .notHome s
  | _ => s

theorem takeDecision_matched (hand : s.hand = .giving g) (waits : g.phase.waitsForDecision = true) :
    takeDecision o g.b g.serial s = g.decided o s := by
  simp only [takeDecision, hand, waits, and_self, if_true]
  cases o <;> rfl

/-- A decision of another block or serial, or one that is not awaited, changes nothing (R164). -/
theorem takeDecision_other (hand : s.hand = .giving g)
    (other : ¬ (g.phase.waitsForDecision = true ∧ g.b = b ∧ g.serial = serial)) : takeDecision o b serial s = s := by
  simp only [takeDecision, hand, other, if_false]

/-- A decision changes no record, no context and no slot. -/
theorem takeDecision_stands (hand : s.hand = .giving g) : (takeDecision o b serial s).store = s.store ∧
    (takeDecision o b serial s).ctxs = s.ctxs ∧ (takeDecision o b serial s).line.slots = s.line.slots := by
  by_cases matched : g.phase.waitsForDecision = true ∧ g.b = b ∧ g.serial = serial
  · obtain ⟨waits, rfl, rfl⟩ := matched
    rw [takeDecision_matched hand waits]
    unfold Giving.decided
    split
    · have done := completed_completeHandover g s
      exact ⟨done.store, done.ctxs, done.slots⟩
    · have failed := failed_failHandover g .badCount s
      exact ⟨failed.store, failed.ctxs, failed.slots⟩
    · have failed := failed_failHandover g .notHome s
      exact ⟨failed.store, failed.ctxs, failed.slots⟩
    · exact ⟨rfl, rfl, rfl⟩
  · rw [takeDecision_other hand matched]
    exact ⟨rfl, rfl, rfl⟩

/-! ## The BLOCK_QUERY (R164) -/

/-- A query that ends leaves the engine in the state of its end. -/
theorem queryEnded_eq {q : QueryState} (hand : s.hand = .giving g) (phase : g.phase = .querying .sending) :
    queryEnded g.b g.serial q s = setHand (.giving { g with phase := .querying q }) s := by
  simp [queryEnded, hand, phase]

/-- A giver takes no units, so a walk of the dispatch queue leaves it as it is. -/
theorem not_takesUnits_of_giving (hand : s.hand = .giving g) : ¬ s.takesUnits := by
  rintro ⟨r, receives, -⟩
  cases hand.symm.trans receives

/-- The end of a query's frame: engine, views and records once the queue is walked. -/
theorem queryEnded_walked {q : QueryState} {u : State} (hand : u.hand = .giving g) (phase : g.phase = .querying .sending)
    (views : u.map.views = s.map.views) (store : u.store = s.store) :
    (walk (queryEnded g.b g.serial q u)).hand = .giving { g with phase := .querying q } ∧
      (walk (queryEnded g.b g.serial q u)).map.views = s.map.views ∧
      (walk (queryEnded g.b g.serial q u)).store = s.store := by
  rw [queryEnded_eq hand phase]
  have walks := walks_walk (setHand (.giving { g with phase := .querying q }) u)
  obtain ⟨stays, views', -⟩ := walks.quiet (not_takesUnits_of_giving rfl)
  exact ⟨stays, views'.trans views, walks.store.trans store⟩

/-- A BLOCK_QUERY is sent: it is queued, or the engine waits for a place (R164, R133). -/
theorem sendQuery_eq (g : Giving) (s : State) : ∃ l, sendQuery g s =
    { s with hand := .giving { g with phase := .querying .sending }, line := l } ∧
      ((∃ j ∈ l.sendq, j.owner = .handover ∧ j.frame.dest = .station g.receiver ∧
          j.frame.body = .req ⟨255, 0, 0⟩ (.blockQuery g.b g.serial)) ∨ .handover ∈ l.waiters) := by
  obtain ⟨l, placed, -, -, -, ⟨j, sendq, frame, owner⟩ | ⟨-, waits⟩⟩ := placeOrWait_eq
    ⟨stationNo s, .station g.receiver, .req exchangeRef (.blockQuery g.b g.serial)⟩ .handover .handover
    (setHand (.giving { g with phase := .querying .sending }) s)
  · refine ⟨l, placed, .inl ⟨j, ?_, owner, by rw [frame], by rw [frame]; rfl⟩⟩
    rw [sendq]
    exact List.mem_append_right _ (List.mem_singleton.2 rfl)
  · exact ⟨l, placed, .inr waits⟩

theorem exec_queryLimit {i : Instr} (hand : s.hand = .giving g)
    (limit : (i = .decisionLimit ∧ (g.phase = .deciding ∨ g.phase = .querying .awaiting)) ∨
      (i = .blockQueryRetry ∧ g.phase = .querying .retryWait)) :
    exec i s = .next (refreshAttention (sendQuery g s)) := by
  obtain ⟨rfl, phase⟩ | ⟨rfl, phase⟩ := limit
  · show execDecisionLimit s = _
    rcases phase with phase | phase <;> simp [execDecisionLimit, hand, phase, finish]
  · show execBlockQueryRetry s = _
    simp [execBlockQueryRetry, hand, phase, finish]

/-- Settles O57, by `completed_completeHandover` and `failed_failHandover`, and the ends of the query's frame. -/
theorem decisionEndsTheHandover : Obligations.DecisionEndsTheHandover := by
  intro s g hand
  refine ⟨fun i q phase sends free owner body => ⟨fun turn => ?_, fun res last turn => ?_⟩,
    fun k age f a o b serial head body op answer => ?_, fun i limit => ?_⟩
  · refine ⟨_, exec_frameDelivered sends turn free, ?_⟩
    have reported : frameDelivered i s = walk (queryEnded g.b g.serial .awaiting (endTurn (dropSend i.id s))) := by
      rw [frameDelivered_other (by simp [body])]
      simp [reportDelivered, owner, handoverDelivered, body]
    rw [reported]
    exact queryEnded_walked hand phase rfl rfl
  · refine ⟨_, exec_frameUndelivered sends free (by simp [body]) turn, ?_⟩
    have start : ∃ l, endTurn (if res = .cleared then withdrawClear s else s) = { s with line := l } := by
      split <;> exact ⟨_, rfl⟩
    obtain ⟨l, start⟩ := start
    have reported : frameUndelivered i res s =
        walk (queryEnded g.b g.serial .retryWait (dropSend i.id { s with line := l })) := by
      rw [frameUndelivered_other (by simp [body]), attemptFailed_returns last, start, reportAttempt_other (by simp [owner])]
      simp [returnFrame, owner, handoverReturned, body]
    rw [reported]
    exact queryEnded_walked hand phase rfl rfl
  · obtain ⟨store, ctxs, slots⟩ := takeDecision_stands (o := o) (b := b) (serial := serial) hand
    have busy : getSlot k (takeDecision o b serial s) ≠ .free := by
      have before := busy_of_headSlot head
      rwa [getSlot, slots]
    obtain ⟨l, x, freed, -⟩ := freeSlot_eq busy
    have asks := AsksOn.freeSlot k (takeDecision o b serial s)
    refine ⟨_, exec_lastDecision head body op answer, ?_⟩
    rw [freed] at asks ⊢
    refine ⟨store, ctxs, fun phase block number => ?_, fun other => ?_⟩
    · subst block number
      have waits : g.phase.waitsForDecision = true := by
        rcases phase with phase | ⟨q, phase⟩ <;> rw [phase] <;> rfl
      rw [takeDecision_matched hand waits] at asks ⊢
      refine ⟨?home, ?badCount, ?notHome, ?deferred⟩
      case home =>
        rintro rfl
        have done := completed_completeHandover g s
        refine ⟨done.view, done.queue, done.empty, fun some_ => ?_, done.notices, done.moved⟩
        obtain ⟨frees, asked⟩ := done.frees some_
        exact ⟨frees, Arbiter.asks_stream.1 (asks _ asked)⟩
      case badCount =>
        rintro rfl
        have failed := failed_failHandover g .badCount s
        exact ⟨failed.view, failed.hand, failed.sweep.later rfl asks, failed.queue, failed.notices⟩
      case notHome =>
        rintro rfl
        have failed := failed_failHandover g .notHome s
        exact ⟨failed.view, failed.hand, failed.sweep.later rfl asks, failed.queue, failed.notices⟩
      case deferred =>
        rintro rfl
        exact ⟨rfl, rfl, rfl⟩
    · have unmatched : ¬ (g.phase.waitsForDecision = true ∧ g.b = b ∧ g.serial = serial) := by
        rintro ⟨-, rfl, rfl⟩
        rcases other with other | other <;> exact other rfl
      rw [takeDecision_other hand unmatched]
      exact ⟨rfl, rfl, rfl⟩
  · obtain ⟨l, sent, queued⟩ := sendQuery_eq g s
    refine ⟨_, exec_queryLimit hand limit, ?_⟩
    rw [sent]
    exact ⟨rfl, rfl, rfl, rfl, queued⟩

end Sys2Proof.Machine
end
section
/-! PROOFS. The freeze of a drained block and the drain limit (R160, R161). -/

namespace Sys2Proof.Machine

variable {s t : State} {g : Giving} {c gen E : Nat} {r : Run} {o : OutcomeCode} {why : Option Reason} {v : Values}

/-- A context that is ANSWERED joins the answer order (R191). -/
def answeredCtx (c gen : Nat) (x : Answer) (s : State) : State :=
  { setCtx c ⟨gen, .answered x⟩ s with port := { s.port with answers := s.port.answers ++ [c] } }

/-- A transaction whose request has no compensation ends without one (R113). -/
theorem endTransaction_uncompensated (is : getCtx c s = some ⟨gen, .running r⟩) (none_ : r.request.compensation = none) :
    endTransaction c o why v s = answeredCtx c gen (r.ended o why v) s := by
  simp [endTransaction, is, none_, Run.ended, answeredCtx]

/-! ## The OFFER -/

/-- The OFFER is queued under its context, or the context waits for a send place (R161, R133). -/
theorem sendOffer_eq (is : getCtx g.ctx s = some ⟨gen, .running r⟩) : ∃ l, sendOffer g s =
    { setCtx g.ctx ⟨gen, .running { r with phase := .sending, attempts := 0 }⟩ s with line := l } ∧
      ((∃ j ∈ l.sendq, j.frame.dest = .station g.receiver ∧
          j.frame.body = .req (ctxRef g.ctx r s) (.offer g.b g.serial g.counts)) ∨
        .context g.ctx g.receiver ∈ l.waiters) := by
  have sent : sendOffer g s = placeOrWait
      ⟨stationNo s, .station g.receiver, .req (ctxRef g.ctx r s) (.offer g.b g.serial g.counts)⟩ (.context g.ctx)
      (.context g.ctx g.receiver) (setCtx g.ctx ⟨gen, .running { r with phase := .sending, attempts := 0 }⟩ s) := by
    rw [sendOffer, getRun_of_getCtx is, ← setRun_eq is]
  obtain ⟨l, placed, -, -, -, ⟨j, sendq, frame, -⟩ | ⟨-, waits⟩⟩ := placeOrWait_eq
    ⟨stationNo s, .station g.receiver, .req (ctxRef g.ctx r s) (.offer g.b g.serial g.counts)⟩ (.context g.ctx)
    (.context g.ctx g.receiver) (setCtx g.ctx ⟨gen, .running { r with phase := .sending, attempts := 0 }⟩ s)
  · refine ⟨l, sent.trans placed, .inl ⟨j, ?_, by rw [frame], by rw [frame]⟩⟩
    rw [sendq]
    exact List.mem_append_right _ (List.mem_singleton.2 rfl)
  · exact ⟨l, sent.trans placed, .inr waits⟩

/-! ## The freeze -/

/-- The giver that offers its block (R161). -/
def Giving.offers (g : Giving) (s : State) : Giving :=
  { g with phase := .offering, serial := (s.map.serial + 1) % 256, counts := countBlock g.b s }

theorem exec_handoverFreeze (held : s.arb.held = some ⟨.stream .freeze, E⟩) :
    exec .handoverFreeze s = .next (refreshAttention (endGrant (freeze s))) := by
  show execHandoverFreeze s = _
  simp [execHandoverFreeze, heldStream, held, finish]

theorem freeze_eq {limit : Bool} (hand : s.hand = .giving g) (phase : g.phase = .draining limit)
    (taken : takenFor g.b s = false) :
    freeze s = sendOffer (g.offers s) (setHand (.giving (g.offers s)) (freezeBlock g.b g.receiver s)) := by
  simp only [freeze, hand, phase, taken]
  rfl

theorem freeze_delayed {limit : Bool} (hand : s.hand = .giving g) (phase : g.phase = .draining limit)
    (taken : takenFor g.b s = true) : freeze s = s := by
  simp only [freeze, hand, phase, taken, if_true]

/-- The copies and holds that an OFFER counts are those of its titles but those quarantined (log entry 32). -/
theorem countBlock_eq (b : Block) (s : State) :
    let titles := s.store.titles.filter fun p =>
      decide (b.space = .title) && p.1 / 65536 == b.num && !p.2.quarantined
    (countBlock b s).copies = (titles.map fun p => p.2.copies.length).sum ∧
      (countBlock b s).holds = (titles.map fun p => p.2.holds.length).sum := by
  by_cases title : b.space = .title
  · simp [countBlock, title, blockSize]
  · simp [countBlock, title]

/-! ## The drain limit -/

theorem exec_drainLimit (hand : s.hand = .giving g) (phase : g.phase = .draining true) :
    exec .drainLimit s = .next (refreshAttention (drainEnds g s)) := by
  show execDrainLimit s = _
  simp [execDrainLimit, hand, phase, finish]

/-- The freeze of a handover that has ended asks no more, and a grant it holds ends (log entry 52). -/
theorem withdrawFreeze_eq (s : State) : ∃ a, withdrawFreeze s = { s with arb := a } ∧
    (let left : Arbiter := { s.arb with stream := s.arb.stream.filter fun w => w != .freeze }
     ((∀ E, s.arb.held ≠ some ⟨.stream .freeze, E⟩) → a = left) ∧
       ∀ E, s.arb.held = some ⟨.stream .freeze, E⟩ → a = Arbiter.arbitrate { left with held := none } s.day.county) := by
  unfold withdrawFreeze
  dsimp only
  split
  · rename_i E held
    exact ⟨_, rfl, fun other => absurd held (other E), fun _ _ => rfl⟩
  · rename_i other
    exact ⟨_, rfl, fun _ => rfl, fun E held => absurd held (other E)⟩

theorem drainEnds_refused (inbound : inboundFor g.b s = true) (is : getCtx g.ctx s = some ⟨gen, .running r⟩)
    (none_ : r.request.compensation = none) : drainEnds g s = withdrawFreeze (setHand .idle
      (answeredCtx g.ctx gen (r.ended .refused (some .notQuiet) (.refusedBy (stationNo s))) s)) := by
  rw [drainEnds, if_pos inbound, endTransaction_uncompensated is none_]

theorem drainEnds_waits (none_ : inboundFor g.b s = false) :
    drainEnds g s = setHand (.giving { g with phase := .draining false }) s := by
  rw [drainEnds, none_]
  rfl

end Sys2Proof.Machine
end
section
/-! PROOFS. The ends of an OFFER (R161), and the stream that begins (R162). -/

namespace Sys2Proof.Machine

variable {s t u : State} {g : Giving} {gen E k : Nat} {r : Run} {o : OutcomeCode} {why : Option Reason} {b : Block}

/-! ## The stream -/

theorem mem_recordsOf {n : Nat} (mem : n ∈ recordsOf b s) : b.num * blockSize ≤ n := by
  have block : n / blockSize = b.num := by
    unfold recordsOf at mem
    split at mem <;> exact beq_iff_eq.1 (List.mem_filter.1 mem).2
  rw [← block]
  exact Nat.div_mul_le_self n blockSize

/-- From the first number of a block the next record is there as long as the block has one. -/
theorem nextInBlock_first (b : Block) (s : State) : nextInBlock b (b.num * blockSize) s = (recordsOf b s).head? := by
  unfold nextInBlock
  cases records : recordsOf b s with
  | nil => rfl
  | cons n l =>
    have first : b.num * blockSize ≤ n := mem_recordsOf (s := s) (by rw [records]; exact List.mem_cons_self)
    simp [first]

theorem streamOn_reads (hand : s.hand = .giving g) (phase : g.phase = .streaming) (ready : g.ready = [])
    (more : nextInBlock g.b g.cursor s ≠ none) : streamOn s = askStreamOnce .read s := by
  simp [streamOn, hand, phase, ready, Option.isSome_iff_ne_none.2 more]

theorem streamOn_places (hand : s.hand = .giving g) (phase : g.phase = .streaming)
    (units : g.ready ≠ [] ∨ nextInBlock g.b g.cursor s = none) :
    streamOn s = placeOrWait (streamFrame g s) .handover .handover s := by
  have places : (g.ready.isEmpty && (nextInBlock g.b g.cursor s).isSome) = false := by
    rcases units with some_ | none_
    · simp [some_]
    · simp [none_]
  simp [streamOn, hand, phase, places]

/-- The giver that goes on with the stream asks the store or places a frame, and changes nothing else. -/
theorem streamOn_eq (s : State) : ∃ l a, streamOn s = { s with line := l, arb := a } ∧ l.slots = s.line.slots ∧
    (∀ j ∈ s.line.sendq, j ∈ l.sendq) := by
  unfold streamOn
  repeat' split
  · obtain ⟨a, asked⟩ := askStreamOnce_eq .read s
    exact ⟨s.line, a, asked, rfl, fun _ mem => mem⟩
  · rename_i g _ _ _ _
    obtain ⟨l, placed, slots, -, -, ⟨j, sendq, -⟩ | ⟨sendq, -⟩⟩ := placeOrWait_eq (streamFrame g s) .handover .handover s
    · exact ⟨l, s.arb, placed, slots, fun j mem => sendq ▸ List.mem_append_left _ mem⟩
    · exact ⟨l, s.arb, placed, slots, fun j mem => sendq ▸ mem⟩
  · exact ⟨s.line, s.arb, rfl, rfl, fun _ mem => mem⟩
  · exact ⟨s.line, s.arb, rfl, rfl, fun _ mem => mem⟩

/-- A frame of the handover engine is queued, or the engine waits for a place. -/
theorem placeOrWait_handover (f : Frame) (s : State) :
    (∃ j ∈ (placeOrWait f .handover .handover s).line.sendq, j.owner = .handover ∧ j.frame = f) ∨
      .handover ∈ (placeOrWait f .handover .handover s).line.waiters := by
  obtain ⟨l, placed, -, -, -, ⟨j, sendq, frame, owner⟩ | ⟨-, waits⟩⟩ := placeOrWait_eq f .handover .handover s
  · rw [placed]
    exact .inl ⟨j, sendq ▸ List.mem_append_right _ (List.mem_singleton.2 rfl), owner, frame⟩
  · rw [placed]
    exact .inr waits

/-! ## The ends of an OFFER -/

/-- An OFFER that ends without an acceptance ends its context, and the block is HOME again (R161). -/
structure OfferEnded (g : Giving) (gen : Nat) (x : Answer) (s t : State) : Prop where
  ctx : getCtx g.ctx t = some ⟨gen, .answered x⟩
  hand : t.hand = .idle
  view : viewOf g.b t = .home
  sweep : s.sweepRestarts t
  store : t.store = s.store
  queue : t.queue = s.queue
  slots : t.line.slots = s.line.slots

theorem offerEnded_endOffer (hand : s.hand = .giving g) (is : getCtx g.ctx s = some ⟨gen, .running r⟩)
    (none_ : r.request.compensation = none) :
    OfferEnded g gen (r.ended o why (if o = .refused then .refusedBy g.receiver else .nothing)) s (endOffer o why s) := by
  have ended := endTransaction_uncompensated (o := o) (why := why)
    (v := if o = .refused then .refusedBy g.receiver else .nothing) is none_
  have offered : endOffer o why s = becomeHome g.b (setHand .idle
      (endTransaction g.ctx o why (if o = .refused then .refusedBy g.receiver else .nothing) s)) := by
    simp only [endOffer, hand]
  rw [offered, ended]
  obtain ⟨x, a, home, -⟩ := becomeHome_eq g.b (setHand .idle
    (answeredCtx g.ctx gen (r.ended o why (if o = .refused then .refusedBy g.receiver else .nothing)) s))
  have restarts := sweepRestarts_becomeHome g.b (setHand .idle
    (answeredCtx g.ctx gen (r.ended o why (if o = .refused then .refusedBy g.receiver else .nothing)) s))
  refine ⟨?_, ?_, viewOf_becomeHome g.b _, restarts.of_eq rfl rfl rfl rfl rfl rfl id, ?_, ?_, ?_⟩
  · rw [home]
    exact getCtx_setCtx_same is
  all_goals rw [home]; rfl

/-- The giver whose OFFER is accepted streams from the first record of its block (R161). -/
def Giving.streams (g : Giving) : Giving :=
  { g with phase := .streaming, units := 0, cursor := g.b.num * blockSize, ready := [] }

/-- The acceptance ends the context DONE, and the giver streams from the first record (R99, R161). -/
theorem acceptedOffer_eq (hand : s.hand = .giving g) (phase : g.phase = .offering)
    (is : getCtx g.ctx s = some ⟨gen, .running r⟩) : acceptedOffer s = streamOn (setHand
      (.giving g.streams)
      (answeredCtx g.ctx gen (r.ended .done none (.acceptedBy g.receiver)) s)) := by
  simp only [acceptedOffer, hand, phase, if_true, endTransaction_eq is (show OutcomeCode.done ≠ .refused by decide)]
  rfl

/-- The ANS of an OFFER that its context awaits is taken by the giver (R111, R161). -/
theorem exec_ansProcessing_offer {age : Nat} {f : Frame} {a : Ans} (head : headSlot s = some (k, age, f))
    (body : f.body = .ans a) (op : a.op = .offer) (ref : a.ref = ⟨g.ctx, gen, r.step⟩)
    (numbers : a.patron = 0 ∧ a.item = 0 ∧ a.title = 0) (is : getCtx g.ctx s = some ⟨gen, .running r⟩)
    (phase : r.phase = .awaiting) (offer : ∃ b st, r.request = .handOver b st) :
    exec .ansProcessing s = .next (refreshAttention (freeSlot k (takeOfferAnswer a.answer s))) := by
  obtain ⟨b, st, request⟩ := offer
  obtain ⟨patron, item, title⟩ := numbers
  have exchange : a.isExchange = false := by simp [Ans.isExchange, op]
  have awaits : r.awaits (stationNo s) = some (a.op, a.patron, a.item, a.title) := by
    simp [Run.awaits, request, op, patron, item, title]
  have matched : matchAns a s = some r := by
    simp [matchAns, ref, is, phase, awaits]
  show execAnsProcessing s = _
  simp [execAnsProcessing, head, body, exchange, processAns, matched, takeMatched, request, finish]

/-- The ends of an OFFER leave records, queue and slots. -/
theorem takeOfferAnswer_stands {a : StepAnswer} (hand : s.hand = .giving g) (phase : g.phase = .offering)
    (is : getCtx g.ctx s = some ⟨gen, .running r⟩) (none_ : r.request.compensation = none) :
    (takeOfferAnswer a s).store = s.store ∧ (takeOfferAnswer a s).queue = s.queue ∧
      (takeOfferAnswer a s).line.slots = s.line.slots := by
  unfold takeOfferAnswer
  split
  · obtain ⟨l, a, streams, slots, -⟩ := streamOn_eq (setHand
      (.giving g.streams)
      (answeredCtx g.ctx gen (r.ended .done none (.acceptedBy g.receiver)) s))
    rw [acceptedOffer_eq hand phase is, streams]
    exact ⟨rfl, rfl, slots⟩
  · have ended := offerEnded_endOffer (o := .refused) (why := some ‹Reason›) hand is none_
    exact ⟨ended.store, ended.queue, ended.slots⟩
  · exact ⟨rfl, rfl, rfl⟩

/-- The stream of a block begins: its first record is to be read, or the one frame without a unit is placed (R162). -/
structure StreamBegun (g : Giving) (s t : State) : Prop where
  reads : recordsOf g.b s ≠ [] → t.arb.Asks (.stream .read)
  places : recordsOf g.b s = [] →
    (∃ j ∈ t.line.sendq, j.owner = .handover ∧ j.frame.dest = .station g.receiver ∧
      j.frame.body = .stream g.b g.serial (some 0) none) ∨ .handover ∈ t.line.waiters

theorem streamBegun_streamOn (hand : s.hand = .giving g) (phase : g.phase = .streaming) (ready : g.ready = [])
    (units : g.units = 0) (cursor : g.cursor = g.b.num * blockSize) : StreamBegun g s (streamOn s) := by
  have first : nextInBlock g.b g.cursor s = (recordsOf g.b s).head? := cursor ▸ nextInBlock_first g.b s
  refine ⟨fun some_ => ?_, fun none_ => ?_⟩
  · rw [streamOn_reads hand phase ready (by rw [first]; simpa using some_)]
    exact asks_askStreamOnce .read s
  · rw [streamOn_places hand phase (.inr (by rw [first, none_]; rfl))]
    refine (placeOrWait_handover (streamFrame g s) s).imp (fun ⟨j, mem, owner, frame⟩ => ⟨j, mem, owner, ?_, ?_⟩) id
    · rw [frame]
      rfl
    · simp [frame, streamFrame, ready, units]

/-- A stream that has begun goes on as a slot is freed. -/
theorem StreamBegun.freeSlot (h : StreamBegun g s u) (busy : getSlot k u ≠ .free) : StreamBegun g s (freeSlot k u) := by
  obtain ⟨-, waits⟩ := freeSlot_line (w := .handover) (fun _ => Waiter.noConfusion) k u
  obtain ⟨l, a, freed, sendq, -⟩ := freeSlot_eq busy
  have sends : (Machine.freeSlot k u).line.sendq = u.line.sendq := by rw [freed]; exact sendq
  refine ⟨fun some_ => AsksOn.freeSlot k u _ (h.reads some_), fun none_ => ?_⟩
  rw [sends]
  exact (h.places none_).imp id waits

theorem getCtx_of_ctxs {c : Nat} (h : t.ctxs = s.ctxs) : getCtx c t = getCtx c s := by rw [getCtx, h, getCtx]

theorem viewOf_of_views (h : t.map.views = s.map.views) : viewOf b t = viewOf b s := by rw [viewOf, h, viewOf]

theorem reqReturned_offer {c : Nat} (run : getRun c s = some r) (offer : ∃ b st, r.request = .handOver b st) :
    reqReturned c s = endOffer .unreachable none s := by
  obtain ⟨b, st, request⟩ := offer
  simp only [reqReturned, run, request]

/-- The OFFER returned after its fourth attempt ends UNREACHABLE, its attempt counted (R110, R143, R161). -/
theorem frameUndelivered_offer {i : SendItem} {res : SendResult} (owner : i.owner = .context g.ctx)
    (other : ∀ b, i.frame.body ≠ .census b) (last : i.attempts + 1 = 4)
    (is : getCtx g.ctx s = some ⟨gen, .running r⟩) (offer : ∃ b st, r.request = .handOver b st) :
    ∃ v, frameUndelivered i res s = walk (endOffer .unreachable none v) ∧
      v = { s with line := v.line, ctxs := v.ctxs } ∧
      getCtx g.ctx v = some ⟨gen, .running { r with attempts := r.attempts + 1 }⟩ := by
  have start : ∃ l, endTurn (if res = .cleared then withdrawClear s else s) = { s with line := l } := by
    split <;> exact ⟨_, rfl⟩
  obtain ⟨l, start⟩ := start
  have before : getCtx g.ctx (dropSend i.id { s with line := l }) = some ⟨gen, .running r⟩ := is
  have counted := getCtx_setRun_same (r' := { r with attempts := r.attempts + 1 }) before
  refine ⟨_, ?_, ?_, counted⟩
  · rw [frameUndelivered_other (fun b census => absurd census (other b)), attemptFailed_returns last, start,
      dropSend_reportAttempt, reportAttempt_context owner (getRun_of_getCtx before)]
    obtain ⟨b, st, request⟩ := offer
    simp only [returnFrame, owner]
    rw [reqReturned_offer (getRun_of_getCtx counted) ⟨b, st, request⟩]
  · rw [setRun_eq before]
    rfl

/-- Settles O55: the freeze by `freeze_eq`, the drain limit by `drainEnds_refused`, and the ends of the OFFER by
`offerEnded_endOffer` and `acceptedOffer_eq`. -/
theorem freezeLendsTheBlock : Obligations.FreezeLendsTheBlock := by
  refine ⟨fun s g limit hand phase => ⟨fun E r held run taken => ?freeze, fun E held taken => ?delayed,
    fun r gen on is none_ => ?limit⟩, fun s g gen r hand is offer => ?ends⟩
  case freeze =>
    obtain ⟨gen, is⟩ := getCtx_of_getRun run
    obtain ⟨l, sent, queued⟩ := sendOffer_eq (g := g.offers s)
      (s := setHand (.giving (g.offers s)) (freezeBlock g.b g.receiver s)) is
    refine ⟨_, g.offers s, { r with phase := .sending, attempts := 0 }, exec_handoverFreeze held, ?_⟩
    rw [freeze_eq hand phase taken, sent]
    have view : viewOf g.b (freezeBlock g.b g.receiver s) = .lending g.receiver := viewOf_setView_same _ _ _
    exact ⟨view, rfl, rfl, rfl, rfl, rfl, rfl, rfl, rfl, rfl, countBlock_eq g.b s,
      getRun_of_getCtx (getCtx_setCtx_same is), rfl, rfl, queued⟩
  case delayed => rw [exec_handoverFreeze held, freeze_delayed hand phase taken]
  case limit =>
    subst on
    refine ⟨_, exec_drainLimit hand phase, ?_⟩
    cases inbound : inboundFor g.b s with
    | true =>
      rw [drainEnds_refused inbound is none_]
      obtain ⟨a, withdrawn, asks⟩ := withdrawFreeze_eq (setHand .idle
        (answeredCtx g.ctx gen (r.ended .refused (some .notQuiet) (.refusedBy (stationNo s))) s))
      rw [withdrawn]
      exact ⟨rfl, rfl, rfl, fun _ => ⟨rfl, asks, r.ended .refused (some .notQuiet) (.refusedBy (stationNo s)),
        getCtx_setCtx_same is, rfl, rfl⟩, fun no => by cases no⟩
    | false =>
      rw [drainEnds_waits inbound]
      exact ⟨rfl, rfl, rfl, fun no => (by cases no), fun _ => rfl⟩
  case ends =>
    intro ended
    have none_ : r.request.compensation = none := by
      obtain ⟨b, st, request⟩ := offer
      rw [request]
      rfl
    refine ⟨fun k age f a phase awaiting head body op ref patron item title => ?_,
      fun i res q sends free owner body last turn => ?_⟩
    · obtain ⟨store, queue, slots⟩ := takeOfferAnswer_stands (a := a.answer) hand phase is none_
      have busy : getSlot k (takeOfferAnswer a.answer s) ≠ .free := by
        have before := busy_of_headSlot head
        rwa [getSlot, slots]
      obtain ⟨l, x, freed, -, -, slot⟩ := freeSlot_eq busy
      have asks := AsksOn.freeSlot k (takeOfferAnswer a.answer s)
      refine ⟨_, exec_ansProcessing_offer head body op ref ⟨patron, item, title⟩ is awaiting offer, slot, ?_⟩
      refine ⟨by rw [freed]; exact store, by rw [freed]; exact queue, fun v done => ?_, fun why v refused => ?_⟩
      · have accepted : takeOfferAnswer a.answer s = acceptedOffer s := by rw [done]; rfl
        rw [accepted, acceptedOffer_eq hand phase is] at busy freed ⊢
        have begun := (streamBegun_streamOn (g := g.streams) (s := setHand
          (.giving g.streams)
          (answeredCtx g.ctx gen (r.ended .done none (.acceptedBy g.receiver)) s)) rfl rfl rfl rfl rfl).freeSlot busy
        obtain ⟨l', a', streams, -⟩ := streamOn_eq (setHand
          (.giving g.streams)
          (answeredCtx g.ctx gen (r.ended .done none (.acceptedBy g.receiver)) s))
        refine ⟨⟨r.ended .done none (.acceptedBy g.receiver), ?_, rfl, rfl, rfl, rfl, rfl⟩, ?_, ?_, fun some_ => ?_,
          fun empty => ?_⟩
        · rw [freed, streams]
          exact getCtx_setCtx_same is
        · rw [freed, streams]
          rfl
        · rw [freed, streams]
          rfl
        · exact Arbiter.asks_stream.1 (begun.reads some_)
        · exact begun.places empty
      · have unfrozen : OfferEnded g gen (r.ended .refused (some why) (.refusedBy g.receiver)) s
            (endOffer .refused (some why) s) :=
          offerEnded_endOffer (o := .refused) (why := some why) hand is none_
        have ends : takeOfferAnswer a.answer s = endOffer .refused (some why) s := by
          rw [refused]
          rfl
        rw [ends] at freed asks ⊢
        rw [freed] at asks ⊢
        exact ⟨⟨r.ended .refused (some why) (.refusedBy g.receiver), unfrozen.ctx, rfl, rfl, rfl, rfl, rfl⟩, unfrozen.hand,
          unfrozen.view, unfrozen.sweep.later (t' := { endOffer .refused (some why) s with arb := x, line := l }) rfl asks⟩
    · obtain ⟨v, reported, home, counted⟩ :=
        frameUndelivered_offer (res := res) owner (fun _ eq => by simp [body] at eq) last is offer
      have unfrozen : OfferEnded g gen ({ r with attempts := r.attempts + 1 }.ended .unreachable none .nothing) v
          (endOffer .unreachable none v) :=
        offerEnded_endOffer (by rw [home]; exact hand) counted none_
      have walks := walks_walk (endOffer .unreachable none v)
      obtain ⟨hand', views, -⟩ := walks.quiet (by simp [State.takesUnits, unfrozen.hand])
      refine ⟨_, exec_frameUndelivered sends free (by simp [body]) turn, ?_⟩
      rw [reported]
      refine ⟨⟨{ r with attempts := r.attempts + 1 }.ended .unreachable none .nothing,
        (getCtx_of_ctxs walks.ctxs).trans unfrozen.ctx, rfl, rfl, rfl, rfl, rfl⟩,
        hand'.trans unfrozen.hand, ?_, ?_, ?_⟩
      · exact (viewOf_of_views views).trans unfrozen.view
      · exact (unfrozen.sweep.later walks.day walks.asks).of_eq (by rw [home]) (by rw [home]; rfl) (by rw [home])
          rfl rfl rfl id
      · exact (walks.store.trans unfrozen.store).trans (by rw [home])

end Sys2Proof.Machine
end
section
/-! PROOFS. The giver's reads of its block, and the freeing of records (R162, R155). -/

namespace Sys2Proof.Machine

variable {s t : State} {g : Giving} {n E : Nat} {b : Block} {who : Requester}

/-! ## Reading a record -/

theorem fetchItem_eq (n : Nat) (who : Requester) (E : Nat) (s : State) :
    ∃ st c p, (fetchItem n who E s).1 = { s with store := st, capture := c, port := p } := by
  unfold fetchItem
  repeat' split
  case h_2.isFalse.isFalse =>
    obtain ⟨c, p, fault⟩ := recordFault_eq _ _
    exact ⟨_, c, p, fault⟩
  all_goals exact ⟨s.store, s.capture, s.port, rfl⟩

theorem fetchTitle_eq (n : Nat) (who : Requester) (E : Nat) (s : State) :
    ∃ st c p, (fetchTitle n who E s).1 = { s with store := st, capture := c, port := p } := by
  unfold fetchTitle
  repeat' split
  case h_2.isFalse.isFalse =>
    obtain ⟨c, p, fault⟩ := recordFault_eq _ _
    exact ⟨_, c, p, fault⟩
  all_goals exact ⟨s.store, s.capture, s.port, rfl⟩

theorem fetchPatron_eq (n : Nat) (who : Requester) (E : Nat) (s : State) :
    ∃ st c p, (fetchPatron n who E s).1 = { s with store := st, capture := c, port := p } := by
  unfold fetchPatron
  repeat' split
  case h_2.isFalse.isFalse =>
    obtain ⟨c, p, fault⟩ := recordFault_eq _ _
    exact ⟨_, c, p, fault⟩
  all_goals exact ⟨s.store, s.capture, s.port, rfl⟩

/-- A record read for the stream marks it and records a fault at most. -/
theorem readUnits_eq (sp : Space) (n E : Nat) (s : State) :
    ∃ st c p, (readUnits sp n E s).1 = { s with store := st, capture := c, port := p } := by
  unfold readUnits
  cases sp with
  | item =>
    have fetched := fetchItem_eq n .stream E s
    dsimp only
    split <;> rename_i fetch <;> rwa [fetch] at fetched
  | title =>
    have fetched := fetchTitle_eq n .stream E s
    dsimp only
    split <;> rename_i fetch <;> rwa [fetch] at fetched
  | patron =>
    have fetched := fetchPatron_eq n .stream E s
    dsimp only
    split <;> rename_i fetch <;> rwa [fetch] at fetched

/-- An item is streamed as it stands, and as a marker where it is quarantined or its check fails (R162, R181). -/
theorem readUnits_item {r : Item} (found : getItem n s = some r) :
    (r.quarantined = true → (readUnits .item n E s).2 = [.marker .item n] ∧
      (readUnits .item n E s).1.store = s.store) ∧
    (r.quarantined = false → r.check = .agrees → (readUnits .item n E s).2 = [.item n r] ∧
      (readUnits .item n E s).1.store = s.store) ∧
    (r.quarantined = false → ¬ r.wordAgrees n → (readUnits .item n E s).2 = [.marker .item n] ∧
      (readUnits .item n E s).1.store = (markItem n r s).store) := by
  refine ⟨fun marked => ?_, fun fit agrees => ?_, fun fit fails => ?_⟩
  · simp [readUnits, fetchItem_read found (.inl marked), marked]
  · simp [readUnits, fetchItem_read found (.inr agrees), fit]
  · rw [Item.wordAgrees_iff] at fails
    simp [readUnits, fetchItem_failing found fit fails]

/-- A patron is streamed as it stands, and as a marker where it is quarantined or its check fails (R162, R181). -/
theorem readUnits_patron {p : Patron} (found : getPatron n s = some p) :
    (p.quarantined = true → (readUnits .patron n E s).2 = [.marker .patron n] ∧
      (readUnits .patron n E s).1.store = s.store) ∧
    (p.quarantined = false → p.check = .agrees → (readUnits .patron n E s).2 = [.patron n p] ∧
      (readUnits .patron n E s).1.store = s.store) ∧
    (p.quarantined = false → ¬ p.wordAgrees n → (readUnits .patron n E s).2 = [.marker .patron n] ∧
      (readUnits .patron n E s).1.store = (markPatron n p s).store) := by
  refine ⟨fun marked => ?_, fun fit agrees => ?_, fun fit fails => ?_⟩
  · simp [readUnits, fetchPatron_read found (.inl marked), marked]
  · simp [readUnits, fetchPatron_read found (.inr agrees), fit]
  · rw [Patron.wordAgrees_iff] at fails
    simp [readUnits, fetchPatron_failing found fit fails]

/-- A title is streamed with its copies and holds in order, and as a marker where it is quarantined or a check fails
(R162, R181). -/
theorem readUnits_title {x : Title} (found : getTitle n s = some x) :
    (x.quarantined = true → (readUnits .title n E s).2 = [.marker .title n] ∧
      (readUnits .title n E s).1.store = s.store) ∧
    (x.quarantined = false → x.checks = true → (readUnits .title n E s).2 = titleUnits n x ∧
      (readUnits .title n E s).1.store = s.store) ∧
    (x.quarantined = false → ¬ x.wordsAgree n → (readUnits .title n E s).2 = [.marker .title n] ∧
      (readUnits .title n E s).1.store = (markTitle n x s).store) := by
  refine ⟨fun marked => ?_, fun fit agrees => ?_, fun fit fails => ?_⟩
  · simp [readUnits, fetchTitle_read found (.inl marked), marked]
  · simp [readUnits, fetchTitle_read found (.inr agrees), fit]
  · rw [Title.wordsAgree_iff, Bool.not_eq_true] at fails
    simp [readUnits, fetchTitle_failing found fit fails]

theorem exec_streamUnitRead (held : s.arb.held = some ⟨.stream .read, E⟩) :
    exec .streamUnitRead s = .next (refreshAttention (endGrant (streamRead E s))) := by
  show execStreamUnitRead s = _
  simp [execStreamUnitRead, heldStream, held, finish]

/-- The giver has read the next record of its block: its units are ready, and the cursor moves past it (R162). -/
theorem streamRead_eq (hand : s.hand = .giving g) (phase : g.phase = .streaming)
    (next : nextInBlock g.b g.cursor s = some n) : ∃ l a c p, streamRead E s = { s with
      hand := .giving { g with ready := (readUnits g.b.space n E s).2, cursor := n + 1 }
      store := (readUnits g.b.space n E s).1.store, line := l, arb := a, capture := c, port := p } := by
  obtain ⟨st, c, p, read⟩ := readUnits_eq g.b.space n E s
  obtain ⟨l, a, streams, -⟩ := streamOn_eq (setHand
    (.giving { g with ready := (readUnits g.b.space n E s).2, cursor := n + 1 }) (readUnits g.b.space n E s).1)
  have reads : streamRead E s = streamOn (setHand
      (.giving { g with ready := (readUnits g.b.space n E s).2, cursor := n + 1 }) (readUnits g.b.space n E s).1) := by
    simp only [streamRead, hand, phase, next]
  refine ⟨l, a, c, p, ?_⟩
  rw [reads, streams, read]
  rfl

/-! ## The freeing -/

theorem exec_recordFreeing (held : s.arb.held = some ⟨.stream (.free b), E⟩) :
    exec .recordFreeing s = .next (refreshAttention (endGrant (freeing b s))) := by
  show execRecordFreeing s = _
  simp [execRecordFreeing, heldStream, held, finish]

theorem endFreeing_eq (b : Block) (s : State) : ∃ h, endFreeing b s = { s with hand := h } := by
  unfold endFreeing
  repeat' split
  all_goals exact ⟨_, rfl⟩

theorem endFreeing_idle (hand : s.hand = .giving g) (phase : g.phase = .freeing) (block : g.b = b) :
    (endFreeing b s).hand = .idle := by
  simp [endFreeing, hand, phase, block]

/-- A block that is HOME, LENDING or PROBING keeps its records at a freeing (R155). -/
theorem freeing_barred (keeps : (viewOf b s).freesRecords = false) : freeing b s = endFreeing b s := by
  simp [freeing, keeps]

/-- A freeing leaves the records of its block beyond the first 64, and asks again while some are left (R155, R182). -/
theorem freeing_frees (tables : s.tablesOk) (frees : (viewOf b s).freesRecords = true) :
    recordsOf b (freeing b s) = (recordsOf b s).drop 64 ∧
      (64 < (recordsOf b s).length → .free b ∈ (freeing b s).arb.stream) := by
  have left : recordsOf b (freeRecords b Config.burst s) = (recordsOf b s).drop 64 := by
    rw [freeRecords_eq, recordsOf_dropRecords, filter_not_mem_take (recordsOf_nodup tables b)]
    rfl
  by_cases done : (recordsOf b s).drop 64 = []
  · obtain ⟨h, ends⟩ := endFreeing_eq b (freeRecords b Config.burst s)
    have freed : freeing b s = endFreeing b (freeRecords b Config.burst s) := by
      simp [freeing, frees, left, done]
    refine ⟨?_, fun more => absurd (List.drop_eq_nil_iff.1 done) (by omega)⟩
    rw [freed, ends]
    exact (recordsOf_of_store rfl).trans left
  · have freed : freeing b s = { freeRecords b Config.burst s with
        arb := { (freeRecords b Config.burst s).arb with
          stream := (freeRecords b Config.burst s).arb.stream ++ [.free b] } } := by
      simp [freeing, frees, left, done]
    rw [freed]
    exact ⟨(recordsOf_of_store rfl).trans left, fun _ => List.mem_append_right _ (List.mem_singleton.2 rfl)⟩

/-- A freeing that leaves no record ends the giver's handover (R165). -/
theorem freeing_last (frees : (viewOf b s).freesRecords = true) (few : (recordsOf b s).length ≤ 64) :
    freeing b s = endFreeing b (freeRecords b Config.burst s) := by
  have left : recordsOf b (freeRecords b Config.burst s) = [] := by
    rw [freeRecords_eq, recordsOf_dropRecords, List.take_of_length_le (show _ ≤ Config.burst from few)]
    simp
  simp [freeing, frees, left]

/-- A freeing changes the records of its block, the work that asks and the giver, and nothing else. -/
theorem freeing_eq (b : Block) (s : State) : ∃ st a h, freeing b s = { s with store := st, arb := a, hand := h } ∧
    ∀ n, (blockOf .item n ≠ b → getItem n (freeing b s) = getItem n s) ∧
      (blockOf .title n ≠ b → getTitle n (freeing b s) = getTitle n s) ∧
      (blockOf .patron n ≠ b → getPatron n (freeing b s) = getPatron n s) := by
  have others : ∀ n, _ := fun n => dropRecords_other (b := b) (ns := (recordsOf b s).take 64)
    (fun n mem => blockOf_of_mem_recordsOf (List.mem_of_mem_take mem)) s n
  obtain ⟨st, dropped, -⟩ := dropRecords_eq b.space ((recordsOf b s).take 64) s
  have freed : freeRecords b Config.burst s = { s with store := st } := dropped
  rw [dropped] at others
  unfold freeing
  dsimp only
  rw [freed]
  split
  · split
    · obtain ⟨h, ends⟩ := endFreeing_eq b { s with store := st }
      rw [ends]
      exact ⟨st, s.arb, h, rfl, others⟩
    · exact ⟨st, _, s.hand, rfl, others⟩
  · obtain ⟨h, ends⟩ := endFreeing_eq b s
    rw [ends]
    exact ⟨s.store, s.arb, h, rfl, fun _ => ⟨fun _ => rfl, fun _ => rfl, fun _ => rfl⟩⟩

end Sys2Proof.Machine
end
section
/-! PROOFS. The end of a STREAM at the giver (R162, R163; O56). -/

namespace Sys2Proof.Machine

variable {s t : State} {g : Giving} {i : SendItem} {res : SendResult} {last : Option Nat} {u : Option StreamUnit}

/-- The giver whose frame of a unit has been delivered (R162). -/
def Giving.sent (g : Giving) (u : Option StreamUnit) : Giving :=
  { g with units := g.units + (match u with | none => 0 | some _ => 1), ready := g.ready.tail }

theorem streamDelivered_last {total : Nat} (hand : s.hand = .giving g) (phase : g.phase = .streaming) :
    streamDelivered (some total) u s = setHand (.giving { g.sent u with phase := .deciding }) s := by
  cases u <;> simp [streamDelivered, hand, phase, Giving.sent]

theorem streamDelivered_more (hand : s.hand = .giving g) (phase : g.phase = .streaming) :
    streamDelivered none u s = streamOn (setHand (.giving (g.sent u)) s) := by
  cases u <;> simp [streamDelivered, hand, phase, Giving.sent]

/-- A STREAM delivered is reported to the giver, and the dispatch queue is walked (R138, R123). -/
theorem frameDelivered_stream {b : Block} {serial : Nat} (owner : i.owner = .handover)
    (body : i.frame.body = .stream b serial last u) :
    frameDelivered i s = walk (streamDelivered last u (endTurn (dropSend i.id s))) := by
  rw [frameDelivered_other (by simp [body])]
  simp [reportDelivered, owner, handoverDelivered, body]

/-- A STREAM is returned at its first undelivered attempt, and fails the handover (R143, R163). -/
theorem frameUndelivered_stream {b : Block} {serial : Nat} (owner : i.owner = .handover)
    (body : i.frame.body = .stream b serial last u) (hand : s.hand = .giving g) (phase : g.phase = .streaming) :
    ∃ l, frameUndelivered i res s = walk (failHandover g .streamUndelivered { s with line := l }) := by
  have start : ∃ l, endTurn (if res = .cleared then withdrawClear s else s) = { s with line := l } := by
    split <;> exact ⟨_, rfl⟩
  obtain ⟨l, start⟩ := start
  have stream : i.frame.isStream = true := by simp [Frame.isStream, body]
  refine ⟨(dropSend i.id { s with line := l }).line, ?_⟩
  rw [frameUndelivered_other (by simp [body])]
  simp only [attemptFailed, stream, or_true, if_true]
  rw [start, reportAttempt_other (by simp [owner])]
  simp [returnFrame, owner, handoverReturned, body, streamReturned, hand, phase]
  rfl

theorem nextInBlock_of_store {b : Block} (n : Nat) (store : t.store = s.store) : nextInBlock b n t = nextInBlock b n s := by
  rw [nextInBlock, recordsOf_of_store store, nextInBlock]

/-- The giver that goes on with the stream, the dispatch queue walked after it (R162, R123). -/
theorem walked_streamOn (phase : g.phase = .streaming) :
    (walk (streamOn (setHand (.giving g) s))).store = s.store ∧
    (walk (streamOn (setHand (.giving g) s))).map.views = s.map.views ∧
    (walk (streamOn (setHand (.giving g) s))).hand = .giving g ∧
    (g.ready = [] → nextInBlock g.b g.cursor s ≠ none →
      streamAsked .read (walk (streamOn (setHand (.giving g) s))) = true) ∧
    (∀ x more, g.ready = x :: more →
      (∃ j ∈ (walk (streamOn (setHand (.giving g) s))).line.sendq, j.owner = .handover ∧
        j.frame.dest = .station g.receiver ∧ j.frame.body = .stream g.b g.serial
          (if more = [] ∧ nextInBlock g.b g.cursor s = none then some (g.units + 1) else none) (some x)) ∨
      .handover ∈ (walk (streamOn (setHand (.giving g) s))).line.waiters) := by
  have walks := walks_walk (streamOn (setHand (.giving g) s))
  obtain ⟨l, a, streams, -⟩ := streamOn_eq (setHand (.giving g) s)
  have hand : (streamOn (setHand (.giving g) s)).hand = .giving g := by rw [streams]; rfl
  obtain ⟨hand', views, -⟩ := walks.quiet (not_takesUnits_of_giving hand)
  have next : nextInBlock g.b g.cursor (setHand (.giving g) s) = nextInBlock g.b g.cursor s := nextInBlock_of_store _ rfl
  refine ⟨walks.store.trans (by rw [streams]; rfl), views.trans (by rw [streams]; rfl), hand'.trans hand,
    fun ready more => ?_, fun x more ready => ?_⟩
  · refine Arbiter.asks_stream.1 (walks.asks _ ?_)
    rw [streamOn_reads rfl phase ready (by rwa [next])]
    exact asks_askStreamOnce .read _
  · have placed := placeOrWait_handover (streamFrame g (setHand (.giving g) s)) (setHand (.giving g) s)
    rw [← streamOn_places rfl phase (.inl (by simp [ready]))] at placed
    refine placed.imp (fun ⟨j, mem, owner, frame⟩ => ⟨j, walks.sent j mem, owner, ?_, ?_⟩) walks.handover
    · rw [frame]
      rfl
    · simp [frame, streamFrame, ready, next]

/-- The entry of a dispatch queued (R121). -/
def queuedEntry (d : Dispatch) (s : State) : Entry :=
  { id := s.queue.nextId, dir := .outbound, disp := d, failures := 0, phase := .queued }

/-- The entry queued is found by its own number (R121). -/
theorem findEntry_enqueue_new (fresh : ∀ e ∈ s.queue.entries, e.id ≠ s.queue.nextId) (d : Dispatch) :
    findEntry s.queue.nextId (enqueue d s) =
      some (queuedEntry d s) := by
  have none_ : (s.queue.entries.find? fun e => e.id == s.queue.nextId) = none :=
    List.find?_eq_none.2 fun e mem same => fresh e mem (beq_iff_eq.1 same)
  simp [findEntry, enqueue, none_, queuedEntry]

/-- Settles O56: the reads by `readUnits_item` and its fellows, the freeing by `freeing_frees`, and the ends of a STREAM
by `streamOn_reads`, `streamOn_places` and `failed_failHandover`. -/
theorem streamReadsAndFreesTheBlock : Obligations.StreamReadsAndFreesTheBlock := by
  refine ⟨fun s E => ⟨fun g n held hand phase next => ?read, fun b held => ?freeing⟩,
    fun s g i last u hand phase sends free owner body => ⟨fun turn => ?delivered, fun res turn other queue => ?returned⟩⟩
  case read =>
    obtain ⟨l, a, c, p, reads⟩ := streamRead_eq (E := E) hand phase next
    refine ⟨_, (readUnits g.b.space n E s).2, exec_streamUnitRead held, ?_⟩
    rw [reads]
    refine ⟨rfl, rfl, rfl, fun r space found => ?_, fun p space found => ?_, fun x space found => ?_⟩
    · rw [space]
      exact readUnits_item found
    · rw [space]
      exact readUnits_patron found
    · rw [space]
      exact readUnits_title found
  case freeing =>
    obtain ⟨st, a, h, freed, others⟩ := freeing_eq b s
    have keeps : viewOf b s = .home → (freeing b s).store = s.store := by
      intro view
      obtain ⟨h, ends⟩ := endFreeing_eq b s
      rw [freeing_barred (by rw [view]; rfl), ends]
    refine ⟨_, exec_recordFreeing held, by rw [freed]; rfl, by rw [freed]; rfl, by rw [freed]; rfl, keeps, others,
      fun tables view => ?_, fun g hand phase block view few => ?_⟩
    · have frees : (viewOf b s).freesRecords = true := by
        rcases view with view | ⟨st, view⟩ | ⟨st, view⟩ <;> rw [view] <;> rfl
      obtain ⟨left, asks⟩ := freeing_frees tables frees
      exact ⟨left, fun more => streamAsked_endGrant (asks more)⟩
    · obtain ⟨st, view⟩ := view
      obtain ⟨st', dropped, -⟩ := dropRecords_eq b.space ((recordsOf b s).take 64) s
      have gives : (freeRecords b Config.burst s).hand = .giving g := by
        rw [freeRecords_eq]
        exact (congrArg State.hand dropped).trans hand
      show (freeing b s).hand = _
      rw [freeing_last (by rw [view]; rfl) few]
      exact endFreeing_idle gives phase block
  case delivered =>
    refine ⟨_, exec_frameDelivered sends turn free, ?_⟩
    rw [frameDelivered_stream owner body]
    cases last with
    | some total =>
      rw [streamDelivered_last (s := endTurn (dropSend i.id s)) hand phase]
      have walks := walks_walk (setHand (.giving { g.sent u with phase := .deciding })
        (endTurn (dropSend i.id s)))
      obtain ⟨decides, views, -⟩ := walks.quiet (not_takesUnits_of_giving rfl)
      exact ⟨walks.store, views, fun _ => decides, fun no => by cases no⟩
    | none =>
      rw [streamDelivered_more (s := endTurn (dropSend i.id s)) hand phase]
      obtain ⟨store, views, streams, reads, places⟩ := walked_streamOn (g := g.sent u)
        (s := endTurn (dropSend i.id s)) phase
      exact ⟨store, views, fun no => absurd rfl no, fun _ => ⟨streams, reads, places⟩⟩
  case returned =>
    obtain ⟨l, failed⟩ := frameUndelivered_stream (res := res) owner body hand phase
    have fails := failed_failHandover g .streamUndelivered { s with line := l }
    have walks := walks_walk (failHandover g .streamUndelivered { s with line := l })
    refine ⟨_, exec_frameUndelivered sends free (by simp [body]) turn, ?_⟩
    rw [failed]
    generalize walk (failHandover g .streamUndelivered { s with line := l }) = w at walks ⊢
    generalize failHandover g .streamUndelivered { s with line := l } = v at fails walks
    obtain ⟨idle, views, port⟩ := walks.quiet (by simp [State.takesUnits, fails.hand])
    have added : findEntry s.queue.nextId v = some (queuedEntry (.abandon g.receiver g.b g.serial) s) := by
      obtain ⟨-, fresh, -⟩ := queue
      have queued : v.queue = (enqueue (.abandon g.receiver g.b g.serial) s).queue := fails.queue
      rw [findEntry, queued]
      exact findEntry_enqueue_new (fun e mem => Nat.ne_of_lt (fresh e mem)) _
    have kept : Entry.keptIn v (queuedEntry (.abandon g.receiver g.b g.serial) s) := by
      refine .inr ⟨Nat.zero_lt_succ _, fun b n same => other ?_⟩
      injection same with station
      rw [station, stationNo, fails.conf, stationNo]
    obtain ⟨e, found, dir, disp, -⟩ := walks.entries _ _ added kept
    exact ⟨idle.trans fails.hand, (viewOf_of_views views).trans fails.view,
      (fails.sweep.later walks.day walks.asks).of_eq rfl rfl rfl rfl rfl rfl id, walks.store.trans fails.store,
      ⟨e, (mem_of_findEntry found).1, dir, disp⟩,
      fun room => (congrArg KioskPort.notices port).trans (fails.notices room)⟩

end Sys2Proof.Machine
end
section
/-! PROOFS. The grant stays with the work that holds it, whatever asks (R182). -/

namespace Sys2Proof.Machine

variable {s t u : State} {w : Work}

/-- The grant held in one state is held in the other. -/
def HeldOn (s t : State) : Prop := ∀ g, s.arb.held = some g → t.arb.held = some g

@[refl] theorem HeldOn.refl (s : State) : HeldOn s s := fun _ held => held

theorem HeldOn.trans (h : HeldOn s t) (k : HeldOn t u) : HeldOn s u := fun g held => k g (h g held)

theorem HeldOn.of_arb (same : t.arb = s.arb) : HeldOn s t := fun _ held => same ▸ held

/-- No grant is made while one is held (R183). -/
theorem HeldOn.arbitrate {a : Arbiter} (held : a.held = s.arb.held) :
    HeldOn s (Machine.arbitrate { s with arb := a }) := by
  intro g holds
  have first : a.held = some g := held.trans holds
  show (a.arbitrate s.day.county).held = some g
  rw [Arbiter.arbitrate, first]
  exact first

theorem HeldOn.askStream (x : StreamWork) (s : State) : HeldOn s (askStream x s) := .arbitrate rfl

theorem HeldOn.askStreamOnce (x : StreamWork) (s : State) : HeldOn s (askStreamOnce x s) := by
  unfold Machine.askStreamOnce
  split
  · exact .refl s
  · exact .askStream x s

theorem HeldOn.startSweep (s : State) : HeldOn s (startSweep s) := by
  unfold Machine.startSweep Machine.askSweep
  repeat' split
  · exact .of_arb rfl
  · exact .of_arb rfl
  · exact .of_arb rfl
  · exact .arbitrate rfl
  · exact .refl s

theorem HeldOn.beginStream (s : State) : HeldOn s (beginStream s) := by
  unfold Machine.beginStream
  repeat' split
  · exact (HeldOn.of_arb (t := setSlot _ _ s) rfl).trans (.askStream _ _)
  · exact (HeldOn.of_arb (t := setSlot _ _ (stopWaiting _ s)) rfl).trans (.askStream _ _)
  · refine .of_arb ?_
    unfold waitForPlace
    split <;> rfl
  · exact .refl s
  · exact .refl s

theorem HeldOn.freeSlot (k : Nat) (s : State) : HeldOn s (freeSlot k s) := by
  obtain ⟨-, -, arb⟩ := releaseSlot_line k s
  exact (HeldOn.of_arb arb).trans (.beginStream _)

/-- Other work than that of the grant asks on as the grant ends. -/
theorem Arbiter.Asks.endGrant {x : Work} {E : Nat} (asks : s.arb.Asks w) (held : s.arb.held = some ⟨x, E⟩) (other : x ≠ w) :
    (endGrant s).arb.Asks w := by
  obtain waits | ⟨E', holds⟩ := asks
  · exact asks_endGrant waits
  · rw [held] at holds
    injection holds with same
    injection same with same
    exact absurd same other

end Sys2Proof.Machine
end
section
/-! PROOFS. The decision of the receiver and its discard of a block (R169, R172). -/

namespace Sys2Proof.Machine

variable {s t u : State} {r : Receiving} {k : Nat} {o : OutcomeCode}

/-! ## The discard (R172) -/

/-- The block is FOREIGN of the giver, its records are freed, and the engine is idle. -/
structure Discarded (r : Receiving) (s t : State) : Prop where
  view : viewOf r.b t = .foreign r.giver
  hand : t.hand = .idle
  store : t.store = s.store
  queue : t.queue = s.queue
  frees : recordsOf r.b t ≠ [] → t.arb.Asks (.stream (.free r.b))
  held : HeldOn s t
  notices : s.port.notices.length < 32 →
    t.port.notices = s.port.notices ++ [.handover r.b r.giver .discarded none r.units]

theorem freeStranded_eq (b : Block) (s : State) : ∃ a, freeStranded b s = { s with arb := a } ∧
    (recordsOf b s ≠ [] → a.Asks (.stream (.free b))) ∧ (∀ g, s.arb.held = some g → a.held = some g) := by
  unfold freeStranded
  split
  · rename_i empty
    exact ⟨s.arb, rfl, fun some_ => absurd (List.isEmpty_iff.1 empty) some_, fun _ held => held⟩
  · obtain ⟨a, asked⟩ := askStreamOnce_eq (.free b) s
    have asks := asks_askStreamOnce (.free b) s
    have holds := HeldOn.askStreamOnce (.free b) s
    rw [asked] at asks holds
    exact ⟨a, asked, fun _ => asks, holds⟩

theorem discarded_discardBlock (r : Receiving) (s : State) : Discarded r s (discardBlock r s) := by
  obtain ⟨a, freed, asks, holds⟩ := freeStranded_eq r.b (setView r.b (.foreign r.giver) (setHand .idle s))
  obtain ⟨p, posted, notices⟩ := postNotice_posts (.handover r.b r.giver .discarded none r.units)
    { setView r.b (.foreign r.giver) (setHand .idle s) with arb := a }
  have view := viewOf_setView_same r.b (.foreign r.giver) (setHand .idle s)
  unfold discardBlock becomeForeign
  rw [freed, posted]
  exact ⟨view, rfl, rfl, rfl, asks, holds, notices⟩

theorem discardBlock_line (r : Receiving) (s : State) : (discardBlock r s).line = s.line := by
  obtain ⟨a, freed, -⟩ := freeStranded_eq r.b (setView r.b (.foreign r.giver) (setHand .idle s))
  obtain ⟨p, posted, -⟩ := postNotice_posts (.handover r.b r.giver .discarded none r.units)
    { setView r.b (.foreign r.giver) (setHand .idle s) with arb := a }
  rw [discardBlock, becomeForeign, freed, posted]
  rfl

/-! ## The decision ANS (R169) -/

/-- The decision of the receiver is in the send queue, the slot of the LAST frame freed. -/
structure Decided (r : Receiving) (o : OutcomeCode) (s t : State) : Prop where
  same : ∃ l a, t = { s with line := l, arb := a }
  ans : ∃ j ∈ t.line.sendq, j.frame.dest = .station r.giver ∧ j.frame.body = .ans (decisionAns o r.b r.serial)
  asks : AsksOn s t
  held : HeldOn s t

theorem decided_placeAns (busy : getSlot k s ≠ .free) (o : OutcomeCode) (r : Receiving) :
    Decided r o s (placeAns k r.giver (decisionAns o r.b r.serial) .handover s) := by
  obtain ⟨l, a, placed, sendq, -⟩ := placeAns_eq r.giver (decisionAns o r.b r.serial) .handover busy
  refine ⟨⟨l, a, placed⟩, ?_, ?_, ?_⟩
  · rw [placed]
    exact ⟨_, sendq ▸ List.mem_append_right _ (List.mem_singleton.2 rfl), rfl, rfl⟩
  · exact (AsksOn.of_arb (t := pushFrame _ _ s) rfl).trans (.freeSlot _ _)
  · exact (HeldOn.of_arb (t := pushFrame _ _ s) rfl).trans (.freeSlot _ _)

/-! ## The LAST frame accepted or rejected (R169) -/

/-- The block is HOME here, its unused places are released, and the engine confirms (R169). -/
structure Taken (r : Receiving) (s t : State) : Prop where
  view : viewOf r.b t = .home
  hand : t.hand = .receiving { r with phase := .confirming true, reserved := ⟨0, 0, 0⟩ }
  store : t.store = s.store
  queue : t.queue = s.queue
  sweep : s.sweepRestarts t
  held : HeldOn s t
  notices : s.port.notices.length < 32 →
    t.port.notices = s.port.notices ++ [.handover r.b r.giver .received none r.units]

/-- The state of a receiver that has taken its block, its decision not yet placed. -/
def blockTaken (r : Receiving) (s : State) : State :=
  postNotice (.handover r.b r.giver .received none r.units)
    (becomeHome r.b (setHand (.receiving { r with phase := .confirming true, reserved := ⟨0, 0, 0⟩ }) s))

theorem taken_blockTaken (r : Receiving) (s : State) : Taken r s (blockTaken r s) := by
  let v : State := setHand (.receiving { r with phase := .confirming true, reserved := ⟨0, 0, 0⟩ }) s
  obtain ⟨x, a, home, -⟩ := becomeHome_eq r.b v
  have restarts := sweepRestarts_becomeHome r.b v
  have holds : HeldOn v (becomeHome r.b v) := (HeldOn.of_arb (t := setView r.b .home v) rfl).trans (.startSweep _)
  have view := viewOf_becomeHome r.b v
  have notices := (postNotice_posts (.handover r.b r.giver .received none r.units) (becomeHome r.b v))
  obtain ⟨p, posted, notices⟩ := notices
  unfold blockTaken
  rw [posted]
  refine ⟨view, ?_, ?_, ?_, restarts.of_eq rfl rfl rfl rfl rfl rfl id, holds, fun room => ?_⟩
  case refine_4 =>
    rw [home] at notices
    exact notices room
  all_goals
    rw [home]
    rfl

theorem blockTaken_line (r : Receiving) (s : State) : (blockTaken r s).line = s.line := by
  obtain ⟨x, a, home, -⟩ := becomeHome_eq r.b
    (setHand (.receiving { r with phase := .confirming true, reserved := ⟨0, 0, 0⟩ }) s)
  rw [blockTaken, home]
  obtain ⟨p, posted, -⟩ := postNotice_posts (.handover r.b r.giver .received none r.units) _
  rw [posted]
  rfl

/-- A block taken stays so as the decision is placed. -/
theorem Taken.decided (h : Taken r s t) (d : Decided r o t u) : Taken r s u := by
  obtain ⟨⟨l, a, same⟩, -, asks, held⟩ := d
  refine ⟨?_, ?_, ?_, ?_, h.sweep.later (by rw [same]) asks, h.held.trans held, ?_⟩
  all_goals rw [same]
  exacts [h.view, h.hand, h.store, h.queue, h.notices]

/-- A block discarded stays so as the decision is placed. -/
theorem Discarded.decided (h : Discarded r s t) (d : Decided r o t u) : Discarded r s u := by
  obtain ⟨⟨l, a, same⟩, -, asks, held⟩ := d
  refine ⟨?_, ?_, ?_, ?_, fun some_ => asks _ (h.frees ?_), h.held.trans held, ?_⟩
  case refine_5 =>
    rw [same] at some_
    exact some_
  all_goals rw [same]
  exacts [h.view, h.hand, h.store, h.queue, h.notices]

end Sys2Proof.Machine
end
section
/-! PROOFS. The LAST frame at its grant (R168, R169). -/

namespace Sys2Proof.Machine

variable {s t : State} {r : Receiving} {k age serial : Nat} {f : Frame} {p : Bool} {b : Block} {u : Option StreamUnit}
  {last : Option Nat}

/-- The STREAM frame of a slot belongs to the handover that this station receives (R168). -/
def Receiving.takes (r : Receiving) (b : Block) (serial src : Nat) : Prop :=
  r.phase = .receiving ∧ r.b = b ∧ r.serial = serial ∧ r.giver = src

theorem streamMatch_takes (body : f.body = .stream b serial last u) (hand : s.hand = .receiving r)
    (takes : r.takes b serial f.src) : streamMatch f s = some r := by
  obtain ⟨phase, block, same, giver⟩ := takes
  simp [streamMatch, hand, body, phase, block, same, giver]

theorem streamMatch_ended (body : f.body = .stream b serial last u)
    (other : ∀ r, s.hand = .receiving r → ¬ r.takes b serial f.src) : streamMatch f s = none := by
  cases hand : s.hand with
  | receiving r =>
    simp only [streamMatch, hand, body]
    exact if_neg (other r hand)
  | _ => simp [streamMatch, hand]

/-- The state once the unit of the LAST frame, if it has one, is written (R168). -/
def unitWritten (r : Receiving) : Option StreamUnit → State → State
  | some x, s => writeUnit r x s
  | none, s => s

/-- The receiver once that unit is written. -/
def Receiving.written (r : Receiving) : Option StreamUnit → Receiving
  | some x =>
    { r with
      reserved := useReserved x r.reserved
      units := r.units + 1
      title := match x with
        | .titleHeader n _ _ => n
        | _ => r.title }
  | none => r

/-- The unit written changes records and the receiver, and for a marker draws free values. -/
theorem unitWritten_eq (hand : s.hand = .receiving r) (u : Option StreamUnit) : ∃ st fr, unitWritten r u s =
    { s with store := st, free := fr, hand := .receiving (r.written u) } := by
  cases u with
  | some x =>
    obtain ⟨st, fr, unit⟩ := writeUnitRecord_eq r.title x s
    refine ⟨st, fr, ?_⟩
    simp only [unitWritten, writeUnit]
    rw [unit]
    rfl
  | none =>
    refine ⟨s.store, s.free, ?_⟩
    simp only [unitWritten, Receiving.written]
    rw [← hand]

section Grant

variable (slot : getSlot k s = .processing age f p) (body : f.body = .stream b serial last u)
include slot body

/-- The frame of a handover that has ended is discarded (R184). -/
theorem streamWrite_ended (none_ : streamMatch f s = none) : streamWrite k s = freeSlot k s := by
  simp [streamWrite, slot, body, none_]

/-- A frame whose block has a freeing that waits asks again behind it (log entry 19). -/
theorem streamWrite_behind (found : streamMatch f s = some r) (waits : s.arb.stream.contains (.free b) = true) :
    streamWrite k s = { s with arb := { s.arb with stream := s.arb.stream ++ [.write k] } } := by
  simp only [streamWrite, slot, body, found, waits, if_true]

end Grant

/-- The LAST frame has its unit written, and then the count decides (R169). -/
theorem streamWrite_last {total : Nat} (slot : getSlot k s = .processing age f p)
    (body : f.body = .stream b serial (some total) u) (hand : s.hand = .receiving r)
    (takes : r.takes b serial f.src) (idle : s.arb.stream.contains (.free b) = false) :
    streamWrite k s = if (r.written u).units = total then takeBlock k (r.written u) (unitWritten r u s)
      else rejectBlock k (r.written u) (unitWritten r u s) := by
  have found := streamMatch_takes body hand takes
  cases u with
  | some x =>
    simp only [streamWrite, slot, body, found, idle]
    rfl
  | none =>
    simp only [streamWrite, slot, body, found, idle, hand]
    rfl

/-- What the grant of a LAST frame does with the block, before the grant ends (R169). -/
structure LastDecided (k : Nat) (r r1 : Receiving) (u : Option StreamUnit) (total : Nat) (s t : State) : Prop where
  store : t.store = (unitWritten r u s).store
  queue : t.queue = s.queue
  held : HeldOn s t
  taken : r1.units = total → Taken r1 (unitWritten r u s) t ∧ ∃ j ∈ t.line.sendq, j.frame.dest = .station r1.giver ∧
    j.frame.body = .ans (decisionAns .home r1.b r1.serial)
  rejected : r1.units ≠ total → Discarded r1 (unitWritten r u s) t ∧ ∃ j ∈ t.line.sendq,
    j.frame.dest = .station r1.giver ∧ j.frame.body = .ans (decisionAns .badCount r1.b r1.serial)

theorem lastDecided_streamWrite {total : Nat} (slot : getSlot k s = .processing age f p)
    (body : f.body = .stream b serial (some total) u) (hand : s.hand = .receiving r)
    (takes : r.takes b serial f.src) (idle : s.arb.stream.contains (.free b) = false) :
    LastDecided k r (r.written u) u total s (streamWrite k s) := by
  obtain ⟨st, fr, unit⟩ := unitWritten_eq hand u
  have busy : getSlot k (unitWritten r u s) ≠ .free := by
    rw [unit]
    show getSlot k s ≠ .free
    simp [slot]
  have queue : (unitWritten r u s).queue = s.queue := by rw [unit]
  have held : HeldOn s (unitWritten r u s) := .of_arb (by rw [unit])
  rw [streamWrite_last slot body hand takes idle]
  split
  · rename_i all
    have taken := taken_blockTaken (r.written u) (unitWritten r u s)
    have decided := decided_placeAns (k := k) (s := blockTaken (r.written u) (unitWritten r u s))
      (by rwa [getSlot, blockTaken_line]) .home (r.written u)
    have both := taken.decided decided
    exact ⟨both.store, both.queue.trans queue, held.trans both.held, fun _ => ⟨both, decided.ans⟩,
      fun short => absurd all short⟩
  · rename_i short
    have discarded := discarded_discardBlock (r.written u) (unitWritten r u s)
    have decided := decided_placeAns (k := k) (s := discardBlock (r.written u) (unitWritten r u s))
      (by rwa [getSlot, discardBlock_line]) .badCount (r.written u)
    have both := discarded.decided decided
    exact ⟨both.store, both.queue.trans queue, held.trans both.held, fun all => absurd all short,
      fun _ => ⟨both, decided.ans⟩⟩

end Sys2Proof.Machine
end
section
/-! PROOFS. The end of CONFIRMING (R170), and what a census leaves of views, records and the engine (R158, R159). -/

namespace Sys2Proof.Machine

variable {s t u : State} {r : Receiving} {b : Block} {c : Nat} {res : Option (List Claim)} {timer : Bool}

/-! ## What a census leaves -/

/-- Records, views and the handover engine are as they were. -/
structure BlocksKept (s t : State) : Prop where
  store : t.store = s.store
  views : t.map.views = s.map.views
  hand : t.hand = s.hand

namespace BlocksKept

@[refl] theorem refl (s : State) : BlocksKept s s := ⟨rfl, rfl, rfl⟩

theorem trans (h : BlocksKept s t) (k : BlocksKept t u) : BlocksKept s u :=
  ⟨k.store.trans h.store, k.views.trans h.views, k.hand.trans h.hand⟩

theorem after (h : BlocksKept t u) (store : t.store = s.store) (views : t.map.views = s.map.views)
    (hand : t.hand = s.hand) : BlocksKept s u := BlocksKept.trans ⟨store, views, hand⟩ h

theorem setRun (c : Nat) (x : Run) (s : State) : BlocksKept s (setRun c x s) := by
  unfold Machine.setRun
  split <;> exact ⟨rfl, rfl, rfl⟩

theorem endTransaction (c : Nat) (o : OutcomeCode) (why : Option Reason) (v : Values) (s : State) :
    BlocksKept s (endTransaction c o why v s) := by
  unfold Machine.endTransaction
  repeat' split
  all_goals exact ⟨rfl, rfl, rfl⟩

theorem placeOrWait (f : Frame) (o : Owner) (w : Waiter) (s : State) : BlocksKept s (placeOrWait f o w s) := by
  obtain ⟨l, placed, -⟩ := placeOrWait_eq f o w s
  rw [placed]
  exact ⟨rfl, rfl, rfl⟩

theorem askCensus (b : Block) (a : Asker) (s : State) : BlocksKept s (askCensus b a s) := by
  obtain ⟨l, cs, w, asked⟩ := askCensus_eq b a s
  rw [asked]
  exact ⟨rfl, rfl, rfl⟩

theorem deferStep (c : Nat) (s : State) : BlocksKept s (deferStep c s) := by
  unfold Machine.deferStep
  repeat' split
  · exact (setRun c _ s).trans (endTransaction ..)
  · exact setRun c _ s
  · rfl

theorem censusStep (c : Nat) (b : Block) (s : State) : BlocksKept s (censusStep c b s) := by
  unfold Machine.censusStep
  repeat' split
  · exact (setRun c _ s).trans (endTransaction ..)
  · exact (setRun c _ s).trans (askCensus ..)
  · rfl

theorem sendStep (c dest : Nat) (o : OwnerOp) (s : State) : BlocksKept s (sendStep c dest o s) := by
  unfold Machine.sendStep
  split
  · exact (setRun c _ s).trans (placeOrWait ..)
  · rfl

theorem resolveStep (c : Nat) (s : State) : BlocksKept s (resolveStep c s) := by
  unfold Machine.resolveStep
  repeat' split
  · exact (setRun c _ s).trans ⟨rfl, rfl, rfl⟩
  · exact (setRun c _ s).trans ⟨rfl, rfl, rfl⟩
  · exact sendStep ..
  · exact censusStep ..
  · exact deferStep ..
  · exact deferStep ..
  · rfl
  · rfl

theorem censusToContext (c : Nat) (res : Option (List Claim)) (s : State) : BlocksKept s (censusToContext c res s) := by
  unfold Machine.censusToContext
  repeat' split
  · exact endTransaction ..
  · exact resolveStep c s
  · exact setRun c _ s
  · rfl
  · rfl

theorem censusToProbe (b : Block) (res : Option (List Claim)) (s : State) : BlocksKept s (censusToProbe b res s) := by
  unfold Machine.censusToProbe
  repeat' split
  all_goals exact ⟨rfl, rfl, rfl⟩

/-- Every requester but the engine that confirms leaves it as it was. -/
theorem censusToAsker {a : Asker} (other : a ≠ .confirming) (b : Block) (res : Option (List Claim)) (s : State) :
    BlocksKept s (censusToAsker b res a s) := by
  cases a with
  | context c => exact censusToContext c res s
  | entry id => exact ⟨rfl, rfl, rfl⟩
  | probe => exact censusToProbe b res s
  | confirming => exact absurd rfl other

theorem openCensus (b : Block) (l : List Asker) (s : State) : BlocksKept s (openCensus b l s) :=
  (placeOrWait _ _ _ _).after rfl rfl rfl

theorem giveFreePlace (s : State) : BlocksKept s (giveFreePlace s) := by
  unfold Machine.giveFreePlace
  split
  · rfl
  · exact (openCensus _ _ _).after rfl rfl rfl

theorem endPlace (b : Block) (s : State) : BlocksKept s (endPlace b s) := by
  unfold Machine.endPlace
  repeat' split
  · exact (placeOrWait (censusFrame b s) (.census b) (.census b) _).after rfl rfl rfl
  · exact (giveFreePlace _).after rfl rfl rfl
  · rfl

theorem freeSlot (k : Nat) (s : State) : BlocksKept s (freeSlot k s) := by
  unfold Machine.freeSlot
  obtain ⟨l, a, begun, -⟩ := beginStream_eq (releaseSlot k s)
  rw [begun]
  unfold releaseSlot
  repeat' split
  all_goals exact ⟨rfl, rfl, rfl⟩

/-- A walk keeps them where the engine is receiving no units. -/
theorem walk (idle : ¬ s.takesUnits) : BlocksKept s (walk s) := by
  have walks := walks_walk s
  obtain ⟨hand, views, -⟩ := walks.quiet idle
  exact ⟨walks.store, views, hand⟩

theorem viewOf (h : BlocksKept s t) : viewOf b t = viewOf b s := viewOf_of_views h.views

end BlocksKept

/-! ## The requesters of a census and the engine that confirms (R170) -/

theorem censusToConfirming_starts (hand : s.hand = .receiving { r with phase := .confirming timer }) :
    censusToConfirming r.b s = setHand (.receiving { r with phase := .confirming true }) s := by
  simp [censusToConfirming, hand]

/-- The requesters that take a result leave an idle engine idle. -/
theorem blocksKept_askers_idle (l : List Asker) (idle : s.hand = .idle) :
    BlocksKept s (l.foldl (fun s a => censusToAsker b res a s) s) := by
  induction l generalizing s with
  | nil => exact .refl s
  | cons a l ih =>
    have first : BlocksKept s (censusToAsker b res a s) := by
      by_cases confirms : a = .confirming
      · subst confirms
        simp only [censusToAsker, censusToConfirming, idle]
        exact .refl s
      · exact .censusToAsker confirms b res s
    exact first.trans (ih (first.hand.trans idle))

/-- The engine that confirms does so on, its 2 s started again where it had asked for the census (R170). -/
def confirmsOn (r : Receiving) (again : Prop) (s t : State) : Prop :=
  t.store = s.store ∧ t.map.views = s.map.views ∧
    ∃ timer, t.hand = .receiving { r with phase := .confirming timer } ∧ (again → timer = true)

theorem BlocksKept.confirmsOn {again : Prop} (h : BlocksKept t u) (on : confirmsOn r again s t) : confirmsOn r again s u := by
  obtain ⟨store, views, timer, hand, starts⟩ := on
  exact ⟨h.store.trans store, h.views.trans views, timer, h.hand.trans hand, starts⟩

theorem confirmsOn_askers (l : List Asker) (hand : s.hand = .receiving { r with phase := .confirming timer }) :
    confirmsOn r (timer = true ∨ .confirming ∈ l) s (l.foldl (fun s a => censusToAsker r.b res a s) s) := by
  induction l generalizing s timer with
  | nil => exact ⟨rfl, rfl, timer, hand, fun again => by simpa using again⟩
  | cons a l ih =>
    by_cases confirms : a = .confirming
    · subst confirms
      have starts : censusToAsker r.b res .confirming s = _ := censusToConfirming_starts hand
      rw [List.foldl_cons, starts]
      obtain ⟨store, views, timer', hand', starts'⟩ := ih (s := setHand _ s) (timer := true) rfl
      exact ⟨store, views, timer', hand', fun _ => starts' (.inl rfl)⟩
    · have first := BlocksKept.censusToAsker confirms r.b res s
      obtain ⟨store, views, timer', hand', starts'⟩ := ih (first.hand.trans hand)
      refine ⟨store.trans first.store, views.trans first.views, timer', hand', fun again => starts' ?_⟩
      exact again.imp id fun mem => (List.mem_cons.1 mem).resolve_left (Ne.symm confirms)

/-- The result of a census leaves a view that is HOME (R159). -/
theorem applyCensus_home (view : viewOf b s = .home) : applyCensus b res s = s := by
  simp [applyCensus, view]

theorem blocksKept_censusEnded_idle (idle : s.hand = .idle) (view : viewOf b s = .home) :
    BlocksKept s (censusEnded b res s) := by
  rw [censusEnded, applyCensus_home view]
  exact (blocksKept_askers_idle _ idle).trans (.endPlace _ _)

theorem confirmsOn_censusEnded (hand : s.hand = .receiving { r with phase := .confirming timer })
    (view : viewOf r.b s = .home) :
    confirmsOn r (timer = true ∨ .confirming ∈ askersOf r.b s) s (censusEnded r.b res s) := by
  rw [censusEnded, applyCensus_home view]
  exact (BlocksKept.endPlace _ _).confirmsOn (confirmsOn_askers _ hand)

/-! ## The end of a window (R149, R150, R170) -/

variable {w : Window} {own : Option ClaimKind} {claims : List Claim}

/-- A window of a block that is HOME here resolves no probe (R175). -/
theorem observeProbe_home (view : viewOf b s = .home) (others : List Claim) : observeProbe b others s = s := by
  simp [observeProbe, view]

theorem filter_others (others : ∀ c ∈ claims, c.station ≠ stationNo s) :
    (claims.filter fun c => c.station != stationNo s) = claims :=
  List.filter_eq_self.2 fun c mem => bne_iff_ne.2 (others c mem)

/-- At the sender the window ends its census, the engine that confirms told first (R150, R170). -/
theorem windowEnds_sender (sender : w.sender = true) (view : viewOf w.b s = .home)
    (others : ∀ c ∈ claims, c.station ≠ stationNo s) : ∃ l res, windowEnds w own claims s =
      walk (censusEnded w.b res (confirmAlone w.b own claims { s with line := l })) := by
  have quiet : ∀ l, observeProbe w.b claims { s with line := l } = { s with line := l } :=
    fun l => observeProbe_home (s := { s with line := l }) view claims
  cases sends : sending s with
  | some i =>
    refine ⟨(endTurn (dropSend i.id { s with line := { s.line with window := none } })).line,
      some (ownClaim own s ++ claims), ?_⟩
    simp only [windowEnds, sender, if_true, filter_others others, sends]
    exact congrArg (fun v => walk (censusEnded w.b _ (confirmAlone w.b own claims v))) (quiet _)
  | none =>
    refine ⟨{ s.line with window := none }, some (ownClaim own s ++ claims), ?_⟩
    simp only [windowEnds, sender, if_true, filter_others others, sends]
    exact congrArg (fun v => walk (censusEnded w.b _ (confirmAlone w.b own claims v))) (quiet _)

/-- At a station that took the CENSUS the window frees its slot, the engine that confirms told (R149, R170). -/
theorem windowEnds_taker (sender : w.sender = false) (view : viewOf w.b s = .home)
    (others : ∀ c ∈ claims, c.station ≠ stationNo s) : ∃ v, BlocksKept s v ∧ windowEnds w own claims s =
      walk (confirmAlone w.b own claims v) := by
  have quiet : ∀ v, BlocksKept s v → observeProbe w.b claims v = v := fun v kept =>
    observeProbe_home (kept.viewOf.trans view) claims
  cases slot : w.slot with
  | some k =>
    have kept : BlocksKept s (freeSlot k { s with line := { s.line with window := none } }) :=
      (BlocksKept.freeSlot _ _).after rfl rfl rfl
    refine ⟨_, kept, ?_⟩
    simp [windowEnds, sender, filter_others others, slot, quiet _ kept]
  | none =>
    have kept : BlocksKept s { s with line := { s.line with window := none } } := ⟨rfl, rfl, rfl⟩
    refine ⟨_, kept, ?_⟩
    simp [windowEnds, sender, filter_others others, slot, quiet _ kept]

/-- A window in which this station alone claims ends the confirmation (R170). -/
theorem confirmAlone_nil {k : ClaimKind} (hand : s.hand = .receiving r) (phase : r.phase = .confirming timer) :
    confirmAlone r.b (some k) [] s = setHand .idle s := by
  simp [confirmAlone, endConfirming, hand, phase]

theorem confirmAlone_some (some_ : claims ≠ []) : confirmAlone b own claims s = s := by
  simp [confirmAlone, some_]

theorem not_takesUnits_of_confirming (hand : s.hand = .receiving { r with phase := .confirming timer }) :
    ¬ s.takesUnits := by
  rintro ⟨r', receives, phase⟩
  rw [hand] at receives
  injection receives with same
  rw [← same] at phase
  cases phase

theorem not_takesUnits_of_idle (idle : s.hand = .idle) : ¬ s.takesUnits := by
  rintro ⟨r, receives, -⟩
  cases idle.symm.trans receives

/-- The window of an engine that confirms, in which no other station claims, makes it idle (R170). -/
theorem windowEnds_alone {k : ClaimKind} (hand : s.hand = .receiving r) (phase : r.phase = .confirming timer)
    (block : w.b = r.b) (view : viewOf r.b s = .home) :
    (windowEnds w (some k) [] s).store = s.store ∧ viewOf r.b (windowEnds w (some k) [] s) = .home ∧
      (windowEnds w (some k) [] s).hand = .idle := by
  have nobody : ∀ c ∈ ([] : List Claim), c.station ≠ stationNo s := fun _ mem => nomatch mem
  have ended : ∃ u, BlocksKept (setHand .idle s) u ∧ windowEnds w (some k) [] s = walk u := by
    rw [← block] at view
    cases sender : w.sender with
    | true =>
      obtain ⟨l, res, ends⟩ := windowEnds_sender (own := some k) sender view nobody
      have alone : confirmAlone w.b (some k) [] { s with line := l } = setHand .idle { s with line := l } :=
        block ▸ confirmAlone_nil (s := { s with line := l }) hand phase
      refine ⟨_, ?_, ends⟩
      rw [alone]
      exact (blocksKept_censusEnded_idle (s := setHand .idle { s with line := l }) rfl view).after rfl rfl rfl
    | false =>
      obtain ⟨v, kept, ends⟩ := windowEnds_taker (own := some k) sender view nobody
      have alone : confirmAlone w.b (some k) [] v = setHand .idle v :=
        block ▸ confirmAlone_nil (kept.hand.trans hand) phase
      exact ⟨_, alone ▸ ⟨kept.store, kept.views, rfl⟩, ends⟩
  obtain ⟨u, kept, ends⟩ := ended
  have all := kept.trans (.walk (not_takesUnits_of_idle kept.hand))
  rw [ends]
  exact ⟨all.store, all.viewOf.trans view, all.hand⟩

/-- A window with other claimants leaves the engine confirming (R170). -/
theorem windowEnds_claimed (hand : s.hand = .receiving r) (phase : r.phase = .confirming timer) (block : w.b = r.b)
    (view : viewOf r.b s = .home) (others : ∀ c ∈ claims, c.station ≠ stationNo s) (some_ : claims ≠ []) :
    confirmsOn r (w.sender = true ∧ .confirming ∈ askersOf r.b s) s (windowEnds w own claims s) := by
  have confirms : s.hand = .receiving { r with phase := .confirming timer } := by rw [hand, ← phase]
  have ended : ∃ u, confirmsOn r (w.sender = true ∧ .confirming ∈ askersOf r.b s) s u ∧
      windowEnds w own claims s = walk u := by
    rw [← block] at view
    cases sender : w.sender with
    | true =>
      obtain ⟨l, res, ends⟩ := windowEnds_sender (own := own) sender view others
      rw [confirmAlone_some some_, block] at ends
      obtain ⟨store, views, timer', hand', starts⟩ :=
        confirmsOn_censusEnded (s := { s with line := l }) (res := res) confirms (block ▸ view)
      exact ⟨_, ⟨store, views, timer', hand', fun again => starts (.inr again.2)⟩, ends⟩
    | false =>
      obtain ⟨v, kept, ends⟩ := windowEnds_taker (own := own) sender view others
      rw [confirmAlone_some some_] at ends
      exact ⟨v, ⟨kept.store, kept.views, timer, kept.hand.trans confirms, fun again => nomatch again.1⟩, ends⟩
  obtain ⟨u, on, ends⟩ := ended
  rw [ends]
  obtain ⟨-, -, timer', hand', -⟩ := id on
  exact (BlocksKept.walk (not_takesUnits_of_confirming hand')).confirmsOn on

end Sys2Proof.Machine
end
section
/-! PROOFS. The LAST frame, the idle limit and the end of CONFIRMING (R168 to R172; O60). -/

namespace Sys2Proof.Machine

variable {s : State} {r : Receiving} {u : Option StreamUnit} {k age serial E total : Nat} {f : Frame} {p : Bool} {b : Block}

theorem exec_idleLimit (hand : s.hand = .receiving r) (phase : r.phase = .receiving) :
    exec .idleLimit s = .next (refreshAttention (discardBlock r s)) := by
  show execIdleLimit s = _
  simp [execIdleLimit, hand, phase, finish]

theorem exec_censusWindowEnd {w : Window} {own : Option ClaimKind} {claims : List Claim} (window : s.line.window = some w)
    (lane : w.lane = some own) :
    exec (.censusWindowEnd claims) s = .next (refreshAttention (windowEnds w own claims s)) := by
  show execCensusWindowEnd claims s = _
  simp [execCensusWindowEnd, window, lane, finish]

theorem written_units (r : Receiving) (u : Option StreamUnit) :
    (r.written u).units = r.units + (match u with | none => 0 | some _ => 1) := by
  cases u <;> rfl

theorem written_same (r : Receiving) (u : Option StreamUnit) :
    (r.written u).b = r.b ∧ (r.written u).giver = r.giver ∧ (r.written u).serial = r.serial := by
  cases u <;> exact ⟨rfl, rfl, rfl⟩

/-- The unit of the LAST frame is written as it is without the mark (R169). -/
theorem bare_unit_store {x : StreamUnit} (held : s.arb.held = some ⟨.stream (.write k), E⟩)
    (slot : getSlot k s = .processing age f p) (body : f.body = .stream b serial (some total) (some x))
    (hand : s.hand = .receiving r) (takes : r.takes b serial f.src) (idle : s.arb.stream.contains (.free b) = false) :
    ∃ v, exec .streamUnitWrite (setSlot k (.processing age { f with body := .stream b serial none (some x) } p) s) =
      .next v ∧ v.store = (writeUnit r x s).store := by
  have lt := lt_of_getSlot (s := s) (k := k) (by simp [slot])
  refine ⟨_, exec_streamUnitWrite held (by simp [lastAt, getSlot_setSlot_same _ lt]), ?_⟩
  have stores := congrArg State.store (streamWrite_bare slot body (streamMatch_takes body hand takes) idle)
  exact stores

/-- An ANS carrying HOME delivered to the giver ends the confirmation (R170). -/
theorem frameDelivered_home {i : SendItem} {a : Ans} {timer : Bool} (hand : s.hand = .receiving r)
    (phase : r.phase = .confirming timer) (owner : i.owner = .handover) (dest : i.frame.dest = .station r.giver)
    (body : i.frame.body = .ans a) (home : a.answer = .exchange .home r.b r.serial) :
    frameDelivered i s = walk (setHand .idle (endTurn (dropSend i.id s))) := by
  rw [frameDelivered_other (by simp [body])]
  simp [reportDelivered, owner, handoverDelivered, body, home, dest, homeDelivered, endConfirming, hand, phase]

/-- Settles O60: the LAST frame by `lastDecided_streamWrite`, and the end of the confirmation by `frameDelivered_home`,
`windowEnds_alone` and `windowEnds_claimed`. -/
theorem lastFrameDecides : Obligations.LastFrameDecides := by
  refine ⟨fun s r hand phase => ⟨fun k E age f p total u held slot src body idle => ?decides, ?limit⟩,
    fun s k E age f p b serial total u held slot body => ?otherwise,
    fun s r timer hand phase => ⟨fun i a sends turn free owner dest body home => ?delivered,
      fun w k claims window block lane view others => ?window⟩⟩
  case decides =>
    have takes : r.takes r.b r.serial f.src := ⟨phase, rfl, rfl, src.symm⟩
    have decided := lastDecided_streamWrite slot body hand takes idle
    obtain ⟨st, fr, unit⟩ := unitWritten_eq hand u
    obtain ⟨block, giver, serial⟩ := written_same r u
    have units := written_units r u
    have holds := decided.held _ held
    refine ⟨_, exec_streamLast held (lastAt_eq slot body), decided.queue, ?_, ?_, fun all => ?_, fun short => ?_⟩
    · rintro rfl
      exact decided.store
    · intro some_
      obtain ⟨x, rfl⟩ := Option.ne_none_iff_exists'.1 some_
      obtain ⟨v, wrote, store⟩ := bare_unit_store held slot body hand takes idle
      exact ⟨v, wrote, decided.store.trans store.symm⟩
    · obtain ⟨taken, ans⟩ := decided.taken (units.trans all)
      have view := taken.view
      have notices := taken.notices
      have sweep := taken.sweep
      rw [block, giver, serial] at ans
      rw [block] at view
      rw [block, giver, units, unit] at notices
      rw [unit] at sweep
      exact ⟨view, sweep.of_eq rfl rfl rfl rfl rfl rfl fun asks => asks.endGrant holds Work.noConfusion,
        ⟨_, taken.hand, rfl, rfl, block, giver, serial, units⟩, notices, ans⟩
    · obtain ⟨discarded, ans⟩ := decided.rejected fun all => short (units.symm.trans all)
      have view := discarded.view
      have notices := discarded.notices
      have frees := discarded.frees
      rw [block, giver, serial] at ans
      rw [block, giver] at view
      rw [block, giver, units, unit] at notices
      rw [block] at frees
      have other : Work.stream (.write k) ≠ .stream (.free r.b) := by simp
      exact ⟨view, discarded.hand, fun some_ => Arbiter.asks_stream.1 ((frees some_).endGrant holds other), notices, ans⟩
  case limit =>
    have discarded := discarded_discardBlock r s
    exact ⟨_, exec_idleLimit hand phase, discarded.view, discarded.hand, discarded.store, discarded.queue,
      fun some_ => Arbiter.asks_stream.1 (discarded.frees (by rwa [recordsOf_of_store discarded.store])),
      discarded.notices⟩
  case otherwise =>
    refine ⟨_, exec_streamLast held (lastAt_eq slot body), fun other => ?_, fun r hand takes waits => ?_⟩
    · obtain ⟨l, a, freed, sendq, -, released⟩ := freeSlot_eq (s := s) (k := k) (by simp [slot])
      rw [streamWrite_ended slot body (streamMatch_ended body other)]
      refine ⟨?_, released⟩
      rw [freed]
      exact ⟨rfl, rfl, rfl, rfl, sendq, rfl⟩
    · rw [streamWrite_behind slot body (streamMatch_takes body hand takes) waits]
      exact ⟨⟨rfl, rfl, rfl, rfl, rfl, rfl⟩, rfl, streamAsked_endGrant (by simp)⟩
  case delivered =>
    refine ⟨_, exec_frameDelivered sends turn free, ?_⟩
    rw [frameDelivered_home hand phase owner dest body home]
    have kept := BlocksKept.walk (s := setHand .idle (endTurn (dropSend i.id s))) (not_takesUnits_of_idle rfl)
    exact ⟨kept.hand, kept.views, kept.store⟩
  case window =>
    refine ⟨_, exec_censusWindowEnd window lane, ?_⟩
    by_cases alone : claims = []
    · subst alone
      obtain ⟨store, home, idle⟩ := windowEnds_alone (k := k) hand phase block view
      exact ⟨home, store, fun _ => idle, fun some_ => absurd rfl some_⟩
    · obtain ⟨store, views, timer', on, starts⟩ := windowEnds_claimed (own := some k) hand phase block view others alone
      refine ⟨(viewOf_of_views views).trans view, store, fun none_ => absurd none_ alone, fun _ =>
        ⟨timer', on, fun p sender place asks => starts ⟨sender, ?_⟩⟩⟩
      rw [askersOf, place]
      exact asks

end Sys2Proof.Machine
end
section
/-! PROOFS. The sweep's examination of a record with the units not counted (R59 to R63). -/

namespace Sys2Proof.Machine

variable {s t u : State} {E n fuel : Nat} {r : Space × Nat} {pos : SweepPos}

/-! ## What an examination and a burst leave alone -/

/-- The records, the capture, the dispatch queue and the port alone can differ. -/
def OnlyRecords (s t : State) : Prop :=
  ∃ st c q p, t = { s with store := st, capture := c, queue := q, port := p }

theorem OnlyRecords.refl (s : State) : OnlyRecords s s := ⟨s.store, s.capture, s.queue, s.port, rfl⟩

theorem OnlyRecords.trans (h : OnlyRecords s t) (k : OnlyRecords t u) : OnlyRecords s u := by
  obtain ⟨_, _, _, _, rfl⟩ := h
  obtain ⟨_, _, _, _, rfl⟩ := k
  exact ⟨_, _, _, _, rfl⟩

theorem Examines.onlyRecords {paid : Bool} (h : Examines E r s t paid) : OnlyRecords s t := by
  cases h with
  | idle => exact .refl s
  | marksItem x f | marksTitle x f =>
    obtain ⟨c, p, fault⟩ := recordFault_eq f _
    rw [fault]
    exact ⟨_, _, _, _, rfl⟩
  | @bringsItem n s x =>
    obtain ⟨q, up⟩ := touched_eq E n x s
    rw [up]
    exact ⟨_, _, _, _, rfl⟩

theorem onlyRecords_examine (units : Option Nat) (walked : r.1 ≠ .patron) : OnlyRecords s (examine E r units s).1 := by
  by_cases spent : units = some 0
  · rw [spent, examine_zero]
    exact .refl s
  rcases examine_cases E s walked with ⟨t, paid, stop, case, eq⟩ | ⟨n, x, rfl, at_, eq⟩
  · rw [eq _ spent]
    exact case.onlyRecords
  · rw [eq _ spent]
    obtain ⟨ds, y, left⟩ := expireTitle_expires (E := E) (room := 3) (dayRoom := 3)
      (fuel := units.elim (x.holds.length + 1) (min (x.holds.length + 1))) at_.found at_.checks
    obtain ⟨q, l, frame⟩ := left.frame
    exact ⟨_, _, _, _, frame⟩

theorem onlyRecords_burst (units : Option Nat) (pos : SweepPos) (s : State) :
    OnlyRecords s (burst E fuel units pos s).1 := by
  induction fuel generalizing units pos s with
  | zero =>
    rw [burst_out]
    exact .refl s
  | succ fuel ih =>
    cases next : nextRecord s pos with
    | none =>
      rw [burst_none _ _ next]
      exact .refl s
    | some r =>
      have first := onlyRecords_examine (E := E) (s := s) units (nextRecord_some next).1
      rw [burst_succ _ _ next]
      split
      · exact first
      · exact first.trans (ih _ _ _)

/-! ## Titles -/

theorem Title.SweptTo.checks {x y : Title} {ds : List Dispatch} (h : x.SweptTo E n ds y) (checks : x.checks = true) :
    y.checks = true := by
  induction h with
  | stays t => exact checks
  | current t => exact checks
  | removes t u h ds expired rest ih => exact ih (Title.afterExpiry_checks checks)

/-- With a unit for each entry and one for the day, the removals stop only for want of places (R60, R63). -/
theorem expireTitle_stopped {x : Title} (found : getTitle n s = some x) (checks : x.checks = true)
    (enough : x.holds.length < fuel) (stops : (expireTitle E n 3 3 fuel s).2 = true) :
    freePlaces (expireTitle E n 3 3 fuel s).1 < 3 := by
  induction fuel generalizing s x with
  | zero => omega
  | succ fuel ih =>
    rw [expireTitle_succ found] at stops ⊢
    cases expired : x.expired E with
    | none =>
      simp only [expired] at stops ⊢
      split at stops
      · rename_i full
        rwa [if_pos full]
      · cases stops
    | some h =>
      have fewer := (Title.afterExpiry_length (n := n) (t := x) (h := h)).trans_lt
        (Title.dropEntry_length_lt (Title.mem_of_expired expired))
      simp only [expired] at stops ⊢
      split at stops
      · rename_i full
        rwa [if_pos full]
      · rename_i room
        rw [if_neg room]
        exact ih (getTitle_afterRemoval checks) (Title.afterExpiry_checks checks) (by omega) stops

/-! ## The examinations -/

/-- A record at which the sweep has nothing to do is passed over. -/
theorem examine_swept (walked : r.1 ≠ .patron) (h : s.sweptAt E r) : examine E r none s = (s, none, false) := by
  have passed := examine_of_sweptAt Nat.one_ne_zero walked h
  obtain ⟨k, left, -, whole⟩ := examine_units (E := E) (s := s) Nat.one_ne_zero walked fun n x hr at_ => by
    subst hr
    rcases h with away | ⟨y, found, marked | ⟨-, current⟩⟩
    · exact absurd at_.home away
    · obtain rfl := Option.some.inj (at_.found.symm.trans found)
      exact absurd (at_.whole.symm.trans marked) Bool.false_ne_true
    · obtain rfl := Option.some.inj (at_.found.symm.trans found)
      exact absurd current at_.stale
  rw [passed] at left whole
  injection left with left
  exact whole (left ▸ Nat.one_pos)

section Item

variable {x : Item} (found : getItem n s = some x) (home : viewOf (blockOf .item n) s = .home)
  (whole : x.quarantined = false)
include found home whole

theorem examine_item_fails (fails : x.check ≠ .agrees) : examine E (.item, n) none s =
    (recordFault ⟨.checkFailed, .item, n, .sweep, E, none⟩ (markItem n x s), none, false) := by
  simp [examine, examineItem, home, fetchItem_failing found whole fails, spend]

theorem examine_item_full (agrees : x.check = .agrees) (stale : x.currentTo ≠ E) (full : freePlaces s < 3) :
    examine E (.item, n) none s = (s, none, true) := by
  simp [examine, examineItem, home, fetchItem_read found (.inr agrees), whole, stale, full]

theorem examine_item_brings (agrees : x.check = .agrees) (stale : x.currentTo ≠ E) (room : 3 ≤ freePlaces s) :
    examine E (.item, n) none s = (touched E n x s, none, false) := by
  simp [examine, examineItem, home, fetchItem_read found (.inr agrees), whole, stale, Nat.not_lt.2 room, touched, spend]

end Item

section Title

variable {x : Title} (found : getTitle n s = some x) (home : viewOf (blockOf .title n) s = .home)
  (whole : x.quarantined = false)
include found home whole

theorem examine_title_fails (fails : x.checks = false) : examine E (.title, n) none s =
    (recordFault ⟨.checkFailed, .title, n, .sweep, E, none⟩ (markTitle n x s), none, false) := by
  simp [examine, examineTitle, home, fetchTitle_failing found whole fails, spend]

theorem examine_title_full (checks : x.checks = true) (stale : x.currentTo ≠ E) (full : freePlaces s < 3) :
    examine E (.title, n) none s = (s, none, true) := by
  simp [examine, examineTitle, home, fetchTitle_read found (.inr checks), whole, stale, full]

theorem examine_title_expires (checks : x.checks = true) (stale : x.currentTo ≠ E) (room : 3 ≤ freePlaces s) :
    examine E (.title, n) none s = ((expireTitle E n 3 3 (x.holds.length + 1) s).1, none,
      (expireTitle E n 3 3 (x.holds.length + 1) s).2) := by
  simp [examine, examineTitle, home, fetchTitle_read found (.inr checks), whole, stale, Nat.not_lt.2 room]

end Title

/-- An item or a title that is in the store. -/
def State.names (s : State) (r : Space × Nat) : Prop :=
  match r.1 with
  | .item => ∃ x, getItem r.2 s = some x
  | .title => ∃ x, getTitle r.2 s = some x
  | .patron => False

theorem walked_of_names (h : s.names r) : r.1 ≠ .patron := by
  intro patron
  obtain ⟨sp, n⟩ := r
  obtain rfl : sp = .patron := patron
  exact h

theorem viewOf_of_onlyRecords (h : OnlyRecords s t) (b : Block) : viewOf b t = viewOf b s := by
  obtain ⟨_, _, _, _, rfl⟩ := h
  rfl

/-- What an examination leaves: nothing for the sweep to do at its record, or, where it stops, a want of places (R60). -/
structure Examination (E : Nat) (r : Space × Nat) (s : State) (z : Examined) : Prop where
  units : z.2.1 = none
  goes : z.2.2 = false → z.1.sweptAt E r
  stops : z.2.2 = true → ¬ z.1.sweptAt E r ∧ freePlaces z.1 < 3 ∧ (r.1 = .item → s.sameRecord z.1 r)

/-- An examination that goes on has left nothing to do. -/
theorem Examination.going (swept : t.sweptAt E r) : Examination E r s (t, none, false) :=
  ⟨rfl, fun _ => swept, nofun⟩

/-- An examination that stops has found the places wanting. -/
theorem Examination.full (stale : ¬ s.sweptAt E r) (full : freePlaces s < 3) : Examination E r s (s, none, true) :=
  ⟨rfl, nofun, fun _ => ⟨stale, full, fun _ => s.sameRecord_refl r⟩⟩

theorem examination_item {x : Item} (found : getItem n s = some x) (due : ¬ s.sweptAt E (.item, n)) :
    Examination E (.item, n) s (examine E (.item, n) none s) := by
  have home : viewOf (blockOf .item n) s = .home := of_not_not fun away => due (.inl away)
  have whole : x.quarantined = false := by
    rw [← Bool.not_eq_true]
    exact fun marked => due (.inr ⟨x, found, .inl marked⟩)
  by_cases agrees : x.check = .agrees
  · have stale : x.currentTo ≠ E := fun current => due (.inr ⟨x, found, .inr ⟨agrees, current⟩⟩)
    by_cases room : 3 ≤ freePlaces s
    · rw [examine_item_brings found home whole agrees stale room]
      obtain ⟨current, -, check⟩ := bringUp_kept (classRow s x.cls) (calendarOf s) E n x
      exact .going (.inr ⟨_, getItem_touched agrees, .inr ⟨check.trans agrees, current⟩⟩)
    · rw [examine_item_full found home whole agrees stale (Nat.not_le.1 room)]
      exact .full due (Nat.not_le.1 room)
  · rw [examine_item_fails found home whole agrees]
    exact .going (.inr ⟨_, (getItem_recordFault ..).trans (getItem_markItem n x s), .inl rfl⟩)

theorem examination_title {x : Title} (found : getTitle n s = some x) (due : ¬ s.sweptAt E (.title, n)) :
    Examination E (.title, n) s (examine E (.title, n) none s) := by
  have home : viewOf (blockOf .title n) s = .home := of_not_not fun away => due (.inl away)
  have whole : x.quarantined = false := by
    rw [← Bool.not_eq_true]
    exact fun marked => due (.inr ⟨x, found, .inl marked⟩)
  cases checks : x.checks with
  | true =>
    have stale : x.currentTo ≠ E := fun current => due (.inr ⟨x, found, .inr ⟨checks, current⟩⟩)
    by_cases room : 3 ≤ freePlaces s
    · rw [examine_title_expires found home whole checks stale room]
      obtain ⟨ds, y, left⟩ := expireTitle_expires (E := E) (room := 3) (dayRoom := 3) (fuel := x.holds.length + 1)
        found checks
      have only : OnlyRecords s (expireTitle E n 3 3 (x.holds.length + 1) s).1 := by
        obtain ⟨q, l, frame⟩ := left.frame
        exact ⟨_, _, _, _, frame⟩
      refine ⟨rfl, fun done => .inr ⟨y, left.found, .inr ⟨left.swept.checks checks, ?_⟩⟩, fun stops =>
        ⟨?_, expireTitle_stopped found checks (Nat.lt_succ_self _) stops, nofun⟩⟩
      · have current := left.currentTo
        dsimp only at done
        rwa [done] at current
      · have current := left.currentTo
        dsimp only at stops
        rw [stops] at current
        rintro (away | ⟨z, found', marked | ⟨-, day⟩⟩)
        · exact away ((viewOf_of_onlyRecords only _).trans home)
        · obtain rfl := Option.some.inj (left.found.symm.trans found')
          exact absurd (left.quarantined.symm.trans marked) (by simp [whole])
        · obtain rfl := Option.some.inj (left.found.symm.trans found')
          exact stale (current.symm.trans day)
    · rw [examine_title_full found home whole checks stale (Nat.not_le.1 room)]
      exact .full due (Nat.not_le.1 room)
  | false =>
    rw [examine_title_fails found home whole checks]
    exact .going (.inr ⟨_, (getTitle_recordFault ..).trans (getTitle_markTitle n x s), .inl rfl⟩)

theorem examination (names : s.names r) : Examination E r s (examine E r none s) := by
  by_cases due : s.sweptAt E r
  · rw [examine_swept (walked_of_names names) due]
    exact .going due
  obtain ⟨sp, n⟩ := r
  cases sp with
  | item =>
    obtain ⟨x, found⟩ := names
    exact examination_item found due
  | title =>
    obtain ⟨x, found⟩ := names
    exact examination_title found due
  | patron => exact names.elim

end Sys2Proof.Machine
end
section
/-! PROOFS. The records a burst examines, and how it ends (R59, R60). -/

namespace Sys2Proof.Machine

variable {s t u : State} {E n fuel : Nat} {r : Space × Nat} {pos : SweepPos}

theorem names_of_nextRecord (tables : s.tablesOk) (next : nextRecord s pos = some r) : s.names r := by
  obtain ⟨items, titles, -⟩ := tables
  have title : ∀ {n : Nat}, ((tblFrom s.store.titles n).map fun p => ((.title, p.1) : Space × Nat)) = some r →
      s.names r := by
    intro n next
    obtain ⟨p, found, rfl⟩ := Option.map_eq_some_iff.1 next
    exact ⟨p.2, tblGet_of_mem titles (List.mem_of_find?_eq_some found)⟩
  cases pos with
  | item n =>
    simp only [nextRecord] at next
    split at next
    · rename_i k x found
      cases next
      exact ⟨x, tblGet_of_mem items (List.mem_of_find?_eq_some found)⟩
    · exact title next
  | title n => exact title next

/-- Where a burst that was not paused ends (R59). -/
def endAt : Option (Space × Nat) → BurstEnd
  | some r => .goesOn (posAt r)
  | none => .finished

theorem burst_last (units : Option Nat) : burst E 0 units pos s = (s, endAt (nextRecord s pos)) := by
  unfold burst
  cases nextRecord s pos <;> rfl

theorem burst_end (units : Option Nat) (next : nextRecord s pos = none) : burst E fuel units pos s = (s, .finished) := by
  cases fuel <;> simp [burst, next]

theorem burst_step {z : Examined} (next : nextRecord s pos = some r) (examined : examine E r none s = z)
    (none_ : z.2.1 = none) : burst E (fuel + 1) none pos s =
      if z.2.2 then (z.1, .pauses (posAt r)) else burst E fuel none (posAfter r) z.1 := by
  obtain ⟨t, left, stop⟩ := z
  obtain rfl : left = none := none_
  cases stop <;> simp [burst, next, examined]

theorem sweptAt_of_same (same : t.sameRecord u r) (only : OnlyRecords t u) (h : t.sweptAt E r) : u.sweptAt E r := by
  have view := viewOf_of_onlyRecords only (blockOf r.1 r.2)
  unfold State.sweptAt at h ⊢
  rw [view]
  refine h.imp id fun swept => ?_
  obtain ⟨_ | _ | _, n⟩ := r
  · have same : getItem n t = getItem n u := same
    dsimp only at swept ⊢
    rwa [same] at swept
  · have same : getTitle n t = getTitle n u := same
    dsimp only at swept ⊢
    rwa [same] at swept
  · trivial

/-- What a burst from a position does along the walk: the first `k` records have nothing left to do, and it ends after
them, or is paused at the next for want of places (R59, R60). -/
structure BurstWalks (E fuel : Nat) (walk : List (Space × Nat)) (s : State) (z : State × BurstEnd) (k : Nat) : Prop where
  most : k ≤ fuel
  within : k ≤ walk.length
  done : ∀ r ∈ walk.take k, z.1.sweptAt E r
  ends : (k = min fuel walk.length ∧ (∀ r, r ∉ walk.take k → s.sameRecord z.1 r) ∧ z.2 = endAt walk[k]?) ∨
    ∃ r, k < fuel ∧ walk[k]? = some r ∧ ¬ z.1.sweptAt E r ∧ freePlaces z.1 < 3 ∧ (r.1 = .item → s.sameRecord z.1 r) ∧
      (∀ r', r' ∉ walk.take (k + 1) → s.sameRecord z.1 r') ∧ z.2 = .pauses (posAt r)

theorem burstWalks_burst (tables : s.tablesOk) :
    ∃ k, BurstWalks E fuel (s.sweepWalk pos) s (burst E fuel none pos s) k := by
  induction fuel generalizing s pos with
  | zero =>
    refine ⟨0, Nat.le_refl _, Nat.zero_le _, by simp, .inl ⟨by simp, fun r _ => ?_, ?_⟩⟩
    · rw [burst_last]
      exact s.sameRecord_refl r
    · rw [burst_last]
      cases next : nextRecord s pos with
      | none => rw [sweepWalk_nil tables next]; rfl
      | some r => rw [sweepWalk_cons tables next]; rfl
  | succ fuel ih =>
    cases next : nextRecord s pos with
    | none =>
      rw [burst_end _ next, sweepWalk_nil tables next]
      exact ⟨0, Nat.zero_le _, Nat.zero_le _, by simp, .inl ⟨by simp, fun r _ => s.sameRecord_refl r, rfl⟩⟩
    | some r =>
      obtain ⟨walked, -⟩ := nextRecord_some next
      have examined : Examination E r s (examine E r none s) := examination (names_of_nextRecord tables next)
      have others : ∀ r', r' ≠ r → s.sameRecord (examine E r none s).1 r' := fun r' => examine_other none walked
      have tables' := examine_tablesOk E r none tables
      have walk := examine_sweepWalk (E := E) none tables walked (posAfter r)
      rw [burst_step next rfl examined.units, sweepWalk_cons tables next, ← walk]
      generalize examine E r none s = z at *
      split
      · rename_i stops
        obtain ⟨due, full, item⟩ := examined.stops stops
        refine ⟨0, Nat.zero_le _, Nat.zero_le _, by simp, .inr ⟨r, Nat.succ_pos _, rfl, due, full, item, fun r' out =>
          others r' fun same => out ?_, rfl⟩⟩
        rw [same]
        exact List.mem_cons_self
      · rename_i goes
        obtain ⟨k, most, within, done, ends⟩ := ih (s := z.1) (pos := posAfter r) tables'
        have own : z.1.sameRecord (burst E fuel none (posAfter r) z.1).1 r :=
          burst_posAfter fuel none walked (not_sweptBefore_self r)
        have swept := sweptAt_of_same own (onlyRecords_burst none _ _) (examined.goes (by simpa using goes))
        refine ⟨k + 1, Nat.succ_le_succ most, Nat.succ_le_succ within, fun r' mem => ?_, ?_⟩
        · rcases List.mem_cons.1 mem with rfl | mem
          · exact swept
          · exact done r' mem
        have outside : ∀ k r', r' ∉ (r :: z.1.sweepWalk (posAfter r)).take (k + 1) →
            r' ≠ r ∧ r' ∉ (z.1.sweepWalk (posAfter r)).take k := fun k r' out =>
          not_or.1 fun mem => out (List.mem_cons.2 mem)
        refine ends.imp (fun ⟨all, rest, ended⟩ => ⟨?_, fun r' out => ?_, ended⟩)
          fun ⟨r₁, short, at_, due, full, item, rest, ended⟩ =>
            ⟨r₁, Nat.succ_lt_succ short, at_, due, full, fun sp => ?_, fun r' out => ?_, ended⟩
        · rw [all, List.length_cons, Nat.succ_min_succ]
        · obtain ⟨ne, out⟩ := outside k r' out
          exact State.sameRecord_trans (others r' ne) (rest r' out)
        · have later := reaches_of_mem_sweepWalk (List.mem_of_getElem? at_)
          exact State.sameRecord_trans (others r₁ (ne_of_sweptBefore ((reaches_posAfter walked r₁).1 later))) (item sp)
        · obtain ⟨ne, out⟩ := outside (k + 1) r' out
          exact State.sameRecord_trans (others r' ne) (rest r' out)

/-! ## The places that a paused burst finds -/

theorem reservedPlaces_of_queued {e : Entry} (queued : e.phase = .queued) : e.reservedPlaces = 0 := by
  unfold Entry.reservedPlaces
  rw [queued]
  cases e.dir <;> rfl

/-- Dispatches queued take places that were free, and reserve none (R121). -/
theorem places_of_queued {new : List Entry} (only : OnlyRecords s t) (entries : t.queue.entries = s.queue.entries ++ new)
    (queued : ∀ e ∈ new, e.phase = .queued) (full : freePlaces t < 3) :
    freePlaces s + s.queue.entries.length < 3 + t.queue.entries.length := by
  have none_ : (new.map Entry.reservedPlaces).sum = 0 :=
    List.sum_eq_zero fun x mem => by
      obtain ⟨e, new_, rfl⟩ := List.mem_map.1 mem
      exact reservedPlaces_of_queued (queued e new_)
  have reserved : reservations t = reservations s := by
    obtain ⟨st, c, q, p, rfl⟩ := only
    have entries : q.entries = s.queue.entries ++ new := entries
    unfold reservations
    rw [entries, List.map_append, List.sum_append, none_]
    rfl
  unfold freePlaces at full ⊢
  rw [reserved] at full
  rw [entries, List.length_append] at full ⊢
  omega

end Sys2Proof.Machine
end
section
/-! PROOFS. The command of a burst, and its clauses (R58 to R63; O16). -/

namespace Sys2Proof.Machine

variable {s t u : State} {E n fuel : Nat} {r : Space × Nat} {pos : SweepPos}

theorem exec_sweepBurst_eq (held : s.arb.held = some ⟨.sweep, E⟩) : exec .sweepBurst s = .next (refreshAttention
    (endGrant (afterBurst (burst E Config.burst none (s.day.pos.getD .first) s).2
      (burst E Config.burst none (s.day.pos.getD .first) s).1))) := by
  show execSweepBurst s = _
  simp [execSweepBurst, held, finish, runBurst]

/-- What the sweep has done stands as it writes its own state and asks again. -/
theorem State.SweptBy.of_eq {out : List ((Space × Nat) × List Dispatch)} (h : s.SweptBy E out t)
    (store : u.store = t.store) (queue : u.queue = t.queue) (map : u.map = t.map)
    (county : u.day.county = t.day.county) (free : u.free = t.free) : s.SweptBy E out u := by
  have item : ∀ n, getItem n u = getItem n t := fun n => by rw [getItem, store, getItem]
  have title : ∀ n, getTitle n u = getTitle n t := fun n => by rw [getTitle, store, getTitle]
  obtain ⟨stamp, map', county', free'⟩ := h.rest
  exact
    { order := h.order
      entries := queue ▸ h.entries
      items := fun n => item n ▸ h.items n
      titles := fun n => title n ▸ h.titles n
      otherItems := fun n => item n ▸ h.otherItems n
      otherTitles := fun n => title n ▸ h.otherTitles n
      patrons := store ▸ h.patrons
      rest := ⟨store ▸ stamp, map.trans map', county.trans county', free.trans free'⟩ }

/-! ## The sweep's state after a burst -/

/-- The sweep asks for its next grant (R59). -/
def State.sweepAsks (s : State) : Prop := s.arb.sweep = true ∨ ∃ E, s.arb.held = some ⟨.sweep, E⟩

theorem sweepAsks_endGrant (asks : s.arb.sweep = true) : (endGrant s).sweepAsks :=
  Arbiter.asks_sweep.1 (asks_endGrant (w := .sweep) (by simp [Arbiter.waiting, Work.requester, asks]))

/-- The day unit with its sweep written (R58). -/
def DayUnit.swept (d : DayUnit) (sweep : SweepState) (pos : Option SweepPos) : DayUnit :=
  { d with sweep := sweep, pos := pos, restart := false }

/-- A burst that was not paused goes on at the next record, or is finished; a start taken meanwhile begins again
(R58, R59). -/
theorem afterBurst_ended (next : Option (Space × Nat)) (s : State) :
    (s.day.restart = true → (endGrant (afterBurst (endAt next) s)).day = s.day.swept .running (some .first) ∧
      (endGrant (afterBurst (endAt next) s)).sweepAsks) ∧
    (s.day.restart = false →
      (next = none → (endGrant (afterBurst (endAt next) s)).day = s.day.swept .idle none) ∧
      (∀ r, next = some r → (endGrant (afterBurst (endAt next) s)).day = s.day.swept .running (some (posAt r)) ∧
        (endGrant (afterBurst (endAt next) s)).sweepAsks)) := by
  cases next with
  | none =>
    refine ⟨fun again => ?_, fun on => ⟨fun _ => ?_, nofun⟩⟩
    · simp only [endAt, afterBurst, again, if_true]
      exact ⟨rfl, sweepAsks_endGrant rfl⟩
    · simp only [endAt, afterBurst, on]
      rfl
  | some r =>
    refine ⟨fun again => ?_, fun on => ⟨nofun, fun r' same => ?_⟩⟩
    · simp only [endAt, afterBurst, again, if_true]
      exact ⟨rfl, sweepAsks_endGrant rfl⟩
    · obtain rfl := Option.some.inj same
      simp only [endAt, afterBurst, on]
      exact ⟨rfl, sweepAsks_endGrant rfl⟩

/-- A burst that was paused waits at its record, or at the first after a start taken meanwhile (R58, R60). -/
theorem afterBurst_paused (pos : SweepPos) (s : State) : afterBurst (.pauses pos) s =
    { s with day := s.day.swept .paused (some (if s.day.restart then .first else pos)) } := rfl

theorem sweptAt_congr (store : u.store = t.store) (map : u.map = t.map) : u.sweptAt E r ↔ t.sweptAt E r := by
  simp only [State.sweptAt, viewOf, getItem, getTitle, store, map]

theorem sameRecord_of_store (store : u.store = t.store) (r : Space × Nat) : t.sameRecord u r := by
  obtain ⟨_ | _ | _, n⟩ := r <;> simp [State.sameRecord, getItem, getTitle, store]

/-- A burst examines the records of the walk from its position on, and the sweep goes on from where it ended
(R58, R59, R60). -/
theorem sweepBurst_walks (held : s.arb.held = some ⟨.sweep, E⟩) (tables : s.tablesOk) :
    ∃ t k, exec .sweepBurst s = .next t ∧
      let walk := s.sweepWalk (s.day.pos.getD .first)
      k ≤ 64 ∧ k ≤ walk.length ∧ (∀ r ∈ walk.take k, t.sweptAt E r) ∧
        ((k = min 64 walk.length ∧ (∀ r, r ∉ walk.take k → s.sameRecord t r) ∧
            (s.day.restart = true → t.day = s.day.swept .running (some .first) ∧ t.sweepAsks) ∧
            (s.day.restart = false → (walk[k]? = none → t.day = s.day.swept .idle none) ∧
              (∀ r, walk[k]? = some r → t.day = s.day.swept .running (some (posAt r)) ∧ t.sweepAsks))) ∨
          (∃ r, k < 64 ∧ walk[k]? = some r ∧ ¬ t.sweptAt E r ∧
            freePlaces s + s.queue.entries.length < 3 + t.queue.entries.length ∧
            (r.1 = .item → s.sameRecord t r) ∧ (∀ r', r' ∉ walk.take (k + 1) → s.sameRecord t r') ∧
            t.day = s.day.swept .paused (some (if s.day.restart then .first else posAt r)))) := by
  have run := exec_sweepBurst_eq held
  obtain ⟨k, most, within, done, ends⟩ :=
    burstWalks_burst (E := E) (fuel := Config.burst) (pos := s.day.pos.getD .first) tables
  obtain ⟨out, sweeps, -⟩ := burst_sweeps E Config.burst none (s.day.pos.getD .first) s
  have only := onlyRecords_burst (E := E) (fuel := Config.burst) none (s.day.pos.getD .first) s
  generalize burst E Config.burst none (s.day.pos.getD .first) s = z at *
  have day : z.1.day = s.day := by
    obtain ⟨_, _, _, _, same⟩ := only
    rw [same]
  obtain ⟨d, a, after, -⟩ := afterBurst_eq z.2 z.1
  have store : (refreshAttention (endGrant (afterBurst z.2 z.1))).store = z.1.store := by rw [after]; rfl
  have map : (refreshAttention (endGrant (afterBurst z.2 z.1))).map = z.1.map := by rw [after]; rfl
  have queue : (refreshAttention (endGrant (afterBurst z.2 z.1))).queue = z.1.queue := by rw [after]; rfl
  have same : ∀ r, s.sameRecord z.1 r → s.sameRecord (refreshAttention (endGrant (afterBurst z.2 z.1))) r :=
    fun r h => State.sameRecord_trans h (sameRecord_of_store store r)
  refine ⟨_, k, run, most, within, fun r mem => (sweptAt_congr store map).2 (done r mem), ?_⟩
  refine ends.imp (fun ⟨all, rest, ended⟩ => ⟨all, fun r out => same r (rest r out), ?_⟩)
    fun ⟨r, short, at_, due, full, item, rest, ended⟩ => ⟨r, short, at_, fun swept => due ((sweptAt_congr store map).1 swept),
      ?_, fun sp => same r (item sp), fun r' out => same r' (rest r' out), ?_⟩
  · have ends := afterBurst_ended (s.sweepWalk (s.day.pos.getD .first))[k]? z.1
    rw [← ended, day] at ends
    exact ends
  · obtain ⟨new, entries, queued, -⟩ := sweeps.swept.entries
    have places := places_of_queued only entries (fun e mem => (queued e mem).2.2) full
    rwa [← queue] at places
  · rw [ended, afterBurst_paused, day]
    rfl

/-- A burst leaves the contexts and the line (R59). -/
theorem sweepBurst_sweeps (held : s.arb.held = some ⟨.sweep, E⟩) :
    ∃ t out, exec .sweepBurst s = .next t ∧ s.SweptBy E out t ∧ t.ctxs = s.ctxs ∧ t.line = s.line := by
  obtain ⟨out, sweeps, -⟩ := burst_sweeps E Config.burst none (s.day.pos.getD .first) s
  have only := onlyRecords_burst (E := E) (fuel := Config.burst) none (s.day.pos.getD .first) s
  refine ⟨_, out, exec_sweepBurst_eq held, ?_⟩
  generalize burst E Config.burst none (s.day.pos.getD .first) s = z at *
  obtain ⟨d, a, after, county⟩ := afterBurst_eq z.2 z.1
  rw [after]
  refine ⟨sweeps.swept.of_eq rfl rfl rfl county rfl, ?_, ?_⟩
  all_goals
    obtain ⟨_, _, _, _, same⟩ := only
    rw [same]
    rfl

/-! ## The record at the position -/

theorem afterBurst_finished (on : s.day.restart = false) :
    afterBurst .finished s = { s with day := s.day.swept .idle none } := by
  simp only [afterBurst, on]
  rfl

/-- A burst whose first record stops it is paused there (R60). -/
theorem sweepBurst_paused (held : s.arb.held = some ⟨.sweep, E⟩) (next : nextRecord s (s.day.pos.getD .first) = some r)
    (full : examine E r none s = (s, none, true)) : exec .sweepBurst s = .next (refreshAttention (endGrant
      { s with day := s.day.swept .paused (some (if s.day.restart then .first else posAt r)) })) := by
  rw [exec_sweepBurst_eq held, Config.burst, burst_step next full rfl]
  rfl

/-- The item at the position is brought up, its dispatches the first queued (R59 to R62). -/
theorem sweepBurst_item {x : Item} (held : s.arb.held = some ⟨.sweep, E⟩)
    (next : nextRecord s (s.day.pos.getD .first) = some (.item, n)) (agrees : x.check = .agrees)
    (brings : examine E (.item, n) none s = (touched E n x s, none, false)) :
    ∃ t more, exec .sweepBurst s = .next t ∧
      getItem n t = some (bringUp (classRow s x.cls) (calendarOf s) E n x).1 ∧
      t.queue.entries = (emitAll (bringUp (classRow s x.cls) (calendarOf s) E n x).2 s).queue.entries ++ more := by
  have run := exec_sweepBurst_eq held
  rw [Config.burst, burst_step next brings rfl] at run
  obtain ⟨ds, sends⟩ := bringUp_sends (classRow s x.cls) (calendarOf s) E n x
  obtain ⟨out, sweeps, -⟩ := burst_sweeps E 63 none (posAfter (.item, n)) (touched E n x s)
  obtain ⟨more, entries, -⟩ := sweeps.swept.entries
  have kept : getItem n (touched E n x s) = getItem n (burst E 63 none (posAfter (.item, n)) (touched E n x s)).1 :=
    burst_posAfter (r := (.item, n)) 63 none (by simp) (not_sweptBefore_self _)
  simp only [Bool.false_eq_true, if_false] at run
  generalize burst E 63 none (posAfter (.item, n)) (touched E n x s) = z at *
  obtain ⟨d, a, after, -⟩ := afterBurst_eq z.2 z.1
  rw [after] at run
  refine ⟨_, more, run, kept.symm.trans (getItem_touched agrees), ?_⟩
  have queue : (touched E n x s).queue = (emitAll (bringUp (classRow s x.cls) (calendarOf s) E n x).2 s).queue := by
    rw [(changedAt_touched sends).queue, sends, emitAll_sends]
  rw [← queue]
  exact entries

/-! ## The last title -/

theorem titles_putTitle_le {x : Title} (last : ∀ p ∈ s.store.titles, p.1 ≤ n) :
    ∀ p ∈ (putTitle n x s).store.titles, p.1 ≤ n := by
  intro p mem
  rcases mem_tblSet mem with rfl | old
  · exact Nat.le_refl n
  · exact last p old

theorem titles_afterRemoval_le {x : Title} {h : HoldEntry} (last : ∀ p ∈ s.store.titles, p.1 ≤ n) :
    ∀ p ∈ (afterRemoval n h x s).store.titles, p.1 ≤ n := by
  obtain ⟨q, queued⟩ := enqueueAll_eq (x.expiryDispatches n h) (putTitle n (x.afterExpiry n h) s)
  rw [afterRemoval, queued]
  exact titles_putTitle_le last

/-- A burst that has examined the last title is finished, and the sweep is IDLE (R59). -/
theorem sweepBurst_last (held : s.arb.held = some ⟨.sweep, E⟩)
    (next : nextRecord s (s.day.pos.getD .first) = some (.title, n)) (on : s.day.restart = false)
    (examined : examine E (.title, n) none s = (t, none, false)) (last : ∀ p ∈ t.store.titles, p.1 ≤ n) :
    exec .sweepBurst s = .next (refreshAttention (endGrant { t with day := t.day.swept .idle none })) := by
  have only : OnlyRecords s t := by
    have only := onlyRecords_examine (E := E) (s := s) (r := (.title, n)) none (by simp)
    rwa [examined] at only
  have on' : t.day.restart = false := by
    obtain ⟨_, _, _, _, rfl⟩ := only
    exact on
  have finished : nextRecord t (posAfter (.title, n)) = none := by
    have none_ : tblFrom t.store.titles (n + 1) = none := by
      refine List.find?_eq_none.2 fun p mem => ?_
      have := last p mem
      simp only [decide_eq_true_eq]
      omega
    simp [posAfter, posAt, nextRecord, none_]
  rw [exec_sweepBurst_eq held, Config.burst, burst_step next examined rfl]
  simp only [Bool.false_eq_true, if_false]
  rw [burst_end none finished, afterBurst_finished on']

/-- A title with no expired entry is made current (R63). -/
theorem expireTitle_current {x : Title} (found : getTitle n s = some x) (none_ : x.expired E = none)
    (room : 3 ≤ freePlaces s) :
    expireTitle E n 3 3 (fuel + 1) s = (putTitle n { x with currentTo := E } s, false) := by
  rw [expireTitle_succ found, none_]
  exact if_neg (Nat.not_lt.2 room)

/-- A title with one expired entry loses it first (R63). -/
theorem expireTitle_removes {x : Title} {h : HoldEntry} (found : getTitle n s = some x) (checks : x.checks = true)
    (expired : x.expired E = some h) (room : 3 ≤ freePlaces s) (none_ : (x.afterExpiry n h).expired E = none)
    (room' : 3 ≤ freePlaces (afterRemoval n h x s)) : expireTitle E n 3 3 (x.holds.length + 1) s =
      (putTitle n { x.afterExpiry n h with currentTo := E } (afterRemoval n h x s), false) := by
  obtain ⟨fuel, enough⟩ : ∃ fuel, x.holds.length = fuel + 1 :=
    Nat.exists_eq_add_one_of_ne_zero (List.length_pos_of_mem (Title.mem_of_expired expired)).ne'
  rw [expireTitle_succ found, expired, enough]
  simp only [Nat.not_lt.2 room, if_false]
  exact expireTitle_current (getTitle_afterRemoval checks) none_ room'

/-- Settles O16: the records by `burst_sweeps`, the walk by `burstWalks_burst`, and the record at the position by its
examination. -/
theorem sweepBurstOnlyBringsUp : Obligations.SweepBurstOnlyBringsUp := by
  intro s E held
  refine ⟨sweepBurst_sweeps held, fun tables => ?walks, fun none_ on => ?finished,
    fun n x next home found whole agrees stale => ⟨fun full => ?pausedItem, fun room => ?item⟩,
    fun n x next last on home found whole checks stale => ⟨fun full => ?pausedTitle, fun room none_ => ?current,
      fun h room expired none_ room' => ?removes⟩⟩
  case walks =>
    obtain ⟨t, k, run, most, within, done, ends⟩ := sweepBurst_walks held tables
    refine ⟨t, k, run, most, within, done, ends.imp (fun ⟨all, rest, again, on⟩ => ⟨all, rest, again, fun off => ?_⟩)
      fun ⟨r, short, at_, due, full, item, rest, paused⟩ =>
        ⟨r, short, at_, due, full, item, rest, fun again => ?_, fun off => ?_⟩⟩
    · obtain ⟨finished, goes⟩ := on off
      exact ⟨finished, fun n at_ => goes _ at_, fun n at_ => goes _ at_⟩
    · rw [paused, if_pos again]
      rfl
    · rw [paused, off]
      obtain ⟨_ | _ | _, n⟩ := r <;> rfl
  case finished =>
    rw [exec_sweepBurst_eq held, burst_end none none_, afterBurst_finished on]
    rfl
  case pausedItem =>
    rw [sweepBurst_paused held next (examine_item_full found home whole agrees stale full)]
    rfl
  case item => exact sweepBurst_item held next agrees (examine_item_brings found home whole agrees stale room)
  case pausedTitle =>
    rw [sweepBurst_paused held next (examine_title_full found home whole checks stale full), on]
    rfl
  case current =>
    have examined := examine_title_expires found home whole checks stale room
    rw [expireTitle_current found none_ room] at examined
    exact sweepBurst_last held next on examined (titles_putTitle_le last)
  case removes =>
    have examined := examine_title_expires found home whole checks stale room
    rw [expireTitle_removes found checks expired room none_ room'] at examined
    exact sweepBurst_last held next on examined (titles_putTitle_le (titles_afterRemoval_le last))

end Sys2Proof.Machine
end
